-- ==== Sys2Proof/Word.lean ====
section
/-! DEFINITION. The machine words of the Ulkira 3160: the byte of its ports, the tick of its clock and the
24-bit cell of its transmitter link. Counts, sizes and amounts are plain natural numbers. -/

namespace Sys2Proof

/-- A byte of a frame, a report, a record or a serial character (00_scope.md, Serial order). -/
abbrev Byte := BitVec 8

/-- A value of the station clock, a 32-bit counter of 10 ms ticks that wraps (R1). -/
abbrev Tick := BitVec 32

/-- A cell of the transmitter link: 24 bits, numbered 23 down to 0 (R79, 11_formats.md). -/
abbrev LinkCell := BitVec 24

/-- A character of the station bus as the line carries it (R137), bit i in bit time i with 1 for recessive: the start
bit, the data bits from the least significant, the mark bit and the stop bit. -/
abbrev BusChar := BitVec 11

/-- A set of zones as 24 flags; bit z - 1 stands for zone z (11_formats.md, Supervisory Port). -/
abbrev ZoneSet := BitVec 24

end Sys2Proof
end

