-- ==== Sys2Proof/Syntax.lean ====
section
/-! DEFINITION. The commands of the station: one constructor for every row of spec/opcode_table.json. Each is one
whole and indivisible step (95_what_each_step_holds.md): an operation of the supervisory port, an event on a line,
a frame taken from the bus, or a timer or queue event of a block. The table gives the rows no bits, so the operands
are what the event brings from outside: characters, parameter bytes, the level of an input pin at the
event, or the name of the line, slot or table entry that the event is about. -/

namespace Sys2Proof

/-- The eleven frame kinds of the station bus (R143). -/
inductive FrameKind where
  | forward | cancel | airRequest | withdraw | presence
  | taken | cancelAnswer | airAnswer | withdrawn | aired | heard
  deriving DecidableEq, Repr

/-- The kinds of an outstanding table entry (R159). -/
inductive EntryKind where
  | forward | cancel | airRequest | withdraw
  deriving DecidableEq, Repr

/-- What names one entry of the outstanding table: no two entries share all three (R158). -/
structure EntryKey where
  peer : Nat
  seq : Byte
  kind : EntryKind
  deriving DecidableEq, Repr

/-- What the bus shows at an event (R137, R148). -/
structure LineSeen where
  /-- The characters that the receiver has completed, as `heard` of a frame's command. -/
  heard : List BusChar
  /-- The bit times for which the line has been dominant, 0 on a recessive line. -/
  run : Nat
  deriving DecidableEq, Repr

/-- The commands. `offpeak` is the level of the OFFPEAK input at the event (R113), `line` an intake line (index k - 1
for line k), `bits`, `gap` and `quiet` durations on the bus in bit times. `heard` holds the characters that the
receiver has completed on the bus since the last command that brought it characters, or since it was started afresh
(R137, R140); the kind of an unknown frame and the source of a dropped one stand beside them, as names of the event.
`bits` of a supervisory frame the levels of its data input at the rising edges of its clock (R171).
(DESIGN CHOICE, notes/assumptions/5.md and 6.md.) -/
inductive Instr where
  -- station life and the supervisory port
  | powerOn (resetLow : Bool)
  | resetNFall
  | resetNRise
  | frameStart
  | transferFaultFrame (bits : List Bool)
  | unknownCommand (code : Byte) (params : List Byte)
  | poll (params : List Byte)
  | loadConfig (params : List Byte)
  | loadPlan (params : List Byte)
  | loadRange (params : List Byte)
  | loadSubscriber (params : List Byte)
  | join (params : List Byte)
  | leave (params : List Byte)
  | restart (params : List Byte)
  | setState (params : List Byte)
  | readSubscriber (params : List Byte)
  | takeRecords (params : List Byte)
  | closePeriod (params : List Byte)
  | readCounts (params : List Byte) (seen : LineSeen)
  | clearFaults (params : List Byte)
  -- intake lines
  | seizeRecognised (line : Fin 8)
  | releaseRecognised (line : Fin 8)
  | rateChosen (line : Fin 8) (micros : Nat)
  | measurementOverflow (line : Fin 8)
  | calibrationTimeout (line : Fin 8)
  | characterReceived (offpeak : Bool) (line : Fin 8) (char : Byte) (framing : Bool)
  | entryTimeout (line : Fin 8)
  | verdictTransmission (line : Fin 8)
  -- frames taken from the bus
  | forward (offpeak : Bool) (heard : List BusChar)
  | cancel (offpeak : Bool) (heard : List BusChar)
  | airRequest (heard : List BusChar)
  | withdraw (heard : List BusChar)
  | aired (offpeak : Bool) (heard : List BusChar)
  | heard (offpeak : Bool) (heard : List BusChar)
  | taken (heard : List BusChar)
  | cancelAnswer (heard : List BusChar)
  | airAnswer (offpeak : Bool) (heard : List BusChar)
  | withdrawn (offpeak : Bool) (heard : List BusChar)
  | presence (offpeak : Bool) (heard : List BusChar)
  | badKindFrame (kind : Byte) (heard : List BusChar)
  | frameDroppedBySource (src : Byte) (heard : List BusChar)
  | frameDiscard (heard : List BusChar)
  -- the bus line and its transmitter
  | breakHeard (bits : Nat)
  | shortBreak (bits : Nat)
  | stuckLine
  | stoppedConditionEnd (quiet : Nat)
  | breakStart (gap : Nat)
  | transmissionStart (gap : Nat)
  | frameSent
  | lostArbitration (txFault : Bool)
  -- the Page Store, its timers and the outstanding table
  | issue (offpeak : Bool)
  | lifetimeExpiry (offpeak : Bool) (slot : Fin 256)
  | ackWaitExpiry (offpeak : Bool) (slot : Fin 256)
  | replyTimeout (offpeak : Bool) (key : EntryKey)
  | retryRelease
  -- the Air Scheduler
  | freeCycleStart
  | cycleTimerExpiry
  | slotStart (ready : Bool)
  | cellHanded
  | cycleEnd (offpeak : Bool)
  -- the reverse port and the Matcher
  | reverseReport (char : Byte) (framing : Bool)
  | shortReport
  | extraReportCharacter
  | matcherTakeHead (offpeak : Bool)
  -- presence, joining and leaving
  | presenceTimeout (peer : Nat)
  | presenceInterval
  | listenTimer
  | drain
  -- billing
  | periodCloseStep (offpeak : Bool)
  -- input samples
  | seizeSample (line : Fin 8) (high : Bool)
  | calibrationFirstEdge (line : Fin 8)
  | reportCharacterReceived (char : Byte) (framing : Bool)
  deriving DecidableEq, Repr

end Sys2Proof
end

