-- ==== Sys2Proof/Config.lean ====
section
/-! DEFINITION. What the part fixes (the sizes of its stores) and the free values: constants with no body, one
for every value that the manual leaves unstated while the machine goes on. -/

namespace Sys2Proof.Config

/-- R2: the directory holds at most 1,024 subscriber records. -/
def directorySize : Nat := 1024
/-- R5: the home map holds at most 16 ranges. -/
def homeMapSize : Nat := 16
/-- R128: the billing record queue holds at most 128 records. -/
def billingQueueSize : Nat := 128
/-- R13, R132: an acceptance needs at least this many free billing entries, a walk step more than it. -/
def billingReserve : Nat := 16
/-- R13: a subscriber has at most 8 live deliveries. -/
def maxLiveDeliveries : Nat := 8
/-- R67: the regular air queue holds at most 64 entries. -/
def regularQueueSize : Nat := 64
/-- R67: the priority air queue holds at most 4 entries. -/
def priorityQueueSize : Nat := 4
/-- R93: the reverse FIFO holds at most 8 reports. -/
def reverseFifoSize : Nat := 8
/-- R151: the answer queue holds at most 24 frames. -/
def answerQueueSize : Nat := 24
/-- R152: the request queue holds at most 32 frames. -/
def requestQueueSize : Nat := 32
/-- R159: the outstanding request table holds at most 96 entries. -/
def outstandingSize : Nat := 96
/-- R26: an intake line's receiver FIFO holds at most two characters. -/
def receiverFifoSize : Nat := 2

/-- FREE VALUE (11_formats.md gives codes for the sixteen numeric characters only; a body taken from the bus is
not judged, R189): the 4-bit code of any other character in a numeric body. (DESIGN CHOICE, notes/assumptions/9.md.) -/
opaque unlistedNumericCode : Byte → BitVec 4

/-- FREE VALUE (11_formats.md gives the 7-bit code of 0x20 to 0x7E only; a body taken from the bus is not judged,
R189): the 7-bit code of any other character in a text body. (DESIGN CHOICE, notes/assumptions/9.md.) -/
opaque unlistedTextCode : Byte → BitVec 7

/-- FREE VALUE: the tag cell of a tag whose home does not fit five bits or whose attempt does not fit three
(R67 gives the ranges 1-24 and 1-7; R189 does not judge the tag of an AIR-REQUEST).
(DESIGN CHOICE, notes/assumptions/9.md.) -/
opaque oversizedTagCell : Byte → Byte → Byte → Byte → BitVec 24

/-- FREE VALUE: bits 20-0 of the address cell for an air address above 2,097,151 (R67 gives the range; R189 does
not judge the address of an AIR-REQUEST). (DESIGN CHOICE, notes/assumptions/9.md.) -/
opaque oversizedAddressBits : Nat → BitVec 21

/-- FREE VALUE: the walk position that READ-COUNTS reports while no period-close walk is running (R130 asks for
"whether a period-close walk is running, and its position"; no position exists then), by the tick of the reading.
(DESIGN CHOICE, notes/assumptions/9.md.) -/
opaque idleWalkPosition : BitVec 32 → BitVec 16

/-- FREE VALUE: the sequence character of an AIRED frame, by the tick of the cycle end (R138 and R157 give a sequence
to a request and to the answer of one request, R158 gives 0 to PRESENCE and HEARD; an AIRED frame reports many
requests and no rule states its sequence; no receiver reads it). (DESIGN CHOICE, notes/assumptions/9.md.) -/
opaque airedSequence : BitVec 32 → Byte

end Sys2Proof.Config
end

