-- ==== Sys2Proof/Machine/State.lean ====
section
/-! DEFINITION. The state of one Ulkira 3160 station, block by block, as plain data; its value after power-on; and
the updates of its blocks. -/

namespace Sys2Proof.Machine

/-! ## Station life and configuration -/

/-- The five station states (R185). -/
inductive StationState where
  | unconfigured | configured | joining | onBus | leaving
  deriving DecidableEq, Repr

/-- The kind of the last reset (R176). -/
inductive ResetKind where
  | powerOn | pin | command
  deriving DecidableEq, Repr

/-- The air cycle mode of the configuration (R180). -/
inductive AirMode where
  | free | aligned
  deriving DecidableEq, Repr

/-- The four bus rates, 62,500 to 500,000 bit/s (R136). -/
inductive BusRate where
  | b62500 | b125000 | b250000 | b500000
  deriving DecidableEq, Repr

/-- The four line rates, 300 to 9,600 bit/s (R19). -/
inductive LineRate where
  | r300 | r1200 | r2400 | r9600
  deriving DecidableEq, Repr

/-- The settings of one intake line (R180). -/
structure LineConfig where
  defaultRate : LineRate
  /-- SEIZE is active at the high level. -/
  activeHigh : Bool
  deriving DecidableEq, Repr

/-- The configuration record (R180), as held after the clamps of its load. -/
structure StationConfig where
  station : Nat
  airing : Bool
  mode : AirMode
  /-- Bit k enables air slot k. -/
  slotMask : BitVec 16
  /-- Ticks. -/
  slotTime : Nat
  busRate : BusRate
  /-- Seconds. -/
  presenceTimeout : Nat
  /-- Ticks. -/
  replyTimeout : Nat
  /-- Seconds. -/
  entryTimeout : Nat
  lines : Vector LineConfig 8
  minQuality : Nat
  deriving DecidableEq, Repr

/-- What a reader of the configuration sees while none is held: every number 0 (R184 for the two timeouts).
(DEDUCED, notes/assumptions/23.md.) -/
def StationConfig.blank : StationConfig :=
  { station := 0, airing := false, mode := .free, slotMask := 0, slotTime := 0, busRate := .b62500,
    presenceTimeout := 0, replyTimeout := 0, entryTimeout := 0,
    lines := Vector.replicate 8 { defaultRate := .r300, activeHigh := false }, minQuality := 0 }

/-- The station's own life: its state, its last reset, the hold of RESET_N and the configuration record. -/
structure Life where
  state : StationState
  lastReset : ResetKind
  /-- RESET_N holds the station in reset (R186). -/
  held : Bool
  /-- The level of RESET_N at the last tick that sampled it since power-on, true when high (R186). -/
  sample : Option Bool
  /-- The level of RESET_N that was recognised last since power-on (R186). -/
  recognised : Option Bool
  config : Option StationConfig
  deriving DecidableEq, Repr

/-- The levels of the input pins that a command or a tick reads, as the last command that brought them found them. -/
structure Pins where
  /-- OFFPEAK (R113). -/
  offpeak : Bool
  /-- READY of the transmitter link (R79). -/
  ready : Bool
  /-- RESET_N, true when high (R186). -/
  resetN : Bool
  deriving DecidableEq, Repr

/-! ## Subscriber Directory -/

/-- The policy of a plan (R111). -/
inductive Policy where
  | soft | hard
  deriving DecidableEq, Repr

/-- A plan (R111), after the clamps of its load (R112). -/
structure Plan where
  acceptFee : Nat
  cellFee : Nat
  retryPercent : Nat
  discount : Nat
  allowance : Nat
  lowWatch : Nat
  highWatch : Nat
  policy : Policy
  messageCap : Nat
  missRefund : Nat
  maxAttempts : Nat
  /-- Seconds. -/
  ackWait : Nat
  /-- Seconds. -/
  backoffBase : Nat
  /-- Seconds. -/
  backoffCap : Nat
  /-- Minutes. -/
  lifetime : Nat
  widening : Bool
  finalSweep : Bool
  priorityAllowed : Bool
  deriving DecidableEq, Repr

/-- R8: every plan after power-on, which is what a LOAD-PLAN with every field zero leaves. -/
def Plan.powerOn : Plan :=
  { acceptFee := 0, cellFee := 0, retryPercent := 0, discount := 0, allowance := 0, lowWatch := 0, highWatch := 0,
    policy := .soft, messageCap := 0, missRefund := 0, maxAttempts := 1, ackWait := 5, backoffBase := 1,
    backoffCap := 1, lifetime := 1, widening := false, finalSweep := false, priorityAllowed := false }

/-- A range of the home map (R5). -/
structure Range where
  first : Nat
  last : Nat
  station : Nat
  deriving DecidableEq, Repr

/-- The state field of a subscriber record (R3). -/
inductive SubscriberState where
  | active | suspended
  deriving DecidableEq, Repr

/-- A subscriber record: the static fields of R3 and the accumulators of R4. -/
structure Subscriber where
  number : Nat
  address : Nat
  plan : Fin 16
  state : SubscriberState
  homeZones : ZoneSet
  wideZones : ZoneSet
  periodTotal : Nat
  saturated : Bool
  usage : Nat
  accepted : Nat
  missed : Nat
  warnLow : Bool
  warnHigh : Bool
  live : Nat
  deriving DecidableEq, Repr

/-! ## Message classes, tags and frames -/

/-- The coding of a message (00_scope.md, Class). -/
inductive Medium where
  | numeric | text | tone
  deriving DecidableEq, Repr

/-- The class of a message. -/
structure MessageClass where
  medium : Medium
  priority : Bool
  deriving DecidableEq, Repr

/-- A tag: one attempt of one delivery anywhere in the office (00_scope.md, Tag). -/
structure Tag where
  home : Byte
  slot : Byte
  gen : Byte
  attempt : Byte
  deriving DecidableEq, Repr

/-- A frame of this station's making, in a queue or waiting for room (R138). -/
structure Frame where
  kind : FrameKind
  dest : Byte
  src : Byte
  seq : Byte
  payload : List Byte
  deriving DecidableEq, Repr

/-! ## Intake Unit -/

/-- A character completed by a serial receiver, with its framing-error mark (R25, R91). -/
structure RxChar where
  byte : Byte
  framing : Bool
  deriving DecidableEq, Repr

/-- The states of an intake line (R19). -/
inductive LineState where
  | idle | rate | awaitOpen | collect | lookup | halted
  deriving DecidableEq, Repr

/-- The nine verdicts (R38). -/
inductive Verdict where
  | accept | unknown | suspended | quota | noPriority | busy | unreachable | badEntry | timeout
  deriving DecidableEq, Repr

/-- The entry under assembly (R28). -/
structure EntryAssembly where
  /-- The characters stored between OPEN and CLOSE, in order. -/
  chars : List Byte
  /-- The running check sum. -/
  sum : Byte
  framing : Bool
  tooLong : Bool
  /-- CLOSE has been taken: the next character is the CHECK. -/
  awaitingCheck : Bool
  deriving DecidableEq, Repr

/-- A verdict character in the transmit buffer, with the rate at which it is sent (R19, R38). -/
structure TxChar where
  byte : Byte
  rate : Option LineRate
  deriving DecidableEq, Repr

/-- A verdict character in the transmitter's shift stage (R19, R38). -/
structure TxShift where
  /-- The bits put on TX, bit i in bit time i: the start bit, the data bits from the least significant, the stop bit. -/
  bits : BitVec 10
  rate : Option LineRate
  /-- The tick of the event at which it was taken from the buffer. -/
  since : Tick
  deriving DecidableEq, Repr

/-- The counters of one intake line (R39). -/
structure LineCounts where
  seizures : Nat
  fallbacks : Nat
  overruns : Nat
  abandoned : Nat
  badTaken : Nat
  deriving DecidableEq, Repr

/-- An intake line context (R19). -/
structure Line where
  /-- Recognised SEIZE. -/
  seized : Bool
  /-- Consecutive samples that disagree with the recognised SEIZE. -/
  disagree : Nat
  state : LineState
  rate : Option LineRate
  rateFallback : Bool
  overrun : Bool
  /-- In RATE, the measurement counter once the first falling edge has been seen (R23). -/
  measuring : Option (BitVec 16)
  /-- The receiver's shift stage: a character completed and not yet passed on. -/
  rxShift : Option RxChar
  /-- The receiver FIFO, oldest first. -/
  fifo : List RxChar
  entry : Option EntryAssembly
  /-- The line timer's due tick. -/
  timer : Option Tick
  /-- In LOOKUP, the outstanding entry of the line's FORWARD. -/
  lookup : Option EntryKey
  txBuffer : Option TxChar
  txShift : Option TxShift
  counts : LineCounts
  deriving DecidableEq, Repr

/-- The counters of a line after power-on and after a warm reset (R39). -/
def LineCounts.zero : LineCounts := { seizures := 0, fallbacks := 0, overruns := 0, abandoned := 0, badTaken := 0 }

/-- A line context after power-on and after a warm reset (R19). -/
def Line.fresh : Line :=
  { seized := false, disagree := 0, state := .idle, rate := none, rateFallback := false, overrun := false,
    measuring := none, rxShift := none, fifo := [], entry := none, timer := none, lookup := none, txBuffer := none,
    txShift := none, counts := LineCounts.zero }

/-- The station-wide counters of the Intake Unit (R39). -/
structure IntakeCounts where
  accept : Nat
  unknown : Nat
  suspended : Nat
  quota : Nat
  noPriority : Nat
  busy : Nat
  unreachable : Nat
  badEntry : Nat
  timeout : Nat
  cancelDone : Nat
  cancelTooLate : Nat
  cancelUnknown : Nat
  cancelUnanswered : Nat
  deriving DecidableEq, Repr

/-- R39: every counter is 0 after power-on and after a warm reset. -/
def IntakeCounts.zero : IntakeCounts :=
  { accept := 0, unknown := 0, suspended := 0, quota := 0, noPriority := 0, busy := 0, unreachable := 0,
    badEntry := 0, timeout := 0, cancelDone := 0, cancelTooLate := 0, cancelUnknown := 0, cancelUnanswered := 0 }

/-- The Intake Unit. -/
structure Intake where
  lines : Vector Line 8
  counts : IntakeCounts
  deriving DecidableEq, Repr

/-! ## Page Store and Retry Queue -/

/-- The live states of a delivery (R45). -/
inductive DeliveryState where
  | issuing | airPending | awaitAck | settling | retryWait
  deriving DecidableEq, Repr

/-- The zone entry states of an attempt (R51). -/
inductive ZoneState where
  | sent | accepted | withdrawing | aired | refused | withdrawn | lost | absent
  deriving DecidableEq, Repr

/-- One entry of an attempt's zone list (R43). -/
structure ZoneEntry where
  zone : Nat
  state : ZoneState
  deriving DecidableEq, Repr

/-- The outcome of a closed attempt (R43). -/
inductive AttemptOutcome where
  | acked | missed
  deriving DecidableEq, Repr

/-- The current attempt of a delivery (R43). -/
structure Attempt where
  number : Nat
  zones : List ZoneEntry
  ackDue : Option Tick
  /-- Absent while the attempt is open. -/
  outcome : Option AttemptOutcome
  deriving DecidableEq, Repr

/-- The origin of a delivery taken from a FORWARD (R43). -/
structure Origin where
  station : Nat
  seq : Byte
  deriving DecidableEq, Repr

/-- A delivery record (R43). -/
structure Delivery where
  /-- The subscriber's index in the directory. -/
  subscriber : Nat
  cls : MessageClass
  body : List Byte
  cells : Nat
  origin : Option Origin
  lifetimeDue : Tick
  counted : Nat
  issued : Bool
  expiry : Bool
  attempt : Option Attempt
  charged : Nat
  retryCharges : Nat
  /-- Present in RETRY-WAIT. -/
  due : Option Tick
  state : DeliveryState
  deriving DecidableEq, Repr

/-- A delivery slot (R41). -/
structure Slot where
  gen : Byte
  held : Option Delivery
  deriving DecidableEq, Repr

/-- The Page Store with its issue queue, and the Retry Queue with its two counters (R41, R47, R106, R110). -/
structure PageStore where
  slots : Vector Slot 256
  /-- The slots of the deliveries in ISSUING, head first. -/
  issue : List (Fin 256)
  /-- The slots of the deliveries in RETRY-WAIT, earliest due first. -/
  retry : List (Fin 256)
  scheduled : Nat
  released : Nat
  deriving DecidableEq, Repr

/-! ## Air Scheduler -/

/-- The states of an air request entry (R67). -/
inductive AirState where
  | queued | packed | done
  deriving DecidableEq, Repr

/-- Who is owed the answer to a pending WITHDRAW, and its sequence (R67). The station's own number stands for the
station's own Page Store, whose sequence is 0. -/
structure PendingWithdraw where
  station : Nat
  seq : Byte
  deriving DecidableEq, Repr

/-- An air request entry (R67). -/
structure AirEntry where
  tag : Tag
  address : Nat
  cls : MessageClass
  cells : Nat
  body : List Byte
  state : AirState
  returned : Bool
  withdraw : Option PendingWithdraw
  deriving DecidableEq, Repr

/-- What became of a page on the cycle's air report list (R78, R83). -/
inductive PageOutcome where
  | started | returned | done
  deriving DecidableEq, Repr

/-- One tag of the air report list, with the queue it came from (R78). -/
structure ReportItem where
  tag : Tag
  priority : Bool
  outcome : PageOutcome
  deriving DecidableEq, Repr

/-- A cell assigned to the current slot and not yet handed (R76). -/
structure SlotCell where
  bits : LinkCell
  /-- The page the cell belongs to; absent for an idle cell. -/
  page : Option Tag
  /-- It is the last cell of its page. -/
  last : Bool
  deriving DecidableEq, Repr

/-- The continuing page: its tag and the cells it has still to be assigned (R76). -/
structure Continuing where
  tag : Tag
  cells : List LinkCell
  deriving DecidableEq, Repr

/-- The cycle in progress (R72). -/
structure Cycle where
  /-- The tick of its start. -/
  start : Tick
  keyed : Bool
  /-- The lowest air slot not yet reached. -/
  nextSlot : Nat
  /-- When the slot whose cells are being handed began, in eighths of a tick after the start (R72: the cell time is
  one eighth of the slot time). -/
  slotBegin : Nat
  /-- The cells of the current slot still to be handed. -/
  cells : List SlotCell
  continuing : Option Continuing
  /-- The starting of pages has stopped for the rest of the cycle (R78). -/
  stopped : Bool
  report : List ReportItem
  pageCells : Nat
  idleCells : Nat
  skipped : Nat
  deriving DecidableEq, Repr

/-- The six cycle counters, 32 bits wide, that wrap (R86). -/
structure CycleCounts where
  cycles : BitVec 32
  pagesAired : BitVec 32
  cellsAired : BitVec 32
  idleCells : BitVec 32
  slotsSkipped : BitVec 32
  priorityPages : BitVec 32
  deriving DecidableEq, Repr

/-- R86: all six are 0 after power-on and after a warm reset. -/
def CycleCounts.zero : CycleCounts :=
  { cycles := 0, pagesAired := 0, cellsAired := 0, idleCells := 0, slotsSkipped := 0, priorityPages := 0 }

/-- The other counters of the Air Scheduler (R87). -/
structure AirCounts where
  requestsAccepted : Nat
  requestsMerged : Nat
  refusedLeaving : Nat
  refusedNotZone : Nat
  refusedFull : Nat
  withdrawnAtOnce : Nat
  withdrawDeferred : Nat
  withdrawUnknown : Nat
  purged : Nat
  marksSent : Nat
  marksIgnored : Nat
  unmarkedCycles : Nat
  deriving DecidableEq, Repr

/-- R87: all are 0 after power-on and after a warm reset. -/
def AirCounts.zero : AirCounts :=
  { requestsAccepted := 0, requestsMerged := 0, refusedLeaving := 0, refusedNotZone := 0, refusedFull := 0,
    withdrawnAtOnce := 0, withdrawDeferred := 0, withdrawUnknown := 0, purged := 0, marksSent := 0,
    marksIgnored := 0, unmarkedCycles := 0 }

/-- The Air Scheduler and the outputs of its transmitter link (R67, R79). -/
structure Air where
  regular : List AirEntry
  priority : List AirEntry
  cycle : Option Cycle
  /-- The cycle timer's due tick (R74). -/
  timer : Option Tick
  /-- KEY is asserted. -/
  key : Bool
  /-- The cell handed last: cell data at the latest strobe pulse. -/
  lastCell : Option LinkCell
  cycleCounts : CycleCounts
  counts : AirCounts
  deriving DecidableEq, Repr

/-- R67, R68, R90: the Air Scheduler after power-on and after a warm reset. -/
def Air.fresh : Air :=
  { regular := [], priority := [], cycle := none, timer := none, key := false, lastCell := none,
    cycleCounts := CycleCounts.zero, counts := AirCounts.zero }

/-! ## Acknowledgement Matcher -/

/-- A report held by the reverse FIFO (R93). -/
structure Report where
  tag : Tag
  quality : Byte
  deriving DecidableEq, Repr

/-- The reverse port between two characters (R91): no report under assembly, one to five characters gathered, or a
complete report with no idle gap since; `counted` says the run's extra characters have raised BAD-REPORT. -/
inductive ReverseRun where
  | idle
  | gathering (chars : List RxChar)
  | complete (counted : Bool)
  deriving DecidableEq, Repr

/-- The counters of the Matcher (R102). -/
structure MatcherCounts where
  reportsTaken : Nat
  badReport : Nat
  lowQuality : Nat
  ignored : Nat
  fifoFull : Nat
  relayed : Nat
  homeAbsent : Nat
  purgedReports : Nat
  heardTaken : Nat
  misrouted : Nat
  stale : Nat
  ackClosed : Nat
  ackTurned : Nat
  ackDuplicate : Nat
  ackDirect : Nat
  deriving DecidableEq, Repr

/-- R103: every counter of R102 is 0 after power-on and after a warm reset. -/
def MatcherCounts.zero : MatcherCounts :=
  { reportsTaken := 0, badReport := 0, lowQuality := 0, ignored := 0, fifoFull := 0, relayed := 0, homeAbsent := 0,
    purgedReports := 0, heardTaken := 0, misrouted := 0, stale := 0, ackClosed := 0, ackTurned := 0,
    ackDuplicate := 0, ackDirect := 0 }

/-- The Acknowledgement Matcher. -/
structure Matcher where
  fifo : List Report
  run : ReverseRun
  counts : MatcherCounts
  deriving DecidableEq, Repr

/-- R93, R103: the Matcher after power-on and after a warm reset. -/
def Matcher.fresh : Matcher := { fifo := [], run := .idle, counts := MatcherCounts.zero }

/-! ## Billing Meter -/

/-- The kinds of a billing record (R125). -/
inductive RecordKind where
  | acceptFee | attempt | cancelCredit | missCredit | quotaNotice | periodClose
  deriving DecidableEq, Repr

/-- A billing record (R125); a part that is absent for the kind is none. -/
structure BillingRecord where
  seq : BitVec 16
  kind : RecordKind
  number : Nat
  /-- The delivery reference: slot and generation. -/
  delivery : Option (Byte × Byte)
  attempt : Option Nat
  /-- N and z. -/
  cells : Option (Nat × Nat)
  /-- The watch level of a notice: true for HIGH. -/
  watchHigh : Option Bool
  amount : Nat
  credit : Bool
  offpeak : Bool
  totalAfter : Nat
  usageAfter : Nat
  /-- The accepted and missed counts. -/
  tallies : Option (Nat × Nat)
  deriving DecidableEq, Repr

/-- The Billing Meter: the record queue, the sequence counter, the records-lost count and the period-close walk's
position while one runs. -/
structure Billing where
  queue : List BillingRecord
  seq : BitVec 16
  lost : Nat
  walk : Option Nat
  deriving DecidableEq, Repr

/-! ## Station Bus Controller -/

/-- What BUS_TX is doing (R144). A frame in transmission is the head of its queue; `chars` are the characters that go
on the line, CRC included (R137 to R139), and `removed` says that its removal was called for while it was in
transmission (R153). -/
inductive Transmission where
  | idle
  /-- BUS_TX is held low for a break (R147). -/
  | breaking
  | answer (chars : List BusChar) (removed : Bool)
  | request (chars : List BusChar) (removed : Bool)
  deriving DecidableEq, Repr

/-- The counters of the bus controller (R154). -/
structure BusCounts where
  framesTaken : Nat
  framesSent : Nat
  lostArbitration : Nat
  txFaults : Nat
  framingErrors : Nat
  lengthErrors : Nat
  interrupted : Nat
  crcErrors : Nat
  badSource : Nat
  duplicateSource : Nat
  shortBreaks : Nat
  marksHeard : Nat
  stuckEvents : Nat
  answersDropped : Nat
  deriving DecidableEq, Repr

/-- R155: every counter of R154 is 0 after power-on and after a warm reset. -/
def BusCounts.zero : BusCounts :=
  { framesTaken := 0, framesSent := 0, lostArbitration := 0, txFaults := 0, framingErrors := 0, lengthErrors := 0,
    interrupted := 0, crcErrors := 0, badSource := 0, duplicateSource := 0, shortBreaks := 0, marksHeard := 0,
    stuckEvents := 0, answersDropped := 0 }

/-- The Station Bus Controller. -/
structure Bus where
  /-- The answer queue, head first (R151). -/
  answers : List Frame
  /-- The request queue, head first (R152). -/
  requests : List Frame
  /-- The frames waiting for request-queue room, in the order in which they began to wait (R152). -/
  waiting : List Frame
  tx : Transmission
  /-- The frame under reception: the bytes of the characters taken into it, from the address on (R140). -/
  rx : Option (List Byte)
  /-- The bit times that the dominant run in progress was last found to have lasted, 0 when none was (R137, R148). -/
  run : Nat
  /-- The dominant run in progress began as this station's own break (R147, R148). -/
  drove : Bool
  pendingMark : Bool
  /-- The stopped condition (R149). -/
  stopped : Bool
  counts : BusCounts
  deriving DecidableEq, Repr

/-- R136, R155: the controller after power-on and after a warm reset. -/
def Bus.fresh : Bus :=
  { answers := [], requests := [], waiting := [], tx := .idle, rx := none, run := 0, drove := false, pendingMark := false,
    stopped := false, counts := BusCounts.zero }

/-! ## Exchange Unit -/

/-- Who owns an outstanding entry (R159). -/
inductive Owner where
  | line (k : Fin 8)
  | zone (slot : Fin 256) (zone : Nat)
  deriving DecidableEq, Repr

/-- The phases of an outstanding entry (R160). -/
inductive Phase where
  | waiting | queued | sent | held
  deriving DecidableEq, Repr

/-- An entry of the outstanding request table (R159). -/
structure Outstanding where
  key : EntryKey
  owner : Owner
  phase : Phase
  due : Option Tick
  deriving DecidableEq, Repr

/-- The state a peer last reported (R163). -/
inductive ReportedState where
  | none | onBus | leaving
  deriving DecidableEq, Repr

/-- An entry of the presence table (R163). -/
structure Presence where
  present : Bool
  lastHeard : Tick
  absenceDue : Option Tick
  airing : Bool
  reported : ReportedState
  deriving DecidableEq, Repr

/-- R164: a presence entry after power-on and after a warm reset. -/
def Presence.fresh : Presence :=
  { present := false, lastHeard := 0, absenceDue := none, airing := false, reported := .none }

/-- The counters of the Exchange Unit (R169). -/
structure ExchangeCounts where
  badKind : Nat
  misaddressed : Nat
  badPayload : Nat
  notMember : Nat
  late : Nat
  replyTimeouts : Nat
  sequenceSkips : Nat
  peersTimedOut : Nat
  leavesHeard : Nat
  freshJoinsHeard : Nat
  presenceSent : Nat
  deriving DecidableEq, Repr

/-- R170: every counter of R169 is 0 after power-on and after a warm reset. -/
def ExchangeCounts.zero : ExchangeCounts :=
  { badKind := 0, misaddressed := 0, badPayload := 0, notMember := 0, late := 0, replyTimeouts := 0,
    sequenceSkips := 0, peersTimedOut := 0, leavesHeard := 0, freshJoinsHeard := 0, presenceSent := 0 }

/-- The Exchange Unit. -/
structure Exchange where
  /-- The outstanding request table, in the order of the claims. -/
  table : List Outstanding
  seq : Byte
  /-- The presence table; station n stands at index n - 1. -/
  presence : Vector Presence 24
  /-- The listen timer's due tick (R167). -/
  listenDue : Option Tick
  /-- The presence interval's due tick (R165). -/
  intervalDue : Option Tick
  /-- The leaving PRESENCE has been made since the station entered LEAVING (R168). -/
  leaveMade : Bool
  counts : ExchangeCounts
  deriving DecidableEq, Repr

/-- R170: the Exchange Unit after power-on. A warm reset leaves the same but for the sequence counter. -/
def Exchange.fresh : Exchange :=
  { table := [], seq := 0, presence := Vector.replicate 24 Presence.fresh, listenDue := none, intervalDue := none,
    leaveMade := false, counts := ExchangeCounts.zero }

/-! ## Supervisory Port -/

/-- The result codes of a command (R173). -/
inductive Result where
  | done | refusedState | badParam | notNow
  deriving DecidableEq, Repr

/-- The previous command of the status word (R176): a command byte, one that names no command, or NONE. -/
inductive Previous where
  | code (c : Byte)
  | noCommand
  | none
  deriving DecidableEq, Repr

/-- The pending response (R174). -/
structure Response where
  previous : Previous
  result : Result
  crcFault : Bool
  lengthFault : Bool
  data : List Byte
  deriving DecidableEq, Repr

/-- The frame on the supervisory port (R171, R174, R186). -/
inductive PortFrame where
  /-- Select is high. -/
  | closed
  /-- Select is low: the bytes of the response that the frame shifts out. -/
  | shifting (out : List Byte)
  /-- Select is low in a frame that a hold of RESET_N met: it shifts out nothing and is not executed. -/
  | ignored
  deriving DecidableEq, Repr

/-- The Supervisory Port: the pending response, the frame on the port, and the two fault latches. -/
structure Port where
  response : Response
  frame : PortFrame
  recordLost : Bool
  busStuck : Bool
  deriving DecidableEq, Repr

/-! ## The state -/

/-- The state of one station, and the commands waiting to be taken, first in, first out. -/
structure State where
  tick : Tick
  pins : Pins
  life : Life
  plans : Vector Plan 16
  ranges : List Range
  directory : List Subscriber
  intake : Intake
  store : PageStore
  air : Air
  matcher : Matcher
  billing : Billing
  bus : Bus
  exchange : Exchange
  port : Port
  pending : List Instr
  deriving DecidableEq, Repr

/-- Why the machine stops: the spec names no event that stops the station (every damaged frame, bad character and
refused command is counted or answered and the station goes on), so no constructor is needed. Safe. -/
inductive Fault where
  deriving DecidableEq, Repr

/-- Why a command has no meaning. -/
inductive Refusal where
  /-- Raised by exec for a row of the table that has no meaning yet; none is left. Safe. -/
  | notModelled (mnemonic : String)
  deriving DecidableEq, Repr

/-- The power-on state (R188, with R4, R8, R19, R41, R67, R93, R130, R155, R170), nothing waiting, RESET_N high.
(DESIGN CHOICE, notes/assumptions/21.md, for the levels of the pins.) -/
def State.reset : State :=
  { tick := 0
    pins := { offpeak := false, ready := false, resetN := true }
    life := { state := .unconfigured, lastReset := .powerOn, held := false, sample := none, recognised := none,
              config := none }
    plans := Vector.replicate 16 Plan.powerOn
    ranges := []
    directory := []
    intake := { lines := Vector.replicate 8 Line.fresh, counts := IntakeCounts.zero }
    store := { slots := Vector.replicate 256 { gen := 0, held := none }, issue := [], retry := [],
               scheduled := 0, released := 0 }
    air := Air.fresh
    matcher := Matcher.fresh
    billing := { queue := [], seq := 0, lost := 0, walk := none }
    bus := Bus.fresh
    exchange := Exchange.fresh
    port := { response := { previous := .none, result := .done, crcFault := false, lengthFault := false, data := [] }
              frame := .closed, recordLost := false, busStuck := false }
    pending := [] }

/-! ## The updates of the blocks -/

/-- Set the tick counter. -/
def State.setTick (s : State) (t : Tick) : State := { s with tick := t }
/-- Change the pins. -/
def State.mapPins (s : State) (f : Pins → Pins) : State := { s with pins := f s.pins }
/-- Change the station's life. -/
def State.mapLife (s : State) (f : Life → Life) : State := { s with life := f s.life }
/-- Change the plan table. -/
def State.mapPlans (s : State) (f : Vector Plan 16 → Vector Plan 16) : State := { s with plans := f s.plans }
/-- Change the home map. -/
def State.mapRanges (s : State) (f : List Range → List Range) : State := { s with ranges := f s.ranges }
/-- Change the directory. -/
def State.mapDirectory (s : State) (f : List Subscriber → List Subscriber) : State :=
  { s with directory := f s.directory }
/-- Change the Intake Unit. -/
def State.mapIntake (s : State) (f : Intake → Intake) : State := { s with intake := f s.intake }
/-- Change the Page Store. -/
def State.mapStore (s : State) (f : PageStore → PageStore) : State := { s with store := f s.store }
/-- Change the Air Scheduler. -/
def State.mapAir (s : State) (f : Air → Air) : State := { s with air := f s.air }
/-- Change the Matcher. -/
def State.mapMatcher (s : State) (f : Matcher → Matcher) : State := { s with matcher := f s.matcher }
/-- Change the Billing Meter. -/
def State.mapBilling (s : State) (f : Billing → Billing) : State := { s with billing := f s.billing }
/-- Change the bus controller. -/
def State.mapBus (s : State) (f : Bus → Bus) : State := { s with bus := f s.bus }
/-- Change the Exchange Unit. -/
def State.mapExchange (s : State) (f : Exchange → Exchange) : State := { s with exchange := f s.exchange }
/-- Change the Supervisory Port. -/
def State.mapPort (s : State) (f : Port → Port) : State := { s with port := f s.port }
/-- Set the queue of waiting commands. -/
def State.setPending (s : State) (cs : List Instr) : State := { s with pending := cs }

end Sys2Proof.Machine
end

