-- ==== Sys2Proof/Machine/Flags.lean ====
section
/-! DEFINITION. The station's comparisons of time, its saturating counters, and the flags it shows: the status word
and ATTN_N. -/

namespace Sys2Proof.Machine

/-! ## Time (R1) -/

/-- R1: a due time is reached when the counter minus the due time, taken modulo 2^32 and read as signed, is not
negative. -/
def reached (now due : Tick) : Bool := !(now - due).msb

/-- A running timer has reached its due tick. -/
def timerReached (now : Tick) (due : Option Tick) : Bool :=
  match due with
  | some d => reached now d
  | none => false

/-- R106: due tick `a` is earlier than due tick `b`, by their signed difference. -/
def earlier (a b : Tick) : Bool := (a - b).msb

/-- The tick `n` ticks after `now`. -/
def ticksAfter (now : Tick) (n : Nat) : Tick := now + BitVec.ofNat 32 n

/-- 00_scope.md, Seconds and minutes: 100 ticks per second. -/
def seconds (n : Nat) : Nat := 100 * n

/-- 6,000 ticks per minute. -/
def minutes (n : Nat) : Nat := 6000 * n

/-! ## Saturating counters -/

/-- A counter of 0-65,535 raised by one, stopping at its maximum (00_scope.md, Saturating and clamped values). -/
def raise (n : Nat) : Nat := min (n + 1) 65535

/-- Raise a value by an amount, stopping at a limit. -/
def raiseTo (limit n amount : Nat) : Nat := min (n + amount) limit

/-- R4, R114: the greatest period total. -/
def maxTotal : Nat := 4294967295

/-- R4: the greatest usage. -/
def maxUsage : Nat := 16777215

/-! ## ATTN_N and the status word -/

/-- R177: ATTN_N is driven low while a billing record is queued or a fault is latched. -/
def attention (s : State) : Bool := !s.billing.queue.isEmpty || s.port.recordLost || s.port.busStuck

/-- A flag as a number. -/
def flag (b : Bool) : Nat := if b then 1 else 0

/-- 11_formats.md, Status byte 0: the code of a station state. -/
def stateCode : StationState → Nat
  | .unconfigured => 0
  | .configured => 1
  | .joining => 2
  | .onBus => 3
  | .leaving => 4

/-- 11_formats.md, Status byte 0: the code of a reset kind. -/
def resetCode : ResetKind → Nat
  | .powerOn => 0
  | .pin => 1
  | .command => 2

/-- 11_formats.md, Status byte 2: the code of a result. -/
def resultCode : Result → Nat
  | .done => 0
  | .refusedState => 1
  | .badParam => 2
  | .notNow => 3

/-- 11_formats.md, Status byte 3: the previous command. -/
def previousCode : Previous → Byte
  | .code c => c
  | .noCommand => 0xFE
  | .none => 0xFF

/-- R176: the four bytes of the status word, the live fields from the station as it stands and the others from the
pending response. -/
def statusWord (s : State) : List Byte :=
  [ BitVec.ofNat 8 (stateCode s.life.state + 8 * resetCode s.life.lastReset + 32 * flag s.port.recordLost
      + 64 * flag s.port.busStuck + 128 * flag s.billing.walk.isSome),
    BitVec.ofNat 8 s.billing.queue.length,
    BitVec.ofNat 8 (flag s.port.response.crcFault + 2 * flag s.port.response.lengthFault
      + 16 * resultCode s.port.response.result),
    previousCode s.port.response.previous ]

end Sys2Proof.Machine
end

