-- ==== Sys2Proof/Machine/Operands.lean ====
section
/-! DEFINITION. Every layout seen at a port: multi-byte numbers, the CRC, frame kinds and payloads, supervisory
parameters and response data, intake characters, and the cells of the transmitter link (11_formats.md). -/

namespace Sys2Proof.Machine

/-! ## Numbers and the CRC -/

/-- A multi-byte number, most significant byte first (00_scope.md, Serial order). -/
def numberOf (bytes : List Byte) : Nat := bytes.foldl (fun acc b => 256 * acc + b.toNat) 0

/-- The number in `len` bytes from offset `at_`. -/
def field (bytes : List Byte) (at_ len : Nat) : Nat := numberOf ((bytes.drop at_).take len)

/-- The byte at an offset, 0 past the end. -/
def byteAt (bytes : List Byte) (at_ : Nat) : Byte := bytes.getD at_ 0

/-- One byte. -/
def be1 (n : Nat) : List Byte := [BitVec.ofNat 8 n]
/-- Two bytes, high first. -/
def be2 (n : Nat) : List Byte := [BitVec.ofNat 8 (n / 256), BitVec.ofNat 8 n]
/-- Three bytes, high first. -/
def be3 (n : Nat) : List Byte := BitVec.ofNat 8 (n / 65536) :: be2 n
/-- Four bytes, high first. -/
def be4 (n : Nat) : List Byte := BitVec.ofNat 8 (n / 16777216) :: be3 n

/-- R139: one left shift of the CRC register. -/
def crcShift (r : BitVec 16) : BitVec 16 := if r.msb then (r <<< 1) ^^^ 0x8BB7 else r <<< 1

/-- R139: take one byte into the CRC register. -/
def crcByte (r : BitVec 16) (b : Byte) : BitVec 16 :=
  crcShift (crcShift (crcShift (crcShift (crcShift (crcShift (crcShift (crcShift (r ^^^ (b ++ 0#8)))))))))

/-- R139: the CRC over bytes, seed 0xFFFF, polynomial 0x8BB7, no inversion. -/
def crc (bytes : List Byte) : BitVec 16 := bytes.foldl crcByte 0xFFFF

/-- Bytes followed by their CRC, high byte first. -/
def withCrc (bytes : List Byte) : List Byte := bytes ++ be2 (crc bytes).toNat

/-! ## Characters -/

/-- 11_formats.md, Intake Characters. -/
def openChar : Byte := 0x02
/-- 11_formats.md, Intake Characters. -/
def closeChar : Byte := 0x03

/-- The decimal digits. -/
def isDigit (b : Byte) : Bool := 0x30 ≤ b.toNat && b.toNat ≤ 0x39

/-- The class a class character names (11_formats.md, Intake Characters). -/
def classOf (b : Byte) : Option MessageClass :=
  if b = 0x4E then some { medium := .numeric, priority := false }
  else if b = 0x41 then some { medium := .text, priority := false }
  else if b = 0x54 then some { medium := .tone, priority := false }
  else if b = 0x58 then some { medium := .numeric, priority := true }
  else if b = 0x59 then some { medium := .text, priority := true }
  else if b = 0x5A then some { medium := .tone, priority := true }
  else none

/-- The class character of a class. -/
def classChar (c : MessageClass) : Byte :=
  match c.medium, c.priority with
  | .numeric, false => 0x4E
  | .text, false => 0x41
  | .tone, false => 0x54
  | .numeric, true => 0x58
  | .text, true => 0x59
  | .tone, true => 0x5A

/-- The verdict characters (11_formats.md, Intake Characters). -/
def verdictChar : Verdict → Byte
  | .accept => 0x41
  | .unknown => 0x55
  | .suspended => 0x53
  | .quota => 0x51
  | .noPriority => 0x50
  | .busy => 0x42
  | .unreachable => 0x48
  | .badEntry => 0x45
  | .timeout => 0x54

/-- The 4-bit code of a numeric body character (11_formats.md, Transmitter Link Cells). -/
def numericCode (b : Byte) : Option (BitVec 4) :=
  if isDigit b then some (BitVec.ofNat 4 (b.toNat - 0x30))
  else if b = 0x20 then some 10
  else if b = 0x2D then some 11
  else if b = 0x28 then some 12
  else if b = 0x29 then some 13
  else if b = 0x2A then some 14
  else if b = 0x23 then some 15
  else none

/-- The characters of a text body (02_message_intake.md, The Entry). -/
def isTextChar (b : Byte) : Bool := 0x20 ≤ b.toNat && b.toNat ≤ 0x7E

/-- R30: the body character lies in the set of its class. -/
def inBodySet (m : Medium) (b : Byte) : Bool :=
  match m with
  | .numeric => (numericCode b).isSome
  | .text => isTextChar b
  | .tone => false

/-- R30: the greatest body length of a class. -/
def maxBody : Medium → Nat
  | .numeric => 32
  | .text => 80
  | .tone => 0

/-! ## The cell count and the cells of a page -/

/-- R44: the bit count of a body. -/
def bitCount (m : Medium) (length : Nat) : Nat :=
  match m with
  | .numeric => 4 * length
  | .text => 7 * length
  | .tone => 0

/-- R44: the cell count N, two fixed cells and the body's bits at 24 to a cell, rounded up. -/
def cellCount (m : Medium) (length : Nat) : Nat := 2 + (bitCount m length + 23) / 24

/-- The bits of a code, most significant first. -/
def bitsOf {w : Nat} (x : BitVec w) : List Bool := (List.range w).map x.getMsbD

/-- The bits of one body character; a character with no listed code takes a free value. -/
def charBits (m : Medium) (b : Byte) : List Bool :=
  match m with
  | .numeric => bitsOf ((numericCode b).getD (Config.unlistedNumericCode b))
  | .text => bitsOf (if isTextChar b then b.setWidth 7 else Config.unlistedTextCode b)
  | .tone => []

/-- 24 bits filled from bit 23 down, padded with zero bits. -/
def cellOf (bits : List Bool) : LinkCell :=
  BitVec.ofNat 24 ((List.range 24).foldl (fun acc i => 2 * acc + flag (bits.getD i false)) 0)

/-- The fixed sync pattern. -/
def syncCell : LinkCell := 0xB4E61D
/-- The fixed idle pattern. -/
def idleCell : LinkCell := 0xAAAAAA

/-- The address cell: bit 23 priority, bits 22-21 the coding, bits 20-0 the air address. -/
def addressCell (c : MessageClass) (address : Nat) : LinkCell :=
  let coding : BitVec 2 := match c.medium with | .numeric => 0 | .text => 1 | .tone => 2
  let low : BitVec 21 := if address ≤ 2097151 then BitVec.ofNat 21 address else Config.oversizedAddressBits address
  BitVec.ofBool c.priority ++ coding ++ low

/-- The tag cell: home station in bits 23-19, slot in 18-11, generation in 10-3, attempt in 2-0. -/
def tagCell (t : Tag) : LinkCell :=
  if t.home.toNat < 32 && t.attempt.toNat < 8 then
    t.home.setWidth 5 ++ t.slot ++ t.gen ++ t.attempt.setWidth 3
  else Config.oversizedTagCell t.home t.slot t.gen t.attempt

/-- Content cell `j` of a body (R79): its bits from 24 j, zero past the body's end. -/
def contentCell (m : Medium) (body : List Byte) (j : Nat) : LinkCell :=
  cellOf ((body.flatMap (charBits m)).drop (24 * j))

/-- R79: the N cells of a page: address, tag, then the content. -/
def pageCells (e : AirEntry) : List LinkCell :=
  (addressCell e.cls e.address :: tagCell e.tag ::
    (List.range (e.cells - 2)).map (contentCell e.cls.medium e.body)).take e.cells

/-! ## Bus characters (R137) -/

/-- R137: a byte as a bus character: the start bit dominant, the data bits, the mark bit, the stop bit recessive. -/
def busChar (mark : Bool) (b : Byte) : BusChar := 1#1 ++ BitVec.ofBool mark ++ b ++ 0#1

/-- R137: the data bits of a character. -/
def dataOf (c : BusChar) : Byte := c.extractLsb' 1 8

/-- R137: the mark bit is recessive: an address character. -/
def isAddress (c : BusChar) : Bool := c.getLsbD 9

/-- R137: the stop bit was sampled dominant: the character carries a framing-error mark. -/
def framingError (c : BusChar) : Bool := !c.getLsbD 10

/-- R137: the start bit was found recessive: noise, and no character. -/
def isNoise (c : BusChar) : Bool := c.getLsbD 0

/-- R138: bytes sent back to back as a frame: the mark bit is recessive in the first alone. -/
def lineChars : List Byte → List BusChar
  | [] => []
  | b :: rest => busChar true b :: rest.map (busChar false)

/-! ## Serial characters (R25, R38) -/

/-- R38: a byte as ten bits on an intake line's TX: start bit low, data bits from the least significant, stop bit. -/
def serialBits (b : Byte) : BitVec 10 := 1#1 ++ b ++ 0#1

/-! ## Bus frames -/

/-- The code of a frame kind (11_formats.md, Station Bus). -/
def kindCode : FrameKind → Byte
  | .forward => 0x01
  | .cancel => 0x02
  | .airRequest => 0x03
  | .withdraw => 0x04
  | .presence => 0x05
  | .taken => 0x11
  | .cancelAnswer => 0x12
  | .airAnswer => 0x13
  | .withdrawn => 0x14
  | .aired => 0x15
  | .heard => 0x16

/-- The frame kind a code names. -/
def kindOf (code : Byte) : Option FrameKind :=
  [FrameKind.forward, .cancel, .airRequest, .withdraw, .presence, .taken, .cancelAnswer, .airAnswer, .withdrawn,
    .aired, .heard].find? fun k => kindCode k = code

/-- R138, R139: the bytes of a frame, from the address to the CRC. -/
def frameBytes (f : Frame) : List Byte :=
  withCrc (f.dest :: f.src :: kindCode f.kind :: f.seq :: BitVec.ofNat 8 f.payload.length :: f.payload)

/-- R137 to R139: the characters of a frame on the line. -/
def frameChars (f : Frame) : List BusChar := lineChars (frameBytes f)

/-- The parts of a complete frame taken off the line (R138). -/
structure Received where
  /-- Destination station, or 0 for broadcast. -/
  dest : Byte
  /-- Source character of the frame. -/
  src : Byte
  /-- Kind character of the frame. -/
  kind : Byte
  /-- Sequence character of the frame. -/
  seq : Byte
  /-- The payload characters. -/
  payload : List Byte
  deriving DecidableEq, Repr

/-- R138: the parts of a complete frame, from its bytes with the CRC. -/
def readFrame (bytes : List Byte) : Received :=
  { dest := byteAt bytes 0, src := byteAt bytes 1, kind := byteAt bytes 2, seq := byteAt bytes 3,
    payload := (bytes.drop 5).take (byteAt bytes 4).toNat }

/-- The four bytes of a tag in a payload. -/
def tagBytes (t : Tag) : List Byte := [t.home, t.slot, t.gen, t.attempt]

/-- The tags of an AIRED payload; bytes that do not fill a tag are left. -/
def tagsOf : List Byte → List Tag
  | a :: b :: c :: d :: rest => { home := a, slot := b, gen := c, attempt := d } :: tagsOf rest
  | _ => []

/-- An AIR-REQUEST's content. -/
structure AirAsk where
  tag : Tag
  address : Nat
  cls : MessageClass
  cells : Nat
  body : List Byte
  deriving DecidableEq, Repr

/-- A FORWARD's content. -/
structure ForwardAsk where
  number : Nat
  cls : MessageClass
  body : List Byte
  deriving DecidableEq, Repr

/-- A PRESENCE's content. -/
structure PresenceBody where
  /-- The state reported is LEAVING, and ON-BUS otherwise. -/
  leavingState : Bool
  airing : Bool
  fresh : Bool
  leaving : Bool
  deriving DecidableEq, Repr

/-- The payload of a FORWARD (11_formats.md). -/
def forwardPayload (a : ForwardAsk) : List Byte := be3 a.number ++ classChar a.cls :: a.body

/-- R189: the content of a FORWARD payload, or none for BAD-PAYLOAD. -/
def readForward (p : List Byte) : Option ForwardAsk :=
  if 4 ≤ p.length ∧ p.length ≤ 84 then
    (classOf (byteAt p 3)).map fun c => { number := field p 0 3, cls := c, body := p.drop 4 }
  else none

/-- The payload of an AIR-REQUEST (11_formats.md). -/
def airRequestPayload (a : AirAsk) : List Byte :=
  tagBytes a.tag ++ be3 a.address ++ classChar a.cls :: BitVec.ofNat 8 a.cells :: a.body

/-- R189: the content of an AIR-REQUEST payload, or none for BAD-PAYLOAD. -/
def readAirRequest (p : List Byte) : Option AirAsk :=
  if 9 ≤ p.length ∧ p.length ≤ 89 then
    (classOf (byteAt p 7)).map fun c =>
      { tag := { home := byteAt p 0, slot := byteAt p 1, gen := byteAt p 2, attempt := byteAt p 3 },
        address := field p 4 3, cls := c, cells := (byteAt p 8).toNat, body := p.drop 9 }
  else none

/-- R189: the one byte of a CANCEL, TAKEN or CANCEL-ANSWER payload. -/
def readByte (p : List Byte) : Option Byte :=
  match p with
  | [b] => some b
  | _ => none

/-- The AIR-ANSWER codes (11_formats.md). -/
inductive AirCode where
  | accepted | refusedFull | refusedNotZone | refusedLeaving
  deriving DecidableEq, Repr

/-- The code of an AIR-ANSWER. -/
def airCode : AirCode → Byte
  | .accepted => 0
  | .refusedFull => 1
  | .refusedNotZone => 2
  | .refusedLeaving => 3

/-- R189: an AIR-ANSWER payload; a code not listed is BAD-PAYLOAD. -/
def readAirAnswer (p : List Byte) : Option AirCode :=
  match p with
  | [b] => [AirCode.accepted, .refusedFull, .refusedNotZone, .refusedLeaving].find? fun c => airCode c = b
  | _ => none

/-- R189: a WITHDRAWN payload: WITHDRAWN 0, UNKNOWN 1; true for UNKNOWN. -/
def readWithdrawn (p : List Byte) : Option Bool :=
  match p with
  | [b] => if b = 0 then some false else if b = 1 then some true else none
  | _ => none

/-- R189: the tag of a WITHDRAW payload. -/
def readTag (p : List Byte) : Option Tag :=
  match p with
  | [a, b, c, d] => some { home := a, slot := b, gen := c, attempt := d }
  | _ => none

/-- R156, R189: the tags of an AIRED payload, 1 to 24 of them. -/
def readAired (p : List Byte) : Option (List Tag) :=
  if 4 ≤ p.length ∧ p.length ≤ 96 ∧ p.length % 4 = 0 then some (tagsOf p) else none

/-- R189: a HEARD payload. -/
def readHeard (p : List Byte) : Option Report :=
  match p with
  | [a, b, c, d, q] => some { tag := { home := a, slot := b, gen := c, attempt := d }, quality := q }
  | _ => none

/-- The payload of a PRESENCE (11_formats.md). -/
def presencePayload (b : PresenceBody) : List Byte :=
  [ if b.leavingState then 2 else 1, BitVec.ofNat 8 (flag b.airing + 2 * flag b.fresh + 4 * flag b.leaving) ]

/-- R189: a PRESENCE payload; a state other than 1 or 2, fresh with leaving, or a flag bit above bit 2 is
BAD-PAYLOAD. -/
def readPresence (p : List Byte) : Option PresenceBody :=
  match p with
  | [st, fl] =>
    if (st = 1 ∨ st = 2) ∧ fl.toNat < 8 ∧ ¬ (fl.getLsbD 1 = true ∧ fl.getLsbD 2 = true) then
      some { leavingState := st = 2, airing := fl.getLsbD 0, fresh := fl.getLsbD 1, leaving := fl.getLsbD 2 }
    else none
  | _ => none

/-- The results of the acceptance decision, as TAKEN carries them (R10, 11_formats.md). -/
inductive Decision where
  | accept | unknown | notHome | suspended | noPriority | quota | busy
  deriving DecidableEq, Repr

/-- The code of a TAKEN. -/
def decisionCode : Decision → Byte
  | .accept => 0
  | .unknown => 1
  | .notHome => 2
  | .suspended => 3
  | .noPriority => 4
  | .quota => 5
  | .busy => 6

/-- R34, R32: the verdict a result gives on the line. -/
def verdictOf : Decision → Verdict
  | .accept => .accept
  | .unknown => .unknown
  | .notHome => .unknown
  | .suspended => .suspended
  | .noPriority => .noPriority
  | .quota => .quota
  | .busy => .busy

/-- The result a TAKEN code carries; none for a code not listed. -/
def decisionOf (b : Byte) : Option Decision :=
  [Decision.accept, .unknown, .notHome, .suspended, .noPriority, .quota, .busy].find? fun d => decisionCode d = b

/-- The CANCEL-ANSWER codes (11_formats.md): CANCELLED 0, TOO-LATE 1, UNKNOWN 2. -/
inductive CancelCode where
  | cancelled | tooLate | unknown
  deriving DecidableEq, Repr

/-- The code of a CANCEL-ANSWER. -/
def cancelCode : CancelCode → Byte
  | .cancelled => 0
  | .tooLate => 1
  | .unknown => 2

/-! ## Zone sets -/

/-- Zone z belongs to the set (bit z - 1). -/
def inZones (zs : ZoneSet) (z : Nat) : Bool := 1 ≤ z && zs.getLsbD (z - 1)

/-- The zones 1-24 in ascending order. -/
def allZones : List Nat := (List.range 24).map (· + 1)

/-! ## Supervisory parameters -/

/-- Clamp a value to a range. -/
def clamp (lo hi n : Nat) : Nat := max lo (min hi n)

/-- A line rate code, 300 to 9,600 bit/s as 0-3. -/
def lineRateOf (n : Nat) : Option LineRate :=
  match n with
  | 0 => some .r300
  | 1 => some .r1200
  | 2 => some .r2400
  | 3 => some .r9600
  | _ => none

/-- A line rate's code. -/
def lineRateCode : LineRate → Nat
  | .r300 => 0
  | .r1200 => 1
  | .r2400 => 2
  | .r9600 => 3

/-- A bus rate code, 62,500 to 500,000 bit/s as 0-3. -/
def busRateOf (n : Nat) : Option BusRate :=
  match n with
  | 0 => some .b62500
  | 1 => some .b125000
  | 2 => some .b250000
  | 3 => some .b500000
  | _ => none

/-- The mode code: FREE 0, ALIGNED 1. -/
def modeOf (n : Nat) : Option AirMode :=
  match n with
  | 0 => some .free
  | 1 => some .aligned
  | _ => none

/-- A state parameter: ACTIVE 0, SUSPENDED 1. -/
def subscriberStateOf (n : Nat) : Option SubscriberState :=
  match n with
  | 0 => some .active
  | 1 => some .suspended
  | _ => none

/-- One line byte of LOAD-CONFIG: bits 1-0 the default rate, bit 7 SEIZE active high; bits 6-2 set are BAD-PARAM
(R190). -/
def lineConfigOf (b : Byte) : Option LineConfig :=
  if (b.toNat / 4) % 32 = 0 then
    (lineRateOf (b.toNat % 4)).map fun r => { defaultRate := r, activeHigh := b.getLsbD 7 }
  else none

/-- The eight line bytes of LOAD-CONFIG. -/
def lineConfigsOf (bytes : List Byte) : Option (Vector LineConfig 8) :=
  match bytes.map lineConfigOf with
  | [some a, some b, some c, some d, some e, some f, some g, some h] => some #v[a, b, c, d, e, f, g, h]
  | _ => none

/-- R180, R190: the configuration record that the 19 parameters of LOAD-CONFIG give after the clamps, or none for
BAD-PARAM. -/
def readConfig (p : List Byte) : Option StationConfig :=
  let station := field p 0 1
  let slotTime := field p 5 1
  if 1 ≤ station ∧ station ≤ 24 ∧ slotTime ≠ 0 then
    match modeOf (field p 2 1), busRateOf (field p 6 1), lineConfigsOf ((p.drop 10).take 8) with
    | some mode, some rate, some lines =>
      some { station := station, airing := byteAt p 1 ≠ 0, mode := mode,
             slotMask := BitVec.ofNat 16 (field p 3 2), slotTime := slotTime, busRate := rate,
             presenceTimeout := clamp 1 60 (field p 7 1), replyTimeout := max 5 (field p 8 1),
             entryTimeout := clamp 1 60 (field p 9 1), lines := lines, minQuality := min 15 (field p 18 1) }
    | _, _, _ => none
  else none

/-- R112: the plan that the 27 parameters of LOAD-PLAN give after the clamps. -/
def readPlan (p : List Byte) : Plan :=
  let flags := byteAt p 16
  let allowance := field p 7 3
  let high := field p 13 3
  { acceptFee := field p 1 2, cellFee := min 4095 (field p 3 2), retryPercent := min 200 (field p 5 1),
    discount := min 100 (field p 6 1), allowance := allowance, lowWatch := min (field p 10 3) high,
    highWatch := high, policy := if flags.getLsbD 0 = true ∧ allowance ≠ 0 then .hard else .soft,
    messageCap := field p 17 2, missRefund := min 100 (field p 19 1), maxAttempts := clamp 1 7 (field p 20 1),
    ackWait := clamp 5 120 (field p 21 1), backoffBase := max 1 (field p 22 1),
    backoffCap := clamp 1 3600 (field p 23 2), lifetime := clamp 1 1440 (field p 25 2),
    widening := flags.getLsbD 1, finalSweep := flags.getLsbD 2, priorityAllowed := flags.getLsbD 3 }

/-- The static fields that LOAD-SUBSCRIBER carries, put on a record (R183). -/
structure SubscriberLoad where
  number : Nat
  address : Nat
  plan : Fin 16
  state : SubscriberState
  homeZones : ZoneSet
  wideZones : ZoneSet
  deriving DecidableEq, Repr

/-- R183 check 1, R190: the 14 parameters of LOAD-SUBSCRIBER, or none for BAD-PARAM. -/
def readSubscriberLoad (p : List Byte) : Option SubscriberLoad :=
  let number := field p 0 3
  let address := field p 3 3
  let homeZones := BitVec.ofNat 24 (field p 8 3)
  if number ≤ 9999999 ∧ address ≤ 2097151 ∧ homeZones ≠ 0 then
    match subscriberStateOf (field p 7 1) with
    | some st =>
      if h : (byteAt p 6).toNat < 16 then
        some { number := number, address := address, plan := ⟨(byteAt p 6).toNat, h⟩, state := st,
               homeZones := homeZones, wideZones := BitVec.ofNat 24 (field p 11 3) }
      else none
    | none => none
  else none

/-! ## Response data -/

/-- The code of a subscriber state: ACTIVE 0, SUSPENDED 1. -/
def subscriberStateCode : SubscriberState → Nat
  | .active => 0
  | .suspended => 1

/-- READ-SUBSCRIBER's 29 bytes (11_formats.md, Response Data). -/
def subscriberBytes (index : Nat) (r : Subscriber) (displaced : Bool) : List Byte :=
  be2 index ++ be3 r.number ++ be3 r.address ++ be1 r.plan.val ++ be1 (subscriberStateCode r.state)
    ++ be3 r.homeZones.toNat ++ be3 r.wideZones.toNat ++ be4 r.periodTotal ++ be3 r.usage ++ be2 r.accepted
    ++ be2 r.missed
    ++ be1 (flag r.saturated + 2 * flag r.warnLow + 4 * flag r.warnHigh + 8 * flag displaced) ++ be1 r.live

/-- The code of a billing record kind. -/
def recordKindCode : RecordKind → Nat
  | .acceptFee => 0
  | .attempt => 1
  | .cancelCredit => 2
  | .missCredit => 3
  | .quotaNotice => 4
  | .periodClose => 5

/-- A billing record's 27 bytes (11_formats.md, Response Data); fields absent for the kind are 0. -/
def recordBytes (r : BillingRecord) : List Byte :=
  let ref := r.delivery.getD (0, 0)
  let cells := r.cells.getD (0, 0)
  let tallies := r.tallies.getD (0, 0)
  be2 r.seq.toNat ++ be1 (recordKindCode r.kind)
    ++ be1 (flag r.credit + 2 * flag r.offpeak + 4 * flag (r.watchHigh.getD false) + 8 * flag r.delivery.isSome)
    ++ be3 r.number ++ [ref.1, ref.2] ++ be1 (r.attempt.getD 0) ++ be1 cells.1 ++ be1 cells.2 ++ be4 r.amount
    ++ be4 r.totalAfter ++ be3 r.usageAfter ++ be2 tallies.1 ++ be2 tallies.2

/-- The code of a line state. -/
def lineStateCode : LineState → Nat
  | .idle => 0
  | .rate => 1
  | .awaitOpen => 2
  | .collect => 3
  | .lookup => 4
  | .halted => 5

/-- The code of a reported state. -/
def reportedCode : ReportedState → Nat
  | .none => 0
  | .onBus => 1
  | .leaving => 2

end Sys2Proof.Machine
end

