-- ==== Sys2Proof/Machine/Ops.lean ====
section
/-! DEFINITION. The named reads and writes of the station's records and tables: configuration, home map, directory,
plans, intake lines, delivery slots and the presence table. -/

namespace Sys2Proof.Machine

/-! ## Configuration and station state -/

/-- The configuration record as its readers see it (R180). -/
def cfg (s : State) : StationConfig := s.life.config.getD StationConfig.blank

/-- The station number in the configuration held (R5, R180). -/
def ownNumber (s : State) : Nat := (cfg s).station

/-- `n` is this station's number in its current configuration; no number is while none is held (R182). -/
def isOwn (s : State) (n : Nat) : Bool :=
  match s.life.config with
  | some c => c.station == n
  | none => false

/-- The station is a member of the office: ON-BUS or LEAVING (R157). -/
def member (s : State) : Bool :=
  match s.life.state with
  | .onBus | .leaving => true
  | _ => false

/-- The lines, the bus controller and the reverse port act: the station is not UNCONFIGURED (R20, R91, R136) and not
held in reset (R186). -/
def running (s : State) : Bool := !s.life.held && s.life.state != .unconfigured

/-- Record the level of OFFPEAK at an event (R113). (DESIGN CHOICE, notes/assumptions/4.md.) -/
def withOffpeak (level : Bool) (s : State) : State := s.mapPins fun p => { p with offpeak := level }

/-! ## Home map and directory -/

/-- R5: the number lies in the range. -/
def Range.holds (r : Range) (number : Nat) : Bool := r.first ≤ number && number ≤ r.last

/-- The results of a home lookup (R6). -/
inductive Home where
  | own
  | peer (station : Nat)
  | none
  deriving DecidableEq, Repr

/-- R6: the home lookup of a subscriber number. -/
def homeLookup (s : State) (number : Nat) : Home :=
  match s.ranges.find? fun r => r.holds number with
  | some r => if isOwn s r.station then .own else .peer r.station
  | none => .none

/-- The number lies in an own range (R5). -/
def inOwnRange (s : State) (number : Nat) : Bool := s.ranges.any fun r => isOwn s r.station && r.holds number

/-- R7: a record whose number lies in no own range is displaced. -/
def displaced (s : State) (number : Nat) : Bool := !inOwnRange s number

/-- R2: the index of the record of a number, over every record. -/
def findRecord (s : State) (number : Nat) : Option Nat := s.directory.findIdx? fun r => r.number == number

/-- R11: the index of the record of a number among records that are not displaced. -/
def findForDecision (s : State) (number : Nat) : Option Nat :=
  s.directory.findIdx? fun r => r.number == number && !displaced s r.number

/-- Change the record at an index; no other record changes. -/
def modifyRecord (index : Nat) (f : Subscriber → Subscriber) (s : State) : State :=
  s.mapDirectory fun d => d.modify index f

/-- R9: the plan that governs the record at an index. -/
def planAt (s : State) (index : Nat) : Plan :=
  match s.directory[index]? with
  | some r => s.plans[r.plan.val]
  | none => Plan.powerOn

/-! ## Intake lines -/

/-- The context of a line. -/
def lineAt (s : State) (k : Fin 8) : Line := s.intake.lines[k.val]

/-- Replace the context of a line. -/
def setLine (k : Fin 8) (l : Line) (s : State) : State :=
  s.mapIntake fun i => { i with lines := i.lines.set k.val l }

/-- Change the context of a line. -/
def mapLine (k : Fin 8) (f : Line → Line) (s : State) : State := setLine k (f (lineAt s k)) s

/-- Change the station-wide counters of the Intake Unit. -/
def mapIntakeCounts (f : IntakeCounts → IntakeCounts) (s : State) : State :=
  s.mapIntake fun i => { i with counts := f i.counts }

/-! ## Delivery slots -/

/-- The slot's generation and delivery. -/
def slotAt (s : State) (k : Fin 256) : Slot := s.store.slots[k.val]

/-- The delivery held in a slot. -/
def deliveryAt (s : State) (k : Fin 256) : Option Delivery := (slotAt s k).held

/-- Replace a slot. -/
def setSlot (k : Fin 256) (x : Slot) (s : State) : State :=
  s.mapStore fun p => { p with slots := p.slots.set k.val x }

/-- Change the delivery held in a slot; a free slot stays as it is. -/
def mapDelivery (k : Fin 256) (f : Delivery → Delivery) (s : State) : State :=
  setSlot k { slotAt s k with held := (deliveryAt s k).map f } s

/-- The slot a tag names. -/
def tagSlot (t : Tag) : Fin 256 := t.slot.toFin

/-- The tag of an attempt of the delivery in a slot (R41). -/
def tagFor (s : State) (k : Fin 256) (attempt : Nat) : Tag :=
  { home := BitVec.ofNat 8 (ownNumber s), slot := BitVec.ofFin k, gen := (slotAt s k).gen,
    attempt := BitVec.ofNat 8 attempt }

/-- R42: the free slot with the lowest slot number. -/
def lowestFree (s : State) : Option (Fin 256) := (List.finRange 256).find? fun k => (deliveryAt s k).isNone

/-! ## The presence table -/

/-- The presence entry of a station number; no entry stands for a number outside 1-24. -/
def presenceAt (s : State) (n : Nat) : Presence :=
  if h : 1 ≤ n ∧ n ≤ 24 then s.exchange.presence[n - 1] else Presence.fresh

/-- Replace the presence entry of a station number. -/
def setPresence (n : Nat) (p : Presence) (s : State) : State :=
  if h : 1 ≤ n ∧ n ≤ 24 then s.mapExchange fun x => { x with presence := x.presence.set (n - 1) p } else s

/-- Change the counters of the Exchange Unit. -/
def mapExchangeCounts (f : ExchangeCounts → ExchangeCounts) (s : State) : State :=
  s.mapExchange fun x => { x with counts := f x.counts }

/-- Change the counters of the bus controller. -/
def mapBusCounts (f : BusCounts → BusCounts) (s : State) : State :=
  s.mapBus fun b => { b with counts := f b.counts }

/-- Change the counters of the Air Scheduler. -/
def mapAirCounts (f : AirCounts → AirCounts) (s : State) : State :=
  s.mapAir fun a => { a with counts := f a.counts }

/-- Change the counters of the Matcher. -/
def mapMatcherCounts (f : MatcherCounts → MatcherCounts) (s : State) : State :=
  s.mapMatcher fun m => { m with counts := f m.counts }

end Sys2Proof.Machine
end

