-- ==== Sys2Proof/Machine/Queues.lean ====
section
/-! DEFINITION. The two transmit queues of the Station Bus Controller, the frames that wait for room, and the
outstanding request table (R151 to R153, R158 to R160). -/

namespace Sys2Proof.Machine

/-- A frame of this station's making (R138): the source is the configured station number. -/
def frameFrom (s : State) (kind : FrameKind) (dest : Nat) (seq : Byte) (payload : List Byte) : Frame :=
  { kind := kind, dest := BitVec.ofNat 8 dest, src := BitVec.ofNat 8 (ownNumber s), seq := seq, payload := payload }

/-! ## The answer queue -/

/-- R151: a frame joins the answer queue, or is discarded and counted when the queue is full. -/
def pushAnswer (f : Frame) (s : State) : State :=
  if s.bus.answers.length < Config.answerQueueSize then s.mapBus fun b => { b with answers := b.answers ++ [f] }
  else mapBusCounts (fun c => { c with answersDropped := raise c.answersDropped }) s

/-- R157: an answer addressed to the source of a request, carrying its sequence. -/
def answerTo (kind : FrameKind) (dest : Nat) (seq : Byte) (payload : List Byte) (s : State) : State :=
  pushAnswer (frameFrom s kind dest seq payload) s

/-- R153: remove frames of the answer queue; one in transmission stays until it is sent or withdraws. -/
def removeAnswers (drop : Frame → Bool) (s : State) : State :=
  s.mapBus fun b =>
    match b.tx, b.answers with
    | .answer chars removed, head :: rest =>
      { b with answers := head :: rest.filter (fun f => !drop f), tx := .answer chars (removed || drop head) }
    | _, _ => { b with answers := b.answers.filter fun f => !drop f }

/-! ## The request queue -/

/-- R152: the room of the request queue. -/
def requestRoom (s : State) : Nat := Config.requestQueueSize - s.bus.requests.length - s.bus.waiting.length

/-- The frame was made for the outstanding entry of this key (R153). -/
def frameKindOf : EntryKind → FrameKind
  | .forward => .forward
  | .cancel => .cancel
  | .airRequest => .airRequest
  | .withdraw => .withdraw

/-- The frame belongs to the entry of a key: its destination, sequence and kind are the entry's. -/
def frameOf (key : EntryKey) (f : Frame) : Bool :=
  f.kind == frameKindOf key.kind && f.dest.toNat == key.peer && f.seq == key.seq

/-- R152: as places are free, the oldest waiting frames join the tail, and their entries become QUEUED (R160). -/
def refill (s : State) : State :=
  let free := Config.requestQueueSize - s.bus.requests.length
  let moved := s.bus.waiting.take free
  let joined := s.mapBus fun b => { b with requests := b.requests ++ moved, waiting := b.waiting.drop free }
  joined.mapExchange fun x => { x with table := x.table.map fun e =>
    if e.phase == Phase.waiting && List.any moved (frameOf e.key) then { e with phase := .queued } else e }

/-- R152: a CANCEL, WITHDRAW or PRESENCE joins the request queue, or waits for room. -/
def joinRequests (f : Frame) (s : State) : State :=
  if 0 < requestRoom s then s.mapBus fun b => { b with requests := b.requests ++ [f] }
  else s.mapBus fun b => { b with waiting := b.waiting ++ [f] }

/-- R152, R153: remove request frames, waiting ones included; one in transmission stays until it is sent or
withdraws. The places freed let waiting frames join. -/
def removeRequests (drop : Frame → Bool) (s : State) : State :=
  refill (s.mapBus fun b =>
    match b.tx, b.requests with
    | .request chars removed, head :: rest =>
      { b with requests := head :: rest.filter (fun f => !drop f), waiting := b.waiting.filter (fun f => !drop f),
               tx := .request chars (removed || drop head) }
    | _, _ =>
      { b with requests := b.requests.filter (fun f => !drop f), waiting := b.waiting.filter fun f => !drop f })

/-! ## The outstanding request table -/

/-- R159: the number of free entries. -/
def outstandingFree (s : State) : Nat := Config.outstandingSize - s.exchange.table.length

/-- The entry of a key. -/
def findEntry (s : State) (key : EntryKey) : Option Outstanding := s.exchange.table.find? fun e => e.key == key

/-- The entry that a delivery holds for a zone. -/
def entryOfZone (s : State) (k : Fin 256) (zone : Nat) : Option Outstanding :=
  s.exchange.table.find? fun e => e.owner == Owner.zone k zone

/-- Change the entry of a key. -/
def mapEntry (key : EntryKey) (f : Outstanding → Outstanding) (s : State) : State :=
  s.mapExchange fun x => { x with table := x.table.map fun e => if e.key = key then f e else e }

/-- R158: advance past values that an entry with this peer and kind already holds; answers the value reached and
the values passed over. The table's 96 entries cannot fill 97 values, so the fuel is not reached. -/
def clearSequence (table : List Outstanding) (peer : Nat) (kind : EntryKind) : Nat → Byte → Nat → Byte × Nat
  | 0, v, skips => (v, skips)
  | fuel + 1, v, skips =>
    if table.any (fun e => e.key == { peer := peer, seq := v, kind := kind }) then
      clearSequence table peer kind fuel (v + 1) (skips + 1)
    else (v, skips)

/-- R158: the sequence that the next request of a kind to a peer takes, and the values it passes over. -/
def nextSequence (s : State) (peer : Nat) (kind : EntryKind) : Byte × Nat :=
  clearSequence s.exchange.table peer kind 255 (s.exchange.seq + 1) 0

/-- R158: take a sequence: the counter keeps the value reached, and SEQUENCE-SKIPS is raised for each passed over. -/
def takeSequence (peer : Nat) (kind : EntryKind) (s : State) : State :=
  let next := nextSequence s peer kind
  s.mapExchange fun x => { x with
    seq := next.1, counts := { x.counts with sequenceSkips := raiseTo 65535 x.counts.sequenceSkips next.2 } }

/-- R33, R50, R160: claim an entry for a request whose room has been checked: it takes a sequence, its frame joins the
request queue, and its reply timer runs from this event. -/
def claimEntry (peer : Nat) (kind : EntryKind) (owner : Owner) (payload : List Byte) (s : State) : State :=
  let seq := (nextSequence s peer kind).1
  let taken := takeSequence peer kind s
  let frame := frameFrom s (frameKindOf kind) peer seq payload
  let queued := taken.mapBus fun b => { b with requests := b.requests ++ [frame] }
  queued.mapExchange fun x => { x with table := x.table ++
    [{ key := { peer := peer, seq := seq, kind := kind }, owner := owner, phase := .queued,
       due := some (ticksAfter s.tick (cfg s).replyTimeout) }] }

/-- R162: free an entry; its frame is removed from the request queue or given up. -/
def freeEntry (key : EntryKey) (s : State) : State :=
  removeRequests (frameOf key)
    (s.mapExchange fun x => { x with table := x.table.filter fun e => e.key != key })

/-- R160: convert an entry to a CANCEL or a WITHDRAW: a new sequence, the timer removed, the old frame removed, the
new frame queued or waiting. -/
def convertEntry (key : EntryKey) (kind : EntryKind) (payload : List Byte) (s : State) : State :=
  match findEntry s key with
  | none => s
  | some e =>
    let newKey : EntryKey := { peer := key.peer, seq := (nextSequence s key.peer kind).1, kind := kind }
    let cleared := removeRequests (frameOf key) (takeSequence key.peer kind s)
    let phase := if 0 < requestRoom cleared then Phase.queued else Phase.waiting
    joinRequests (frameFrom s (frameKindOf kind) key.peer newKey.seq payload)
      (mapEntry key (fun _ => { key := newKey, owner := e.owner, phase := phase, due := none }) cleared)

end Sys2Proof.Machine
end

