-- ==== Sys2Proof/Machine/AirQueues.lean ====
section
/-! DEFINITION. The two air queues of the Air Scheduler: admission, refresh, withdrawal and purge (R67 to R71, R81,
R88), and the start of a cycle (R72 to R75). -/

namespace Sys2Proof.Machine

/-- The enabled air slots, in order (R72). -/
def enabledSlots (c : StationConfig) : List Nat := (List.range 16).filter fun k => c.slotMask.getLsbD k

/-- R72: the capacity of a cycle, 8 times the number of enabled slots. -/
def capacity (c : StationConfig) : Nat := 8 * (enabledSlots c).length

/-- The held entry of a tag, in either queue (R67: no tag is held twice). -/
def findAir (s : State) (t : Tag) : Option AirEntry :=
  (s.air.regular ++ s.air.priority).find? fun e => e.tag == t

/-- Change the held entry of a tag; it keeps its queue and position. -/
def mapAirEntry (t : Tag) (f : AirEntry → AirEntry) (s : State) : State :=
  s.mapAir fun a => { a with
    regular := a.regular.map (fun e => if e.tag = t then f e else e),
    priority := a.priority.map (fun e => if e.tag = t then f e else e) }

/-- Remove entries from both queues; the others keep their order. -/
def dropAir (drop : AirEntry → Bool) (s : State) : State :=
  s.mapAir fun a => { a with
    regular := a.regular.filter (fun e => !drop e), priority := a.priority.filter (fun e => !drop e) }

/-- R69 order 5: the queue of a class holds its maximum. -/
def airQueueFull (s : State) (c : MessageClass) : Bool :=
  if c.priority then Config.priorityQueueSize ≤ s.air.priority.length
  else Config.regularQueueSize ≤ s.air.regular.length

/-- R69: the answer to an air request, by the first condition that holds. -/
def admission (ask : AirAsk) (s : State) : AirCode :=
  if s.life.state = .leaving then .refusedLeaving
  else if (cfg s).airing = false then .refusedNotZone
  else if (findAir s ask.tag).isSome then .accepted
  else if ask.cells < 2 ∨ 26 < ask.cells ∨ capacity (cfg s) < ask.cells then .refusedNotZone
  else if airQueueFull s ask.cls then .refusedFull
  else .accepted

/-- The entry a request becomes on admission (R69 order 6). -/
def newAirEntry (ask : AirAsk) : AirEntry :=
  { tag := ask.tag, address := ask.address, cls := ask.cls, cells := ask.cells, body := ask.body, state := .queued,
    returned := false, withdraw := none }

/-- R69, R70, R87: the effect of a request on the queues and the counters. -/
def admitAsk (ask : AirAsk) (s : State) : State :=
  match admission ask s with
  | .refusedLeaving => mapAirCounts (fun c => { c with refusedLeaving := raise c.refusedLeaving }) s
  | .refusedNotZone => mapAirCounts (fun c => { c with refusedNotZone := raise c.refusedNotZone }) s
  | .refusedFull => mapAirCounts (fun c => { c with refusedFull := raise c.refusedFull }) s
  | .accepted =>
    if (findAir s ask.tag).isSome then
      mapAirCounts (fun c => { c with requestsMerged := raise c.requestsMerged })
        (mapAirEntry ask.tag (fun e => { e with withdraw := none }) s)
    else
      mapAirCounts (fun c => { c with requestsAccepted := raise c.requestsAccepted })
        (s.mapAir fun a =>
          if ask.cls.priority then { a with priority := a.priority ++ [newAirEntry ask] }
          else { a with regular := a.regular ++ [newAirEntry ask] })

/-- The outcomes of a WITHDRAW at the zone station (R81). -/
inductive WithdrawOutcome where
  | withdrawn | deferred | unknown
  deriving DecidableEq, Repr

/-- R81: the answer to a WITHDRAW of a tag. -/
def withdrawal (t : Tag) (s : State) : WithdrawOutcome :=
  match findAir s t with
  | none => .unknown
  | some e => if e.state = .queued then .withdrawn else .deferred

/-- R81, R87: the effect of a WITHDRAW: a QUEUED entry leaves at once; one PACKED or DONE-IN-CYCLE keeps who is owed
the answer. -/
def withdrawAir (t : Tag) (by_ : PendingWithdraw) (s : State) : State :=
  match withdrawal t s with
  | .withdrawn =>
    mapAirCounts (fun c => { c with withdrawnAtOnce := raise c.withdrawnAtOnce }) (dropAir (fun e => e.tag == t) s)
  | .deferred =>
    mapAirCounts (fun c => { c with withdrawDeferred := raise c.withdrawDeferred })
      (mapAirEntry t (fun e => { e with withdraw := some by_ }) s)
  | .unknown => mapAirCounts (fun c => { c with withdrawUnknown := raise c.withdrawUnknown }) s

/-- R88: an entry that a fresh join of a station removes: QUEUED, with that station as home. -/
def purgeable (station : Nat) (e : AirEntry) : Bool := e.state == AirState.queued && e.tag.home.toNat == station

/-- R88, R87: a fresh join removes every QUEUED entry of the station and counts each. -/
def purgeAir (station : Nat) (s : State) : State :=
  let n := ((s.air.regular ++ s.air.priority).filter (purgeable station)).length
  mapAirCounts (fun c => { c with purged := raiseTo 65535 c.purged n }) (dropAir (purgeable station) s)

/-! ## Cycle starts -/

/-- Either queue holds an entry in QUEUED (R72). -/
def anyQueued (s : State) : Bool := List.any (s.air.regular ++ s.air.priority) fun e => e.state == AirState.queued

/-- Both air queues are empty. -/
def airEmpty (s : State) : Bool := s.air.regular.isEmpty && s.air.priority.isEmpty

/-- R74: 19 slot times. -/
def timerPeriod (s : State) : Nat := 19 * (cfg s).slotTime

/-- R72: a cycle starts at this event, keyed when an entry is QUEUED: KEY is asserted and the sync cell is handed. In
ALIGNED mode the cycle timer is restarted (R74). -/
def startCycle (s : State) : State :=
  let keyed := anyQueued s
  s.mapAir fun a => { a with
    cycle := some { start := s.tick, keyed := keyed, nextSlot := 0, slotBegin := 0, cells := [], continuing := none,
                    stopped := false, report := [], pageCells := 0, idleCells := 0, skipped := 0 },
    timer := if (cfg s).mode = .aligned then some (ticksAfter s.tick (timerPeriod s)) else a.timer,
    key := keyed,
    lastCell := if keyed then some syncCell else a.lastCell }

/-- Remove the pending mark (R147). -/
def clearMark (s : State) : State := s.mapBus fun b => { b with pendingMark := false }

/-- R75, R89: a mark heard, or the station's own break beginning: it starts an ALIGNED cycle when none is in progress
(in LEAVING, only while an air queue holds an entry) and removes a pending mark, or is ignored and counted. -/
def takeMark (s : State) : State :=
  if member s = true ∧ (cfg s).mode = .aligned then
    if s.air.cycle.isSome then mapAirCounts (fun c => { c with marksIgnored := raise c.marksIgnored }) s
    else if s.life.state = .leaving ∧ airEmpty s = true then clearMark s
    else startCycle (clearMark s)
  else s

end Sys2Proof.Machine
end

