-- ==== Sys2Proof/Machine/Tariff.lean ====
section
/-! DEFINITION. The Billing Meter: the arithmetic of charges and credits, the changes to the accumulators, and the
billing records (06_tariff_and_billing.md). -/

namespace Sys2Proof.Machine

/-! ## Billing records -/

/-- A record of a kind for a subscriber as it stands, with no part beyond its totals (R125). -/
def recordFor (kind : RecordKind) (r : Subscriber) : BillingRecord :=
  { seq := 0, kind := kind, number := r.number, delivery := none, attempt := none, cells := none, watchHigh := none,
    amount := 0, credit := false, offpeak := false, totalAfter := r.periodTotal, usageAfter := r.usage,
    tallies := none }

/-- R127, R128: produce a record. It takes the sequence counter's value and the tariff period of the event; it joins
the queue, or is lost and counted with RECORD-LOST latched. -/
def produceRecord (r : BillingRecord) (s : State) : State :=
  let numbered := { r with seq := s.billing.seq, offpeak := s.pins.offpeak }
  if s.billing.queue.length < Config.billingQueueSize then
    s.mapBilling fun b => { b with queue := b.queue ++ [numbered], seq := b.seq + 1 }
  else
    (s.mapBilling fun b => { b with seq := b.seq + 1, lost := raise b.lost }).mapPort fun p =>
      { p with recordLost := true }

/-- Produce a record about the subscriber at an index, filled in from the state after the event's change (R125). -/
def produceFor (index : Nat) (fill : Subscriber → BillingRecord) (s : State) : State :=
  match s.directory[index]? with
  | some r => produceRecord (fill r) s
  | none => s

/-! ## The accumulators -/

/-- R114, R120: raise the period total, saturating; the saturated mark is set when the sum would pass the maximum. -/
def addCharge (amount : Nat) (r : Subscriber) : Subscriber :=
  { r with periodTotal := min (r.periodTotal + amount) maxTotal,
           saturated := r.saturated || decide (maxTotal < r.periodTotal + amount) }

/-- R124: lower the period total, clamping at 0. -/
def takeCredit (amount : Nat) (r : Subscriber) : Subscriber := { r with periodTotal := r.periodTotal - amount }

/-! ## Charges -/

/-- R114: the accept charge, limited by a nonzero message cap. -/
def acceptAmount (p : Plan) : Nat := if p.messageCap = 0 then p.acceptFee else min p.acceptFee p.messageCap

/-- R114: the accept charge of the new delivery in a slot. -/
def acceptCharge (k : Fin 256) (index : Nat) (s : State) : State :=
  let amount := acceptAmount (planAt s index)
  let charged := modifyRecord index (addCharge amount) s
  let marked := mapDelivery k (fun d => { d with charged := amount, retryCharges := 0 }) charged
  produceFor index (fun r => { recordFor .acceptFee r with
    delivery := some (BitVec.ofFin k, (slotAt s k).gen), amount := amount }) marked

/-- R116: the billable cell-zones of an attempt, past what the allowance covers. -/
def billable (p : Plan) (usage n : Nat) : Nat := n - min n (p.allowance - usage)

/-- R116: the gross of the billable cell-zones. -/
def grossAmount (p : Plan) (usage n : Nat) : Nat := billable p usage n * p.cellFee

/-- R117: the retry percent, for attempts numbered 2 and above, rounded to nearest, a half up. -/
def retryAmount (p : Plan) (attempt gross : Nat) : Nat :=
  if 2 ≤ attempt then (gross * p.retryPercent + 50) / 100 else gross

/-- R118: the off-peak discount, rounded up. -/
def netAmount (p : Plan) (offpeak : Bool) (gross : Nat) : Nat :=
  if offpeak then gross - (gross * p.discount + 99) / 100 else gross

/-- R119: the charge under the message cap. -/
def cappedAmount (p : Plan) (charged net : Nat) : Nat :=
  if p.messageCap = 0 then net else min net (p.messageCap - charged)

/-- R115 to R119: the attempt charge. -/
def attemptAmount (p : Plan) (offpeak : Bool) (usage charged attempt n : Nat) : Nat :=
  cappedAmount p charged (netAmount p offpeak (retryAmount p attempt (grossAmount p usage n)))

/-- R121: one level of the quota watch is crossed. -/
def crosses (level before after : Nat) : Bool := level != 0 && before < level && level ≤ after

/-- R121: the quota watch: the LOW notice before the HIGH notice. -/
def quotaWatch (index before after : Nat) (s : State) : State :=
  let p := planAt s index
  let low :=
    if crosses p.lowWatch before after then
      produceFor index (fun r => { recordFor .quotaNotice r with watchHigh := some false })
        (modifyRecord index (fun r => { r with warnLow := true }) s)
    else s
  if crosses p.highWatch before after then
    produceFor index (fun r => { recordFor .quotaNotice r with watchHigh := some true })
      (modifyRecord index (fun r => { r with warnHigh := true }) low)
  else low

/-- R115, R120: make the attempt charge for the delivery in a slot, whose attempt had `z` AIRED zones. -/
def attemptCharge (k : Fin 256) (d : Delivery) (attempt z : Nat) (s : State) : State :=
  match s.directory[d.subscriber]? with
  | none => s
  | some r =>
    let n := d.cells * z
    let amount := attemptAmount (planAt s d.subscriber) s.pins.offpeak r.usage d.charged attempt n
    let usage := min (r.usage + n) maxUsage
    let marked := mapDelivery k (fun x => { x with
      charged := raiseTo 65535 x.charged amount,
      retryCharges := if 2 ≤ attempt then raiseTo maxTotal x.retryCharges amount else x.retryCharges }) s
    let charged := modifyRecord d.subscriber (fun x => { addCharge amount x with usage := usage }) marked
    let watched := quotaWatch d.subscriber r.usage usage charged
    produceFor d.subscriber (fun x => { recordFor .attempt x with
      delivery := some (BitVec.ofFin k, (slotAt s k).gen), attempt := some attempt, cells := some (d.cells, z),
      amount := amount }) watched

/-! ## Credits -/

/-- R122, R124: the CANCEL-CREDIT of the accept charge. -/
def cancelCredit (k : Fin 256) (d : Delivery) (s : State) : State :=
  produceFor d.subscriber (fun r => { recordFor .cancelCredit r with
    delivery := some (BitVec.ofFin k, (slotAt s k).gen), amount := d.charged, credit := true })
    (modifyRecord d.subscriber (takeCredit d.charged) s)

/-- R123: the amount of a MISS-CREDIT. -/
def missAmount (p : Plan) (retryCharges : Nat) : Nat := retryCharges * p.missRefund / 100

/-- R123, R124: the MISS-CREDIT, made only when its amount is above 0. -/
def missCredit (k : Fin 256) (d : Delivery) (s : State) : State :=
  let amount := missAmount (planAt s d.subscriber) d.retryCharges
  if amount = 0 then s
  else
    produceFor d.subscriber (fun r => { recordFor .missCredit r with
      delivery := some (BitVec.ofFin k, (slotAt s k).gen), amount := amount, credit := true })
      (modifyRecord d.subscriber (takeCredit amount) s)

/-! ## Period close -/

/-- R13, R128: the free count of the billing record queue. -/
def billingFree (s : State) : Nat := Config.billingQueueSize - s.billing.queue.length

/-- R132: close one record: its totals and counts to 0, its marks cleared. -/
def closeRecord (r : Subscriber) : Subscriber :=
  { r with periodTotal := 0, usage := 0, accepted := 0, missed := 0, saturated := false, warnLow := false,
           warnHigh := false }

/-- R132: the walk step at a position. -/
def walkStep (position : Nat) (s : State) : State :=
  let recorded := produceFor position (fun r => { recordFor .periodClose r with
    amount := r.periodTotal, tallies := some (r.accepted, r.missed) }) s
  let closed := modifyRecord position closeRecord recorded
  closed.mapBilling fun b =>
    { b with walk := if position + 1 = s.directory.length then none else some (position + 1) }

end Sys2Proof.Machine
end

