-- ==== Sys2Proof/Machine/Store.lean ====
section
/-! DEFINITION. The Page Store's shared operations: acceptance into a slot, zone resolution, closing, settling, ending
and retrying a delivery (03_deliveries_and_the_page_store.md, 05_acknowledgement_and_retry.md). -/

namespace Sys2Proof.Machine

/-! ## Zone lists -/

/-- R51: SENT, ACCEPTED and WITHDRAWING are unresolved. -/
def unresolved (z : ZoneState) : Bool :=
  match z with
  | .sent | .accepted | .withdrawing => true
  | _ => false

/-- R59: SENT or ACCEPTED: the zone could still air the page. -/
def couldAir (z : ZoneState) : Bool :=
  match z with
  | .sent | .accepted => true
  | _ => false

/-- Every zone entry of the attempt is resolved (R61). -/
def allResolved (a : Attempt) : Bool := a.zones.all fun e => !unresolved e.state

/-- R61: z, the number of AIRED zones. -/
def airedZones (a : Attempt) : Nat := (a.zones.filter fun e => e.state == ZoneState.aired).length

/-- The state of an attempt's entry for a zone. -/
def zoneStateOf (a : Attempt) (zone : Nat) : Option ZoneState :=
  (a.zones.find? fun e => e.zone == zone).map (·.state)

/-- The current attempt of the delivery in a slot. -/
def attemptAt (s : State) (k : Fin 256) : Option Attempt := (deliveryAt s k).bind (·.attempt)

/-- Change the current attempt of the delivery in a slot. -/
def mapAttempt (k : Fin 256) (f : Attempt → Attempt) (s : State) : State :=
  mapDelivery k (fun d => { d with attempt := d.attempt.map f }) s

/-- Set the zone entry of the current attempt. -/
def setZone (k : Fin 256) (zone : Nat) (st : ZoneState) (s : State) : State :=
  mapAttempt k (fun a => { a with zones := a.zones.map fun e => if e.zone = zone then { e with state := st } else e }) s

/-! ## Ending a delivery -/

/-- The terminal outcomes (R45). -/
inductive Terminal where
  | delivered | expired | cancelled
  deriving DecidableEq, Repr

/-- R63: the billing effects of a terminal outcome. -/
def terminalCredit (k : Fin 256) (d : Delivery) (o : Terminal) (s : State) : State :=
  match o with
  | .delivered => s
  | .expired => missCredit k d s
  | .cancelled => cancelCredit k d s

/-- R15, R63: the subscriber's live count is lowered, and for EXPIRED the missed count raised. -/
def endCounts (o : Terminal) (r : Subscriber) : Subscriber :=
  { r with live := r.live - 1, missed := if o = .expired then raise r.missed else r.missed }

/-- R42, R63: free a slot; its generation advances by one, and the delivery leaves the issue and Retry Queues. -/
def freeSlot (k : Fin 256) (s : State) : State :=
  (setSlot k { gen := (slotAt s k).gen + 1, held := none } s).mapStore fun p =>
    { p with issue := p.issue.filter (fun j => j != k), retry := p.retry.filter fun j => j != k }

/-- R63: a terminal outcome, one event. -/
def endDelivery (k : Fin 256) (o : Terminal) (s : State) : State :=
  match deliveryAt s k with
  | none => s
  | some d => freeSlot k (modifyRecord d.subscriber (endCounts o) (terminalCredit k d o s))

/-! ## The Retry Queue -/

/-- R105: the wait in seconds before the next issue. -/
def backoffSeconds (p : Plan) (counted slot : Nat) : Nat :=
  min (p.backoffBase * 2 ^ (max counted 1 - 1)) p.backoffCap + slot % 4

/-- The due tick of a delivery waiting to retry. -/
def dueOf (s : State) (k : Fin 256) : Tick := ((deliveryAt s k).bind (·.due)).getD 0

/-- R106, R107: the place of a delivery in the Retry Queue: by due tick, then by slot number. -/
def insertRetry (due : Fin 256 → Tick) (k : Fin 256) : List (Fin 256) → List (Fin 256)
  | [] => [k]
  | j :: rest =>
    if earlier (due k) (due j) || (due k == due j && decide (k.val < j.val)) then k :: j :: rest
    else j :: insertRetry due k rest

/-- R105, R107, R110: the delivery enters RETRY-WAIT with its due tick and joins the Retry Queue. -/
def enterRetry (k : Fin 256) (s : State) : State :=
  match deliveryAt s k with
  | none => s
  | some d =>
    let due := ticksAfter s.tick (seconds (backoffSeconds (planAt s d.subscriber) d.counted k.val))
    let waiting := mapDelivery k (fun x => { x with attempt := none, due := some due, state := .retryWait }) s
    waiting.mapStore fun p => { p with
      retry := insertRetry (dueOf waiting) k p.retry, scheduled := raise p.scheduled }

/-! ## Settling -/

/-- R61: count and charge a closed attempt with an AIRED zone; a void one changes nothing (R62). -/
def countAttempt (k : Fin 256) (d : Delivery) (a : Attempt) (s : State) : State :=
  if airedZones a = 0 then s
  else mapDelivery k (fun x => { x with counted := x.counted + 1 }) (attemptCharge k d a.number (airedZones a) s)

/-- R61, R62: the delivery's next step after its attempt has been counted or found void. -/
def nextStep (k : Fin 256) (o : AttemptOutcome) (s : State) : State :=
  match deliveryAt s k with
  | none => s
  | some d =>
    match o with
    | .acked => endDelivery k .delivered s
    | .missed =>
      if d.expiry = true ∨ d.counted = (planAt s d.subscriber).maxAttempts then endDelivery k .expired s
      else enterRetry k s

/-- R61: settle the closed attempt: count and charge it, remove it, take the next step. -/
def settle (k : Fin 256) (s : State) : State :=
  match deliveryAt s k with
  | none => s
  | some d =>
    match d.attempt with
    | none => s
    | some a =>
      match a.outcome with
      | none => s
      | some o => nextStep k o (mapDelivery k (fun x => { x with attempt := none }) (countAttempt k d a s))

/-- R61: a delivery in SETTLING with every zone resolved settles. -/
def settleIfResolved (k : Fin 256) (s : State) : State :=
  match deliveryAt s k with
  | some d =>
    match d.attempt with
    | some a => if d.state = .settling ∧ allResolved a = true then settle k s else s
    | none => s
  | none => s

/-! ## Closing and withdrawing -/

/-- R54, R60: withdraw the own zone's request directly: WITHDRAWN at once, or WITHDRAWING until cycle end.
(DEDUCED, notes/assumptions/17.md.) -/
def withdrawOwn (k : Fin 256) (zone : Nat) (tag : Tag) (s : State) : State :=
  let outcome := withdrawal tag s
  setZone k zone (if outcome = .deferred then .withdrawing else .withdrawn)
    (withdrawAir tag { station := ownNumber s, seq := 0 } s)

/-- R60: withdraw a remote zone: its outstanding entry becomes a WITHDRAW. -/
def withdrawRemote (k : Fin 256) (zone : Nat) (tag : Tag) (s : State) : State :=
  let marked := setZone k zone .withdrawing s
  match entryOfZone s k zone with
  | some e => convertEntry e.key .withdraw (tagBytes tag) marked
  | none => marked

/-- R60: withdraw one zone of the attempt. -/
def withdrawZone (k : Fin 256) (tag : Tag) (zone : Nat) (s : State) : State :=
  if isOwn s zone then withdrawOwn k zone tag s else withdrawRemote k zone tag s

/-- R60: the zones of an attempt that a close withdraws: those in ACCEPTED, in ascending order. -/
def acceptedZones (a : Attempt) : List Nat :=
  (a.zones.filter fun e => e.state == ZoneState.accepted).map (·.zone)

/-- R56, R60, R61: the attempt closes: it takes its outcome, its ack-wait timer is removed, the delivery enters
SETTLING, the zones that hold the request are withdrawn, and it settles at once if every zone is resolved. -/
def closeAttempt (k : Fin 256) (o : AttemptOutcome) (s : State) : State :=
  match attemptAt s k with
  | none => s
  | some a =>
    let tag := tagFor s k a.number
    let closed := mapDelivery k (fun d => { d with
      state := .settling, attempt := d.attempt.map fun x => { x with outcome := some o, ackDue := none } }) s
    settleIfResolved k ((acceptedZones a).foldl (fun t z => withdrawZone k tag z t) closed)

/-- R59: an attempt in AIR-PENDING with no zone in SENT or ACCEPTED closes MISSED. -/
def closeIfExhausted (k : Fin 256) (s : State) : State :=
  match deliveryAt s k with
  | some d =>
    match d.attempt with
    | some a =>
      if d.state = .airPending ∧ (a.zones.all fun e => !couldAir e.state) = true then closeAttempt k .missed s else s
    | none => s
  | none => s

/-- What a resolved zone may bring about: an exhausted attempt closes (R59), a settling one settles (R61). -/
def afterResolved (k : Fin 256) (s : State) : State := settleIfResolved k (closeIfExhausted k s)

/-- R52, R55: a zone entry becomes REFUSED, WITHDRAWN or LOST, with what follows in the same event. -/
def resolveZone (k : Fin 256) (zone : Nat) (st : ZoneState) (s : State) : State := afterResolved k (setZone k zone st s)

/-- R55: an unresolved zone entry becomes LOST. -/
def loseZone (k : Fin 256) (zone : Nat) (s : State) : State :=
  match (attemptAt s k).bind fun a => zoneStateOf a zone with
  | some st => if unresolved st then resolveZone k zone .lost s else s
  | none => s

/-! ## AIRED reports -/

/-- R41: a tag matches the delivery held in the slot it names. -/
def tagMatches (s : State) (t : Tag) : Bool :=
  isOwn s t.home.toNat && (slotAt s (tagSlot t)).gen == t.gen && (deliveryAt s (tagSlot t)).isSome

/-- R53: the tag is that of the current attempt, whose entry for the zone is unresolved. -/
def airedApplies (zone : Nat) (t : Tag) (s : State) : Bool :=
  tagMatches s t &&
    match attemptAt s (tagSlot t) with
    | some a => a.number == t.attempt.toNat && ((zoneStateOf a zone).map unresolved).getD false
    | none => false

/-- R53, R104: the first AIRED zone brings AWAIT-ACK and starts the ack wait. -/
def startAckWait (k : Fin 256) (s : State) : State :=
  match deliveryAt s k with
  | some d =>
    if d.state = .airPending then
      let due := ticksAfter s.tick (seconds (planAt s d.subscriber).ackWait)
      mapDelivery k (fun x => { x with
        state := .awaitAck, attempt := x.attempt.map fun a => { a with ackDue := some due } }) s
    else s
  | none => s

/-- Free the outstanding entry that serves a zone, if one does (R51). -/
def freeZoneEntry (k : Fin 256) (zone : Nat) (s : State) : State :=
  match entryOfZone s k zone with
  | some e => freeEntry e.key s
  | none => s

/-- R53: take one tag of an AIRED report from a zone. -/
def takeAired (zone : Nat) (s : State) (t : Tag) : State :=
  if airedApplies zone t s then
    settleIfResolved (tagSlot t)
      (startAckWait (tagSlot t) (freeZoneEntry (tagSlot t) zone (setZone (tagSlot t) zone .aired s)))
  else s

/-! ## Acceptance -/

/-- R14, R42, R43, R46: the delivery record built at an acceptance. -/
def newDelivery (s : State) (index : Nat) (c : MessageClass) (body : List Byte) (origin : Option Origin) : Delivery :=
  { subscriber := index, cls := c, body := body, cells := cellCount c.medium body.length, origin := origin,
    lifetimeDue := ticksAfter s.tick (minutes (planAt s index).lifetime), counted := 0, issued := false,
    expiry := false, attempt := none, charged := 0, retryCharges := 0, due := none, state := .issuing }

/-- R14: the acceptance, one event: the slot taken, the counts raised, the accept charge made. -/
def accept (k : Fin 256) (index : Nat) (c : MessageClass) (body : List Byte) (origin : Option Origin) (s : State) :
    State :=
  let built := (setSlot k { slotAt s k with held := some (newDelivery s index c body origin) } s).mapStore fun p =>
    { p with issue := p.issue ++ [k] }
  let counted := modifyRecord index (fun r => { r with live := r.live + 1, accepted := raise r.accepted }) built
  acceptCharge k index counted

/-- R12, R13: the result of the second to fifth steps for the record found, short of the choice of a slot. -/
def decideRecord (r : Subscriber) (c : MessageClass) (s : State) : Decision :=
  let p := s.plans[r.plan.val]
  if r.state = .suspended then .suspended
  else if c.priority = true ∧ p.priorityAllowed = false then .noPriority
  else if p.policy = .hard ∧ c.priority = false ∧ p.allowance ≤ r.usage then .quota
  else if s.life.state = .leaving ∨ Config.maxLiveDeliveries ≤ r.live ∨ lowestFree s = none
      ∨ billingFree s < Config.billingReserve then .busy
  else .accept

/-- R11: the result when no record is found. -/
def decideMissing (s : State) (number : Nat) (origin : Option Origin) : Decision :=
  match origin, homeLookup s number with
  | some _, .peer _ => .notHome
  | _, _ => .unknown

/-- R10 to R13: the result of the acceptance decision. -/
def decision (number : Nat) (c : MessageClass) (origin : Option Origin) (s : State) : Decision :=
  match (findForDecision s number).bind fun i => s.directory[i]? with
  | some r => decideRecord r c s
  | none => decideMissing s number origin

/-- R10, R14: the effect of the acceptance decision. -/
def decideEntry (number : Nat) (c : MessageClass) (body : List Byte) (origin : Option Origin) (s : State) : State :=
  match decision number c origin s, findForDecision s number, lowestFree s with
  | .accept, some index, some k => accept k index c body origin s
  | _, _, _ => s

end Sys2Proof.Machine
end

