-- ==== Sys2Proof/Machine/Airing.lean ====
section
/-! DEFINITION. The air cycle: packing of slots, the handing of cells, the cycle end with its reports and owed
answers, and the commands of the Air Scheduler (04_airing.md). -/

namespace Sys2Proof.Machine

/-! ## Timing (R72 to R74) -/

/-- When an enabled slot begins, in eighths of a tick after the cycle's start: in ALIGNED mode k + 1 slot times, in
FREE mode one cell time and one slot time for each enabled slot before it. -/
def slotOffset (c : StationConfig) (k : Nat) : Nat :=
  match c.mode with
  | .aligned => 8 * (k + 1) * c.slotTime
  | .free => c.slotTime + 8 * ((enabledSlots c).filter fun j => decide (j < k)).length * c.slotTime

/-- When the cycle ends, in eighths of a tick after its start: 17 slot times in ALIGNED mode, the end of the last
enabled slot in FREE mode. -/
def endOffset (c : StationConfig) : Nat :=
  match c.mode with
  | .aligned => 8 * 17 * c.slotTime
  | .free => c.slotTime + 8 * (enabledSlots c).length * c.slotTime

/-- An instant of the cycle, in eighths of a tick after its start, lies in the present tick or before it.
(DESIGN CHOICE, notes/assumptions/20.md.) -/
def instantReached (now start : Tick) (offset : Nat) : Bool := offset < 8 * ((now - start).toNat + 1)

/-- R76: the next enabled slot of the cycle. -/
def nextEnabled (c : StationConfig) (y : Cycle) : Option Nat := (enabledSlots c).find? fun k => decide (y.nextSlot ≤ k)

/-! ## Packing (R76 to R78) -/

/-- The queues, the slot's assigned cells and the cycle's lists while a slot is filled. -/
structure Packing where
  regular : List AirEntry
  priority : List AirEntry
  cells : List SlotCell
  continuing : Option Continuing
  stopped : Bool
  report : List ReportItem
  deriving DecidableEq, Repr

/-- R78 step 1: the candidate: the head of the priority queue, else of the regular queue; true for priority. A head is
the first entry in QUEUED (R67). -/
def candidate (p : Packing) : Option (AirEntry × Bool) :=
  match p.priority.find? fun e => e.state == AirState.queued with
  | some e => some (e, true)
  | none => (p.regular.find? fun e => e.state == AirState.queued).map fun e => (e, false)

/-- The cells of a page assigned to this slot; when none is left for a later slot, the final one is its last. -/
def pageSlotCells (tag : Tag) (here : List LinkCell) (complete : Bool) : List SlotCell :=
  here.zipIdx.map fun x => { bits := x.1, page := some tag, last := complete && x.2 + 1 == here.length }

/-- R78 step 3: start a page: PACKED, on the report list, as many of its cells as the slot has left assigned here. -/
def startPage (e : AirEntry) (fromPriority : Bool) (p : Packing) : Packing :=
  let free := 8 - p.cells.length
  let here := (pageCells e).take free
  let rest := (pageCells e).drop free
  let pack := fun (x : AirEntry) => if x.tag = e.tag then { x with state := AirState.packed } else x
  { regular := p.regular.map pack, priority := p.priority.map pack,
    cells := p.cells ++ pageSlotCells e.tag here rest.isEmpty,
    continuing := if rest.isEmpty then none else some { tag := e.tag, cells := rest },
    stopped := p.stopped, report := p.report ++ [{ tag := e.tag, priority := fromPriority, outcome := .started }] }

/-- R78: start pages while cells of the slot are unassigned; `later` is the cells of the enabled slots not yet
reached. A page takes at least two cells, so a slot starts at most four. -/
def startPages (later : Nat) : Nat → Packing → Packing
  | 0, p => p
  | fuel + 1, p =>
    if p.stopped = true ∨ 8 ≤ p.cells.length then p
    else
      match candidate p with
      | none => p
      | some (e, fromPriority) =>
        if e.cells ≤ (8 - p.cells.length) + later ∧ e.returned = false then
          startPages later fuel (startPage e fromPriority p)
        else { p with stopped := true }

/-- R76: the cells of the continuing page come first, up to 8. -/
def continuePage (a : Air) (y : Cycle) : Packing :=
  match y.continuing with
  | none =>
    { regular := a.regular, priority := a.priority, cells := [], continuing := none, stopped := y.stopped,
      report := y.report }
  | some t =>
    let rest := t.cells.drop 8
    { regular := a.regular, priority := a.priority, cells := pageSlotCells t.tag (t.cells.take 8) rest.isEmpty,
      continuing := if rest.isEmpty then none else some { t with cells := rest }, stopped := y.stopped,
      report := y.report }

/-- R76: fill a slot of a keyed cycle: the continuing page, the pages started, then idle cells. -/
def fillSlot (later slot begins : Nat) (y : Cycle) (a : Air) : Air :=
  let p := startPages later 8 (continuePage a y)
  let idle := List.replicate (8 - p.cells.length) { bits := idleCell, page := none, last := false }
  { a with
    regular := p.regular, priority := p.priority,
    cycle := some { y with nextSlot := slot + 1, slotBegin := begins, cells := p.cells ++ idle,
                           continuing := p.continuing, stopped := p.stopped, report := p.report } }

/-- The outcome of a page on the air report list, set while the page is under way. -/
def markReport (t : Tag) (o : PageOutcome) (items : List ReportItem) : List ReportItem :=
  items.map fun i => if i.tag = t ∧ i.outcome = .started then { i with outcome := o } else i

/-- R77: the continuing page is returned: QUEUED, its returned mark set, its position kept. -/
def returnEntry (t : Tag) (e : AirEntry) : AirEntry :=
  if e.tag = t then { e with state := .queued, returned := true } else e

/-- R77: skip a slot: it carries no cells, and a continuing page is returned. -/
def skipSlot (slot begins : Nat) (y : Cycle) (a : Air) : Air :=
  let moved := { y with nextSlot := slot + 1, slotBegin := begins, cells := [], skipped := y.skipped + 1 }
  match y.continuing with
  | none => { a with cycle := some moved }
  | some t =>
    { a with
      regular := a.regular.map (returnEntry t.tag), priority := a.priority.map (returnEntry t.tag),
      cycle := some { moved with continuing := none, report := markReport t.tag .returned y.report } }

/-- R80: the next cell of the slot is handed; a page whose last cell is handed becomes DONE-IN-CYCLE. -/
def handCell (cell : SlotCell) (rest : List SlotCell) (y : Cycle) (a : Air) : Air :=
  match cell.page with
  | none => { a with lastCell := some cell.bits, cycle := some { y with cells := rest, idleCells := y.idleCells + 1 } }
  | some t =>
    let finish := fun (e : AirEntry) => if e.tag = t ∧ cell.last = true then { e with state := AirState.done } else e
    { a with
      regular := a.regular.map finish, priority := a.priority.map finish, lastCell := some cell.bits,
      cycle := some { y with
        cells := rest, pageCells := y.pageCells + 1,
        report := if cell.last then markReport t .done y.report else y.report } }

/-! ## Cycle end (R82 to R86) -/

/-- Insert a home into an ascending list without repeats. -/
def insertHome (h : Byte) : List Byte → List Byte
  | [] => [h]
  | x :: rest => if h = x then x :: rest else if h.toNat < x.toNat then h :: x :: rest else x :: insertHome h rest

/-- R83: the homes of tags, in ascending order of station number. -/
def homesOf (tags : List Tag) : List Byte := tags.foldr (fun t hs => insertHome t.home hs) []

/-- R83: cut into frames of up to 24 tags, in order. -/
def framesOf : Nat → List Tag → List (List Tag)
  | 0, _ => []
  | _, [] => []
  | fuel + 1, tags => tags.take 24 :: framesOf fuel (tags.drop 24)

/-- R83: the tags a cycle reports: those of the pages that reached DONE-IN-CYCLE, in list order. -/
def reportedTags (y : Cycle) : List Tag := (y.report.filter fun i => i.outcome == PageOutcome.done).map (·.tag)

/-- R83: the report to one home: to the own Page Store within this event, to another as AIRED frames. -/
def reportHome (tags : List Tag) (s : State) (home : Byte) : State :=
  let group := tags.filter fun t => t.home = home
  if isOwn s home.toNat then group.foldl (takeAired (ownNumber s)) s
  else (framesOf group.length group).foldl
    (fun x frame => answerTo .aired home.toNat (Config.airedSequence s.tick) (frame.flatMap tagBytes) x) s

/-- R82 step 1: the AIRED reports of the cycle. -/
def makeReports (y : Cycle) (s : State) : State := (homesOf (reportedTags y)).foldl (reportHome (reportedTags y)) s

/-- R85: an entry owed an answer at cycle end: returned, with a withdraw pending. -/
def owed (e : AirEntry) : Bool := e.returned && e.withdraw.isSome

/-- R85: the own zone's returned request is handed to the Page Store as WITHDRAWN. -/
def ownWithdrawn (t : Tag) (s : State) : State :=
  match attemptAt s (tagSlot t) with
  | some a =>
    if tagMatches s t = true ∧ a.number = t.attempt.toNat ∧ zoneStateOf a (ownNumber s) = some .withdrawing then
      resolveZone (tagSlot t) (ownNumber s) .withdrawn s
    else s
  | none => s

/-- R85: the answer owed for one entry. -/
def answerOwed (s : State) (e : AirEntry) : State :=
  match e.withdraw with
  | some w =>
    if isOwn s w.station then ownWithdrawn e.tag s else answerTo .withdrawn w.station w.seq [0] s
  | none => s

/-- R82 step 2, R85: the answers owed, in ascending order of home station.
(DESIGN CHOICE, notes/assumptions/12.md, for the order within one home.) -/
def makeOwed (s : State) : State :=
  let entries := (s.air.regular ++ s.air.priority).filter owed
  (homesOf (entries.map (·.tag))).foldl
    (fun x h => (entries.filter fun e => e.tag.home = h).foldl answerOwed x) s

/-- R82 steps 3 to 5: the entry leaves when DONE-IN-CYCLE, or returned with a withdraw pending. -/
def leavesQueue (e : AirEntry) : Bool := e.state == AirState.done || owed e

/-- R86: the counts of a cycle are added. -/
def addCycle (y : Cycle) (c : CycleCounts) : CycleCounts :=
  { cycles := c.cycles + 1,
    pagesAired := c.pagesAired + BitVec.ofNat 32 (reportedTags y).length,
    cellsAired := c.cellsAired + BitVec.ofNat 32 y.pageCells,
    idleCells := c.idleCells + BitVec.ofNat 32 y.idleCells,
    slotsSkipped := c.slotsSkipped + BitVec.ofNat 32 y.skipped,
    priorityPages := c.priorityPages + BitVec.ofNat 32
      (y.report.filter fun i => i.outcome == PageOutcome.done && i.priority).length }

/-- R82 steps 3 to 7, R72: the queues after the reports, the counts published, KEY deasserted, no cycle. -/
def closeCycle (y : Cycle) (a : Air) : Air :=
  let keep := fun (q : List AirEntry) =>
    (q.filter fun e => !leavesQueue e).map fun e => { e with returned := false }
  { a with regular := keep a.regular, priority := keep a.priority, cycle := none, key := false,
           cycleCounts := addCycle y a.cycleCounts }

/-- R82: the end of the cycle in progress. -/
def endCycle (y : Cycle) (s : State) : State := (makeOwed (makeReports y s)).mapAir (closeCycle y)

/-! ## The commands -/

/-- R72, R73: in FREE mode a keyed cycle starts at the event at which an active scheduler with no cycle in progress holds
an entry QUEUED. -/
def mayStartFree (s : State) : Bool :=
  member s && (cfg s).mode == .free && s.air.cycle.isNone && anyQueued s

/-- R72, R73: the next FREE cycle starts at the end of the one before, with KEY asserted across the boundary. -/
def startNextFree (s : State) : State := if mayStartFree s then startCycle s else s

/-- FREE_CYCLE_START (R73): active, FREE, no cycle in progress, and an entry QUEUED. -/
def execFreeCycleStart (s : State) : Host.Outcome State Fault Refusal := .next (startNextFree s)

/-- R74, R89: the effect of the cycle timer's expiry. -/
def cycleTimerEffect (s : State) : State :=
  if s.life.state = .leaving ∧ airEmpty s = true then (clearMark s).mapAir fun a => { a with timer := none }
  else if s.bus.pendingMark then
    mapAirCounts (fun c => { c with unmarkedCycles := raise c.unmarkedCycles }) (startCycle (clearMark s))
  else
    (s.mapBus fun b => { b with pendingMark := true }).mapAir fun a =>
      { a with timer := some (ticksAfter s.tick (timerPeriod s)) }

/-- CYCLE_TIMER_EXPIRY (R74, R89): with no cycle in progress; the timer period exceeds the cycle duration.
(DEDUCED, notes/assumptions/17.md.) -/
def execCycleTimerExpiry (s : State) : Host.Outcome State Fault Refusal :=
  .next (if member s = true ∧ (cfg s).mode = .aligned ∧ s.air.cycle = none ∧ timerReached s.tick s.air.timer = true then
      cycleTimerEffect s
    else s)

/-- R76: the enabled slot that can start now: the keyed cycle's next one, once the cells of the slot before are handed
and its time has come. -/
def startableSlot (s : State) : Option (Cycle × Nat) :=
  match s.air.cycle with
  | none => none
  | some y =>
    match nextEnabled (cfg s) y with
    | none => none
    | some k =>
      if y.keyed = true ∧ y.cells = [] ∧ instantReached s.tick y.start (slotOffset (cfg s) k) = true then some (y, k)
      else none

/-- SLOT_START (R76 to R78): READY is read, and the slot is filled or skipped. -/
def execSlotStart (ready : Bool) (s : State) : Host.Outcome State Fault Refusal :=
  .next (
    match startableSlot s with
    | none => s
    | some (y, k) =>
      let begins := slotOffset (cfg s) k
      let later := 8 * ((enabledSlots (cfg s)).filter fun j => decide (k < j)).length
      (s.mapPins fun p => { p with ready := ready }).mapAir
        (if ready then fillSlot later k begins y else skipSlot k begins y))

/-- CELL_HANDED (R79, R80): the next assigned cell is handed, one per cell time from the slot start. -/
def execCellHanded (s : State) : Host.Outcome State Fault Refusal :=
  .next (
    match s.air.cycle with
    | none => s
    | some y =>
      match y.cells with
      | [] => s
      | cell :: rest =>
        if instantReached s.tick y.start (y.slotBegin + (7 - rest.length) * (cfg s).slotTime) then
          s.mapAir (handCell cell rest y)
        else s)

/-- CYCLE_END (R72, R82): the cycle's time has run, its slots have started and their cells are handed. -/
def execCycleEnd (offpeak : Bool) (s : State) : Host.Outcome State Fault Refusal :=
  .next (
    match s.air.cycle with
    | none => s
    | some y =>
      if y.cells = [] ∧ (y.keyed = true → nextEnabled (cfg s) y = none)
          ∧ instantReached s.tick y.start (endOffset (cfg s)) = true then
        startNextFree (endCycle y (withOffpeak offpeak s))
      else s)

end Sys2Proof.Machine
end

