-- ==== Sys2Proof/Machine/Reverse.lean ====
section
/-! DEFINITION. The Acknowledgement Matcher: the reverse port, the judging and routing of reports, the match of a
report, and the commands of the reverse port (05_acknowledgement_and_retry.md). -/

namespace Sys2Proof.Machine

/-! ## Matching (R98, R99, R57) -/

/-- The classes of a genuine report (R99), and STALE (R98). -/
inductive AckClass where
  | stale | closed | turned | duplicate | direct
  deriving DecidableEq, Repr

/-- R98: the report's attempt number is one that may have been aired under the current generation. -/
def genuine (s : State) (t : Tag) (d : Delivery) : Bool :=
  (slotAt s (tagSlot t)).gen == t.gen && d.issued && decide (t.attempt.toNat ≤ d.counted + 1)

/-- R98, R99: the class of a report for this station. -/
def classify (s : State) (t : Tag) : AckClass :=
  match deliveryAt s (tagSlot t) with
  | none => .stale
  | some d =>
    if genuine s t d then
      match d.state with
      | .airPending | .awaitAck => .closed
      | .settling => if d.attempt.bind (·.outcome) = some .missed then .turned else .duplicate
      | .retryWait | .issuing => .direct
    else .stale

/-- R99: the count of a class. -/
def countAck (a : AckClass) (c : MatcherCounts) : MatcherCounts :=
  match a with
  | .stale => { c with stale := raise c.stale }
  | .closed => { c with ackClosed := raise c.ackClosed }
  | .turned => { c with ackTurned := raise c.ackTurned }
  | .duplicate => { c with ackDuplicate := raise c.ackDuplicate }
  | .direct => { c with ackDirect := raise c.ackDirect }

/-- R57: what the Page Store does with an acknowledgement of a class. -/
def acknowledge (k : Fin 256) (a : AckClass) (s : State) : State :=
  match a with
  | .closed => closeAttempt k .acked s
  | .turned => mapAttempt k (fun x => { x with outcome := some .acked }) s
  | .direct => endDelivery k .delivered s
  | .stale | .duplicate => s

/-- R98, R99: match a report. -/
def matchReport (t : Tag) (s : State) : State :=
  let c := classify s t
  acknowledge (tagSlot t) c (mapMatcherCounts (countAck c) s)

/-! ## Judging a complete report (R92) -/

/-- What becomes of a complete report (R92). -/
inductive Judgement where
  | badReport | lowQuality | ignored | fifoFull | taken
  deriving DecidableEq, Repr

/-- The byte at a place of the six characters. -/
def charAt (chars : List RxChar) (i : Nat) : Byte := (chars.map (·.byte)).getD i 0

/-- The tag and quality that six characters carry. -/
def reportOf (chars : List RxChar) : Report :=
  { tag := { home := charAt chars 0, slot := charAt chars 1, gen := charAt chars 2, attempt := charAt chars 3 },
    quality := charAt chars 4 }

/-- The station listens to reports: JOINING, ON-BUS or LEAVING (R92 test 5). -/
def reportsWanted (s : State) : Bool := s.life.state == .joining || member s

/-- R92: the first test that a complete report fails decides its fate. -/
def judge (s : State) (chars : List RxChar) : Judgement :=
  let r := reportOf chars
  if (List.any chars fun c => c.framing) = true then .badReport
  else if ¬ (1 ≤ r.tag.home.toNat ∧ r.tag.home.toNat ≤ 24 ∧ 1 ≤ r.tag.attempt.toNat ∧ r.tag.attempt.toNat ≤ 7
      ∧ r.quality.toNat ≤ 15) then .badReport
  else if (chars.map (·.byte)).foldl (· + ·) 0 ≠ 0 then .badReport
  else if r.quality.toNat < (cfg s).minQuality then .lowQuality
  else if reportsWanted s = false then .ignored
  else if Config.reverseFifoSize ≤ s.matcher.fifo.length then .fifoFull
  else .taken

/-- R92: the count of a judgement. -/
def countJudgement (j : Judgement) (c : MatcherCounts) : MatcherCounts :=
  match j with
  | .badReport => { c with badReport := raise c.badReport }
  | .lowQuality => { c with lowQuality := raise c.lowQuality }
  | .ignored => { c with ignored := raise c.ignored }
  | .fifoFull => { c with fifoFull := raise c.fifoFull }
  | .taken => { c with reportsTaken := raise c.reportsTaken }

/-- R92: a complete report joins the FIFO, or is discarded and counted. -/
def takeReport (chars : List RxChar) (s : State) : State :=
  let j := judge s chars
  s.mapMatcher fun m => { m with
    fifo := if j = .taken then m.fifo ++ [reportOf chars] else m.fifo, run := .complete false,
    counts := countJudgement j m.counts }

/-! ## Routing the head (R94 to R96) -/

/-- R95: the HEARD notice of a report. -/
def heardPayload (r : Report) : List Byte := tagBytes r.tag ++ [r.quality]

/-- The head leaves the FIFO. -/
def dropHead (s : State) : State := s.mapMatcher fun m => { m with fifo := m.fifo.tail }

/-- R94 to R96, R98: the head is matched, relayed, dropped, or waits for answer-queue room. -/
def routeHead (r : Report) (s : State) : State :=
  if isOwn s r.tag.home.toNat then matchReport r.tag (dropHead s)
  else if (presenceAt s r.tag.home.toNat).present then
    if s.bus.answers.length < Config.answerQueueSize then
      mapMatcherCounts (fun c => { c with relayed := raise c.relayed })
        (answerTo .heard r.tag.home.toNat 0 (heardPayload r) (dropHead s))
    else s
  else mapMatcherCounts (fun c => { c with homeAbsent := raise c.homeAbsent }) (dropHead s)

/-- R97, R98: a HEARD notice for this station is checked for home and quality and matched. -/
def takeHeard (r : Report) (s : State) : State :=
  let counted := mapMatcherCounts (fun c => { c with heardTaken := raise c.heardTaken }) s
  if isOwn s r.tag.home.toNat = false then
    mapMatcherCounts (fun c => { c with misrouted := raise c.misrouted }) counted
  else if r.quality.toNat < (cfg s).minQuality then
    mapMatcherCounts (fun c => { c with lowQuality := raise c.lowQuality }) counted
  else matchReport r.tag counted

/-- R101: a fresh join removes the station's reports from the FIFO and counts each. -/
def purgeReports (station : Nat) (s : State) : State :=
  s.mapMatcher fun m =>
    let n := (m.fifo.filter fun r => r.tag.home.toNat == station).length
    { m with fifo := m.fifo.filter (fun r => r.tag.home.toNat != station),
             counts := { m.counts with purgedReports := raiseTo 65535 m.counts.purgedReports n } }

/-! ## The commands -/

/-- REPORT_CHARACTER_RECEIVED (R91): a character before the sixth starts a report or joins the one gathered. -/
def execReportCharacterReceived (char : Byte) (framing : Bool) (s : State) : Host.Outcome State Fault Refusal :=
  .next (
    if running s = false then s
    else
      let c : RxChar := { byte := char, framing := framing }
      match s.matcher.run with
      | .gathering chars =>
        if chars.length < 5 then s.mapMatcher fun m => { m with run := .gathering (chars ++ [c]) } else s
      | _ => s.mapMatcher fun m => { m with run := .gathering [c] })

/-- REVERSE_REPORT (R91, R92): the sixth character completes the report, which is judged. -/
def execReverseReport (char : Byte) (framing : Bool) (s : State) : Host.Outcome State Fault Refusal :=
  .next (
    if running s = false then s
    else
      match s.matcher.run with
      | .gathering chars =>
        if chars.length = 5 then takeReport (chars ++ [{ byte := char, framing := framing }]) s else s
      | _ => s)

/-- SHORT_REPORT (R91): two character times of idle with one to five characters gathered. -/
def execShortReport (s : State) : Host.Outcome State Fault Refusal :=
  .next (
    if running s = false then s
    else
      match s.matcher.run with
      | .gathering _ =>
        s.mapMatcher fun m => { m with run := .idle, counts := { m.counts with badReport := raise m.counts.badReport } }
      | _ => s)

/-- EXTRA_REPORT_CHARACTER (R91): a character after a complete report with no idle gap; the first of the run is
counted. -/
def execExtraReportCharacter (s : State) : Host.Outcome State Fault Refusal :=
  .next (
    if running s = false then s
    else
      match s.matcher.run with
      | .complete false =>
        s.mapMatcher fun m =>
          { m with run := .complete true, counts := { m.counts with badReport := raise m.counts.badReport } }
      | _ => s)

/-- MATCHER_TAKE_HEAD (R94): the head of the reverse FIFO is taken when its route can be followed. -/
def execMatcherTakeHead (offpeak : Bool) (s : State) : Host.Outcome State Fault Refusal :=
  .next (
    if member s = false then s
    else
      match s.matcher.fifo with
      | r :: _ => routeHead r (withOffpeak offpeak s)
      | [] => s)

end Sys2Proof.Machine
end

