-- ==== Sys2Proof/Machine/Intake.lean ====
section
/-! DEFINITION. The Intake Unit: its lines from seizure to verdict, the assembly, validation and routing of entries,
and the commands on a line (02_message_intake.md). -/

namespace Sys2Proof.Machine

/-! ## Verdicts (R38) -/

/-- R38: the station-wide count of a verdict code. -/
def countVerdict (v : Verdict) (c : IntakeCounts) : IntakeCounts :=
  match v with
  | .accept => { c with accept := raise c.accept }
  | .unknown => { c with unknown := raise c.unknown }
  | .suspended => { c with suspended := raise c.suspended }
  | .quota => { c with quota := raise c.quota }
  | .noPriority => { c with noPriority := raise c.noPriority }
  | .busy => { c with busy := raise c.busy }
  | .unreachable => { c with unreachable := raise c.unreachable }
  | .badEntry => { c with badEntry := raise c.badEntry }
  | .timeout => { c with timeout := raise c.timeout }

/-- R38: the line after a verdict: the character in the transmit buffer with the line's rate, the entry's state left
for AWAIT-OPEN, or for HALTED when OVERRUN is set. -/
def afterVerdict (v : Verdict) (l : Line) : Line :=
  { l with txBuffer := some { byte := verdictChar v, rate := l.rate },
           state := if l.overrun then .halted else .awaitOpen, entry := none, timer := none, lookup := none }

/-- R38: produce a verdict on a line. -/
def produceVerdict (k : Fin 8) (v : Verdict) (s : State) : State :=
  mapLine k (afterVerdict v) (mapIntakeCounts (countVerdict v) s)

/-! ## The entry (R28 to R30) -/

/-- R28: an entry begun by OPEN: empty, check sum 0, its framing mark that of the OPEN. -/
def newEntry (framing : Bool) : EntryAssembly :=
  { chars := [], sum := 0, framing := framing, tooLong := false, awaitingCheck := false }

/-- R28: the entry takes a character before CLOSE has come. -/
def addChar (c : RxChar) (e : EntryAssembly) : EntryAssembly :=
  let e' := { e with sum := e.sum + c.byte, framing := e.framing || c.framing }
  if c.byte = closeChar then { e' with awaitingCheck := true }
  else if e.chars.length < 88 then { e' with chars := e.chars ++ [c.byte] }
  else { e' with tooLong := true }

/-- R28: the entry takes its CHECK. -/
def addCheck (c : RxChar) (e : EntryAssembly) : EntryAssembly :=
  { e with sum := e.sum + c.byte, framing := e.framing || c.framing }

/-- The number that decimal digits spell, most significant first. -/
def digitsValue (ds : List Byte) : Nat := ds.foldl (fun acc d => 10 * acc + (d.toNat - 0x30)) 0

/-- R30: the validated content of a complete entry; none gives BAD-ENTRY. -/
def validate (e : EntryAssembly) : Option ForwardAsk :=
  let digits := e.chars.takeWhile isDigit
  if e.framing = true ∨ e.tooLong = true ∨ digits.length ≠ 7 ∨ e.sum ≠ 0 then none
  else
    match e.chars.drop 7 with
    | [] => none
    | ch :: body =>
      match classOf ch with
      | none => none
      | some c =>
        if body.length ≤ maxBody c.medium ∧ (body.all fun b => inBodySet c.medium b) = true then
          some { number := digitsValue digits, cls := c, body := body }
        else none

/-! ## Routing (R31 to R33) -/

/-- R33: the line claims an entry, queues a FORWARD and enters LOOKUP. -/
def forwardEntry (k : Fin 8) (peer : Nat) (ask : ForwardAsk) (s : State) : State :=
  let key : EntryKey := { peer := peer, seq := (nextSequence s peer .forward).1, kind := .forward }
  mapLine k (fun l => { l with state := .lookup, lookup := some key, entry := none, timer := none })
    (claimEntry peer .forward (.line k) (forwardPayload ask) s)

/-- R31: route a validated entry. -/
def routeEntry (k : Fin 8) (ask : ForwardAsk) (s : State) : State :=
  if s.life.state = .configured ∨ s.life.state = .joining then produceVerdict k .busy s
  else
    match homeLookup s ask.number with
    | .none => produceVerdict k .unknown s
    | .own =>
      produceVerdict k (verdictOf (decision ask.number ask.cls none s))
        (decideEntry ask.number ask.cls ask.body none s)
    | .peer p =>
      if s.life.state = .leaving then produceVerdict k .busy s
      else if (presenceAt s p).present = false then produceVerdict k .unreachable s
      else if outstandingFree s = 0 ∨ requestRoom s = 0 then produceVerdict k .busy s
      else forwardEntry k p ask s

/-- R30: the entry is complete at its CHECK: it is validated and routed, or given BAD-ENTRY. -/
def checkEntry (k : Fin 8) (e : EntryAssembly) (s : State) : State :=
  match validate e with
  | some ask => routeEntry k ask s
  | none => produceVerdict k .badEntry s

/-- The due tick of a line timer started now (R21, R29). -/
def lineTimer (s : State) : Tick := ticksAfter s.tick (seconds (cfg s).entryTimeout)

/-- R28: the assembler takes a character, according to the line state. -/
def assemble (k : Fin 8) (s : State) (c : RxChar) : State :=
  match (lineAt s k).state, (lineAt s k).entry with
  | .awaitOpen, _ =>
    if c.byte = openChar then
      mapLine k (fun l => { l with
        state := .collect, entry := some (newEntry c.framing), timer := some (lineTimer s) }) s
    else s
  | .collect, some e =>
    if e.awaitingCheck then
      checkEntry k (addCheck c e) (mapLine k (fun l => { l with timer := none }) s)
    else mapLine k (fun l => { l with entry := some (addChar c e), timer := some (lineTimer s) }) s
  | _, _ => s

/-- R26: on leaving LOOKUP for AWAIT-OPEN the assembler takes the waiting characters, oldest first. -/
def drainFifo (k : Fin 8) (s : State) : State :=
  if (lineAt s k).state = .awaitOpen then
    (lineAt s k).fifo.foldl (assemble k) (mapLine k (fun l => { l with fifo := [] }) s)
  else s

/-- R34, R35: a verdict that ends a LOOKUP. -/
def leaveLookup (k : Fin 8) (v : Verdict) (s : State) : State := drainFifo k (produceVerdict k v s)

/-- R35, R36: a FORWARD entry is turned into a CANCEL, whose frame carries the forward sequence. -/
def cancelForward (key : EntryKey) (s : State) : State := convertEntry key .cancel [key.seq] s

/-- R35: the reply timer of a FORWARD entry has run out, or the Exchange Unit completes it so: the entry becomes a
CANCEL and the line waiting on it gives UNREACHABLE. -/
def forwardTimedOut (e : Outstanding) (s : State) : State :=
  let cancelled := cancelForward e.key s
  match e.owner with
  | .line k =>
    if (lineAt s k).state = .lookup ∧ (lineAt s k).lookup = some e.key then leaveLookup k .unreachable cancelled
    else cancelled
  | .zone _ _ => cancelled

/-- R37, R39: count a completed cancel. -/
def countCancel (code : Option CancelCode) (c : IntakeCounts) : IntakeCounts :=
  match code with
  | some .cancelled => { c with cancelDone := raise c.cancelDone }
  | some .tooLate => { c with cancelTooLate := raise c.cancelTooLate }
  | some .unknown => { c with cancelUnknown := raise c.cancelUnknown }
  | none => { c with cancelUnanswered := raise c.cancelUnanswered }

/-! ## Seizure (R21, R22) -/

/-- R21: a seize is recognised. -/
def recogniseSeize (k : Fin 8) (s : State) : State :=
  mapLine k (fun l => { l with
    seized := true, disagree := 0, state := .rate, rate := none, rateFallback := false, overrun := false,
    measuring := none, rxShift := none, fifo := [], timer := some (lineTimer s),
    counts := { l.counts with seizures := raise l.counts.seizures } }) s

/-- R22: the line after a release: IDLE, with its receive state gone and its transmitter as it was. -/
def released (abandons : Bool) (l : Line) : Line :=
  { l with seized := false, disagree := 0, state := .idle, rate := none, rateFallback := false, overrun := false,
           measuring := none, rxShift := none, fifo := [], entry := none, timer := none, lookup := none,
           counts := { l.counts with abandoned := if abandons then raise l.counts.abandoned else l.counts.abandoned } }

/-- R22, R36: a release is recognised. -/
def recogniseRelease (k : Fin 8) (s : State) : State :=
  let l := lineAt s k
  let cancelled :=
    match l.state, l.lookup with
    | .lookup, some key => cancelForward key s
    | _, _ => s
  mapLine k (released (l.state == .collect || l.state == .lookup)) cancelled

/-- R21: the level is recognised at the fifth consecutive sample that disagrees. (DEDUCED, notes/assumptions/7.md.) -/
def fifthSample (l : Line) : Bool := 4 ≤ l.disagree

/-- R21: the sample, read with the line's configured polarity, agrees with the recognised SEIZE. -/
def sampleAgrees (s : State) (k : Fin 8) (high : Bool) : Bool :=
  (high == (cfg s).lines[k.val].activeHigh) == (lineAt s k).seized

/-! ## The commands -/

/-- SEIZE_RECOGNISED (R21): the fifth consecutive active sample on a released line. -/
def execSeizeRecognised (k : Fin 8) (s : State) : Host.Outcome State Fault Refusal :=
  .next (if running s = true ∧ (lineAt s k).seized = false ∧ fifthSample (lineAt s k) = true then recogniseSeize k s
    else s)

/-- RELEASE_RECOGNISED (R22): the fifth consecutive inactive sample on a seized line. -/
def execReleaseRecognised (k : Fin 8) (s : State) : Host.Outcome State Fault Refusal :=
  .next (if running s = true ∧ (lineAt s k).seized = true ∧ fifthSample (lineAt s k) = true then recogniseRelease k s
    else s)

/-- SEIZE_SAMPLE (R21): one tick's sample of SEIZE; the fifth that disagrees recognises the new level. -/
def execSeizeSample (k : Fin 8) (high : Bool) (s : State) : Host.Outcome State Fault Refusal :=
  .next (
    if running s = false then s
    else if sampleAgrees s k high then mapLine k (fun l => { l with disagree := 0 }) s
    else if fifthSample (lineAt s k) then
      if (lineAt s k).seized then recogniseRelease k s else recogniseSeize k s
    else mapLine k (fun l => { l with disagree := l.disagree + 1 }) s)

/-- CALIBRATION_FIRST_EDGE (R23): the calibration timer is stopped and the measurement counter starts from 0. -/
def execCalibrationFirstEdge (k : Fin 8) (s : State) : Host.Outcome State Fault Refusal :=
  .next (if running s = true ∧ (lineAt s k).state = .rate ∧ (lineAt s k).measuring = none then
      mapLine k (fun l => { l with timer := none, measuring := some 0 }) s
    else s)

/-- R23: the rate chosen from a measurement in microseconds. -/
def rateFor (micros : Nat) : LineRate :=
  if 16667 ≤ micros then .r300 else if 5000 ≤ micros then .r1200 else if 2083 ≤ micros then .r2400 else .r9600

/-- RATE_CHOSEN (R23): the fifth falling edge, with the measurement it ends.
(DESIGN CHOICE, notes/assumptions/17.md.) -/
def execRateChosen (k : Fin 8) (micros : Nat) (s : State) : Host.Outcome State Fault Refusal :=
  .next (if running s = true ∧ (lineAt s k).state = .rate ∧ (lineAt s k).measuring.isSome = true ∧ micros ≤ 65534 then
      mapLine k (fun l => { l with state := .awaitOpen, rate := some (rateFor micros), measuring := none }) s
    else s)

/-- R24: the line falls back to its default rate. -/
def fallBack (k : Fin 8) (s : State) : State :=
  mapLine k (fun l => { l with
    state := .awaitOpen, rate := some (cfg s).lines[k.val].defaultRate, rateFallback := true, measuring := none,
    timer := none, counts := { l.counts with fallbacks := raise l.counts.fallbacks } }) s

/-- MEASUREMENT_OVERFLOW (R24): the measurement counter reaches 65,535. -/
def execMeasurementOverflow (k : Fin 8) (s : State) : Host.Outcome State Fault Refusal :=
  .next (if running s = true ∧ (lineAt s k).state = .rate ∧ (lineAt s k).measuring.isSome = true then fallBack k s
    else s)

/-- CALIBRATION_TIMEOUT (R24): the calibration timer reaches its due tick before the first falling edge. -/
def execCalibrationTimeout (k : Fin 8) (s : State) : Host.Outcome State Fault Refusal :=
  .next (if running s = true ∧ (lineAt s k).state = .rate ∧ (lineAt s k).measuring = none
      ∧ timerReached s.tick (lineAt s k).timer = true then fallBack k s
    else s)

/-! ### The receiver (R25 to R27) -/

/-- R25, R27: the receiver runs in AWAIT-OPEN, COLLECT and LOOKUP, until an overrun stops it. -/
def receiverRuns (l : Line) : Bool :=
  match l.state with
  | .awaitOpen | .collect | .lookup => !l.overrun
  | .idle | .rate | .halted => false

/-- R27: the line overruns: the FIFO's characters and the new one are discarded and the receiver stops. -/
def overrunLine (l : Line) : Line :=
  { l with rxShift := none, fifo := [], overrun := true, counts := { l.counts with overruns := raise l.counts.overruns } }

/-- R26, R27: the character in the shift stage passes to the FIFO's tail, or overruns the line. -/
def passShift (l : Line) : Line :=
  match l.rxShift with
  | none => l
  | some c =>
    if l.fifo.length < Config.receiverFifoSize then { l with rxShift := none, fifo := l.fifo ++ [c] }
    else overrunLine l

/-- R25: a character is complete in the shift stage, and passes on. -/
def completeChar (c : RxChar) (l : Line) : Line := passShift { l with rxShift := some c }

/-- R26: in AWAIT-OPEN and COLLECT the assembler takes every character from the head of the FIFO. -/
def feedAssembler (k : Fin 8) (s : State) : State :=
  match (lineAt s k).state with
  | .awaitOpen | .collect => (lineAt s k).fifo.foldl (assemble k) (mapLine k (fun l => { l with fifo := [] }) s)
  | _ => s

/-- CHARACTER_RECEIVED (R25 to R28): a character completes on a line whose receiver runs. -/
def execCharacterReceived (offpeak : Bool) (k : Fin 8) (char : Byte) (framing : Bool) (s : State) :
    Host.Outcome State Fault Refusal :=
  .next (
    if running s = true ∧ receiverRuns (lineAt s k) = true then
      feedAssembler k (mapLine k (completeChar { byte := char, framing := framing }) (withOffpeak offpeak s))
    else s)

/-- ENTRY_TIMEOUT (R29): the entry timer reaches its due tick in COLLECT. -/
def execEntryTimeout (k : Fin 8) (s : State) : Host.Outcome State Fault Refusal :=
  .next (if running s = true ∧ (lineAt s k).state = .collect ∧ timerReached s.tick (lineAt s k).timer = true then
      produceVerdict k .timeout s
    else s)

/-! ### The transmitter (R38) -/

/-- R38: the ticks by which a character taken into the shift stage has been sent: its ten bits fill 33.3 ms, 3.3 ticks,
at 300 bit/s and less than one tick at the other rates. (DESIGN CHOICE, notes/assumptions/8.md, for whole ticks.) -/
def sendTicks : Option LineRate → Nat
  | some .r300 => 4
  | _ => 1

/-- R38: the shift stage takes the character from the transmit buffer. -/
def takeBuffer (now : Tick) (l : Line) : Line :=
  match l.txBuffer with
  | none => l
  | some c => { l with txShift := some { bits := serialBits c.byte, rate := c.rate, since := now }, txBuffer := none }

/-- R38: the shift stage is empty from the tick by which its character has been sent.
(DESIGN CHOICE, notes/assumptions/8.md.) -/
def endShift (now : Tick) (l : Line) : Line :=
  match l.txShift with
  | none => l
  | some c => if sendTicks c.rate ≤ (now - c.since).toNat then { l with txShift := none } else l

/-- VERDICT_TRANSMISSION (R38): the empty shift stage takes the character from the transmit buffer. -/
def execVerdictTransmission (k : Fin 8) (s : State) : Host.Outcome State Fault Refusal :=
  .next (if running s = true ∧ (lineAt s k).txBuffer.isSome = true ∧ (lineAt s k).txShift = none then
      mapLine k (takeBuffer s.tick) s
    else s)

/-- R1, R38: the counter counts a tick, and characters that have been sent leave their shift stages.
(DESIGN CHOICE, notes/assumptions/8.md.) -/
def countTick (s : State) : State :=
  (s.setTick (s.tick + 1)).mapIntake fun i => { i with lines := i.lines.map (endShift (s.tick + 1)) }

end Sys2Proof.Machine
end

