-- ==== Sys2Proof/Machine/StoreEvents.lean ====
section
/-! DEFINITION. The events of the Page Store, the Retry Queue and the outstanding table: issue, the lifetime and
ack-wait expiries, reply timeouts and retry releases (03_deliveries_and_the_page_store.md, 05, 08). -/

namespace Sys2Proof.Machine

/-! ## Issue (R48 to R50) -/

/-- The zone can air: the own zone with airing enabled, or a peer that is present and airs (R49). -/
def zoneAirs (s : State) (zone : Nat) : Bool :=
  if isOwn s zone then (cfg s).airing else (presenceAt s zone).present && (presenceAt s zone).airing

/-- R49: the candidate zones of attempt `a`, in ascending order. With M = 1 the row for a = M applies to the first
attempt. (DEDUCED, notes/assumptions/10.md.) -/
def candidateZones (s : State) (p : Plan) (r : Subscriber) (a : Nat) : List Nat :=
  if a = p.maxAttempts ∧ p.finalSweep = true then allZones.filter (zoneAirs s)
  else if a = 1 ∧ p.maxAttempts ≠ 1 then allZones.filter (inZones r.homeZones)
  else allZones.filter (inZones (if p.widening then r.homeZones ||| r.wideZones else r.homeZones))

/-- R49: the zone list of attempt `a`: each candidate SENT, or ABSENT when it cannot air. -/
def zoneList (s : State) (p : Plan) (r : Subscriber) (a : Nat) : List ZoneEntry :=
  (candidateZones s p r a).map fun z => { zone := z, state := if zoneAirs s z then .sent else .absent }

/-- The remote zones of a list in SENT (R48, R50). -/
def remoteSent (s : State) (zones : List ZoneEntry) : List Nat :=
  (zones.filter fun e => e.state == ZoneState.sent && !isOwn s e.zone).map (·.zone)

/-- The zone list that the head's issue would have now (R48, R49). -/
def issueZones (s : State) (d : Delivery) : List ZoneEntry :=
  match s.directory[d.subscriber]? with
  | some r => zoneList s (planAt s d.subscriber) r (d.counted + 1)
  | none => []

/-- R48: the conditions of an issue of the delivery. -/
def canIssue (s : State) (d : Delivery) : Bool :=
  let n := (remoteSent s (issueZones s d)).length
  member s && decide (n ≤ outstandingFree s) && decide (n ≤ requestRoom s)

/-- The air request of a delivery's attempt (R50). -/
def airAsk (s : State) (k : Fin 256) (d : Delivery) (a : Nat) : AirAsk :=
  { tag := tagFor s k a, address := ((s.directory[d.subscriber]?).map (·.address)).getD 0, cls := d.cls,
    cells := d.cells, body := d.body }

/-- R50 effect 2: an AIR-REQUEST to a remote zone. -/
def requestZone (k : Fin 256) (ask : AirAsk) (s : State) (zone : Nat) : State :=
  claimEntry zone .airRequest (.zone k zone) (airRequestPayload ask) s

/-- R50 effect 3, R54: the own zone's request is handed to the Air Scheduler, which answers within the event. -/
def requestOwn (k : Fin 256) (ask : AirAsk) (zone : Nat) (s : State) : State :=
  setZone k zone (if admission ask s = .accepted then .accepted else .refused) (admitAsk ask s)

/-- R50: the issue of the delivery at the head of the issue queue. -/
def issueHead (k : Fin 256) (d : Delivery) (s : State) : State :=
  let a := d.counted + 1
  let zones := issueZones s d
  let ask := airAsk s k d a
  let opened := mapDelivery k (fun x => { x with
    issued := true, attempt := some { number := a, zones := zones, ackDue := none, outcome := none } })
    (s.mapStore fun p => { p with issue := p.issue.tail })
  if (List.any zones fun e => e.state == ZoneState.sent) = true then
    let pending := mapDelivery k (fun x => { x with state := .airPending }) opened
    let asked := (remoteSent s zones).foldl (requestZone k ask) pending
    let own := zones.filter fun e => e.state == ZoneState.sent && isOwn s e.zone
    afterResolved k (own.foldl (fun t e => requestOwn k ask e.zone t) asked)
  else enterRetry k opened

/-- R47, R48: the head of the issue queue, when the conditions of its issue hold. -/
def issuable (s : State) : Option (Fin 256 × Delivery) :=
  match s.store.issue with
  | [] => none
  | k :: _ =>
    match deliveryAt s k with
    | none => none
    | some d => if canIssue s d then some (k, d) else none

/-- ISSUE (R47 to R50): the head of the issue queue is issued when its conditions hold. -/
def execIssue (offpeak : Bool) (s : State) : Host.Outcome State Fault Refusal :=
  .next (
    match issuable s with
    | none => s
    | some (k, d) => issueHead k d (withOffpeak offpeak s))

/-- R48, R166: heads are issued one after another while one can be, at most as many as the fuel. -/
def issueHeads : Nat → State → State
  | 0, s => s
  | fuel + 1, s =>
    match issuable s with
    | none => s
    | some (k, d) => issueHeads fuel (issueHead k d s)

/-! ## Lifetime and ack wait -/

/-- R64: the effect of a lifetime expiry, by the delivery's state. -/
def expireLifetime (k : Fin 256) (d : Delivery) (s : State) : State :=
  match d.state with
  | .issuing | .retryWait => endDelivery k .expired s
  | .airPending | .awaitAck => closeAttempt k .missed (mapDelivery k (fun x => { x with expiry := true }) s)
  | .settling => mapDelivery k (fun x => { x with expiry := true }) s

/-- LIFETIME_EXPIRY (R46, R64): the tick counter has reached the delivery's lifetime expiry tick. -/
def execLifetimeExpiry (offpeak : Bool) (k : Fin 256) (s : State) : Host.Outcome State Fault Refusal :=
  .next (
    match deliveryAt s k with
    | none => s
    | some d => if reached s.tick d.lifetimeDue then expireLifetime k d (withOffpeak offpeak s) else s)

/-- ACK_WAIT_EXPIRY (R58): the ack-wait due tick is reached in AWAIT-ACK. -/
def execAckWaitExpiry (offpeak : Bool) (k : Fin 256) (s : State) : Host.Outcome State Fault Refusal :=
  .next (
    match deliveryAt s k with
    | none => s
    | some d =>
      if d.state = .awaitAck ∧ timerReached s.tick (d.attempt.bind (·.ackDue)) = true then
        closeAttempt k .missed (withOffpeak offpeak s)
      else s)

/-! ## Reply timers (R162) -/

/-- R162, R166: complete an entry as its timer's expiry does. -/
def completeEntry (e : Outstanding) (s : State) : State :=
  match e.key.kind with
  | .forward => forwardTimedOut e s
  | .cancel => mapIntakeCounts (countCancel none) (freeEntry e.key s)
  | .airRequest | .withdraw =>
    match e.owner with
    | .zone k z => loseZone k z (freeEntry e.key s)
    | .line _ => freeEntry e.key s

/-- R160: the entry's reply timer runs: phase QUEUED or SENT. -/
def timed (p : Phase) : Bool :=
  match p with
  | .queued | .sent => true
  | _ => false

/-- REPLY_TIMEOUT (R162): the due tick of an entry in QUEUED or SENT is reached. -/
def execReplyTimeout (offpeak : Bool) (key : EntryKey) (s : State) : Host.Outcome State Fault Refusal :=
  .next (
    match findEntry s key with
    | none => s
    | some e =>
      if timed e.phase = true ∧ timerReached s.tick e.due = true then
        completeEntry e (mapExchangeCounts (fun c => { c with replyTimeouts := raise c.replyTimeouts })
          (withOffpeak offpeak s))
      else s)

/-! ## Retry release (R108) -/

/-- R108: release a delivery: ISSUING with its issued mark still set, at the tail of the issue queue. -/
def releaseRetry (s : State) (k : Fin 256) : State :=
  (mapDelivery k (fun d => { d with due := none, state := .issuing }) s).mapStore fun p =>
    { p with retry := p.retry.filter (fun j => j != k), issue := p.issue ++ [k], released := raise p.released }

/-- R108: the deliveries at the head of the Retry Queue whose due tick is reached. -/
def dueRetries (s : State) : List (Fin 256) := s.store.retry.takeWhile fun k => reached s.tick (dueOf s k)

/-- RETRY_RELEASE (R108): the head and each following delivery that is due are released in queue order. -/
def execRetryRelease (s : State) : Host.Outcome State Fault Refusal :=
  .next (if member s then (dueRetries s).foldl releaseRetry s else s)

end Sys2Proof.Machine
end

