-- ==== Sys2Proof/Machine/Exchange.lean ====
section
/-! DEFINITION. The Exchange Unit: the presence table, the PRESENCE frames of this station, the fresh join of a peer,
and the timers of joining, leaving and presence (08_peer_exchange.md). -/

namespace Sys2Proof.Machine

/-! ## The presence table (R163, R164) -/

/-- R163: the due tick of an absence, set at each valid frame. -/
def absenceTick (s : State) : Tick := ticksAfter s.tick (seconds (cfg s).presenceTimeout)

/-- R163: the entry of a peer after a frame other than a PRESENCE. -/
def refreshed (s : State) (p : Presence) : Presence :=
  { present := true, lastHeard := s.tick, absenceDue := some (absenceTick s), airing := if p.present then p.airing else true,
    reported := if p.present then p.reported else .none }

/-- R163: the entry of a peer after a PRESENCE. -/
def refreshedBy (s : State) (b : PresenceBody) : Presence :=
  { present := true, lastHeard := s.tick, absenceDue := some (absenceTick s), airing := b.airing && !b.leavingState,
    reported := if b.leavingState then .leaving else .onBus }

/-- R164: an entry becomes ABSENT: its absence due tick is removed. -/
def absented (p : Presence) : Presence := { p with present := false, absenceDue := none }

/-- R164: the entry of a peer whose leaving PRESENCE is taken. -/
def departed (p : Presence) : Presence := { absented p with airing := false, reported := .none }

/-- R164: a stuck line makes every peer ABSENT. -/
def absentAll (s : State) : State := s.mapExchange fun x => { x with presence := x.presence.map absented }

/-! ## This station's PRESENCE (R165) -/

/-- The request frames, queued and waiting, but for one in transmission whose removal was called for (R152, R153). -/
def keptRequests (s : State) : List Frame :=
  (match s.bus.tx with
    | .request _ true => s.bus.requests.tail
    | _ => s.bus.requests) ++ s.bus.waiting

/-- The PRESENCE of this station that is waiting or queued. -/
def ownPresence (s : State) : Option Frame := (keptRequests s).find? fun f => f.kind == .presence

/-- Whether a PRESENCE frame carries the leaving flag. -/
def carriesLeaving (f : Frame) : Bool := ((readPresence f.payload).map (·.leaving)).getD false

/-- R165: make a PRESENCE. An ordinary one is not made while a like one, or a leaving one, waits or is queued; one
with another state or flag replaces the one waiting or queued. -/
def makePresence (b : PresenceBody) (s : State) : State :=
  let frame := frameFrom s .presence 0 0 (presencePayload b)
  match ownPresence s with
  | none => joinRequests frame s
  | some old =>
    if (b.leaving = false ∧ carriesLeaving old = true) ∨ old.payload = frame.payload then s
    else joinRequests frame (removeRequests (fun f => f.kind == .presence) s)

/-- R165: an ordinary PRESENCE with the station's state and airing flag. -/
def ordinaryPresence (s : State) : State :=
  makePresence { leavingState := s.life.state == .leaving, airing := (cfg s).airing, fresh := false, leaving := false } s

/-! ## Draining (R168) -/

/-- R168: the drain condition: no delivery, both air queues and the outstanding table empty. -/
def drained (s : State) : Bool :=
  s.store.slots.toList.all (fun x => x.held.isNone) && airEmpty s && s.exchange.table.isEmpty

/-- R168: the leaving PRESENCE. -/
def announceLeaving (s : State) : State :=
  makePresence { leavingState := true, airing := (cfg s).airing, fresh := false, leaving := true }
    (s.mapExchange fun x => { x with leaveMade := true })

/-! ## Fresh join (R166) -/

/-- R166 step 4: an entry still held is completed as though its due tick had been reached. -/
def completeKey (s : State) (key : EntryKey) : State :=
  match findEntry s key with
  | some e => completeEntry e s
  | none => s

/-- R166 step 4: the entries of the keys are completed in turn; the heads of the issue queue that this lets go are
issued within the event. (DESIGN CHOICE, notes/assumptions/12.md, for the order of the entries; notes/assumptions/25.md,
for the issues after the last completion and before step 5.) -/
def completeKeys (keys : List EntryKey) (s : State) : State :=
  let completed := keys.foldl completeKey s
  if keys.isEmpty then completed else issueHeads completed.store.issue.length completed

/-- R166: the effects of a fresh join of a station, in order, after its presence entry is refreshed. The report that R101
leaves at the head of the reverse FIFO is taken by the MATCHER_TAKE_HEAD that follows. (DESIGN CHOICE,
notes/assumptions/27.md, for its place after step 5.) -/
def freshJoin (station : Nat) (s : State) : State :=
  let purged := removeAnswers (fun f => f.kind == .heard && f.dest.toNat == station)
    (purgeReports station (purgeAir station s))
  let completed := completeKeys ((purged.exchange.table.filter fun e => e.key.peer == station).map (·.key)) purged
  if member s then ordinaryPresence completed else completed

/-! ## The commands -/

/-- PRESENCE_TIMEOUT (R164): a peer's absence due tick is reached. -/
def execPresenceTimeout (peer : Nat) (s : State) : Host.Outcome State Fault Refusal :=
  .next (
    if (presenceAt s peer).present = true ∧ timerReached s.tick (presenceAt s peer).absenceDue = true then
      mapExchangeCounts (fun c => { c with peersTimedOut := raise c.peersTimedOut })
        (setPresence peer (absented (presenceAt s peer)) s)
    else s)

/-- PRESENCE_INTERVAL (R165): the interval's due tick is reached: an ordinary PRESENCE, unless one is waiting or
queued; the interval is set again when a PRESENCE is sent whole. (DEDUCED, notes/assumptions/16.md.) -/
def execPresenceInterval (s : State) : Host.Outcome State Fault Refusal :=
  .next (
    if member s = true ∧ timerReached s.tick s.exchange.intervalDue = true then
      let stopped := s.mapExchange fun x => { x with intervalDue := none }
      if (ownPresence s).isSome then stopped else ordinaryPresence stopped
    else s)

/-- LISTEN_TIMER (R167): the listen ends with a fresh PRESENCE, state ON-BUS. -/
def execListenTimer (s : State) : Host.Outcome State Fault Refusal :=
  .next (
    if s.life.state = .joining ∧ timerReached s.tick s.exchange.listenDue = true then
      makePresence { leavingState := false, airing := (cfg s).airing, fresh := true, leaving := false }
        (s.mapExchange fun x => { x with listenDue := none })
    else s)

/-- DRAIN (R168): the first event in LEAVING at which the drain condition holds. -/
def execDrain (s : State) : Host.Outcome State Fault Refusal :=
  .next (if s.life.state = .leaving ∧ s.exchange.leaveMade = false ∧ drained s = true then announceLeaving s else s)

end Sys2Proof.Machine
end

