-- ==== Sys2Proof/Machine/Receiver.lean ====
section
/-! DEFINITION. The receiver of the Station Bus Controller: the frame under reception, its characters, length and CRC,
the causes of its discard, the dominant run in progress, and the condition of the line (07_station_bus.md R137, R139 to
R141, R148, R154). -/

namespace Sys2Proof.Machine

/-- Why a frame under reception is discarded (R141). -/
inductive DiscardCause where
  | framing | length | interrupted | crc
  deriving DecidableEq, Repr

/-- What a character brings about: frames discarded, each for its cause, or a frame complete, with its bytes. -/
inductive RxEvent where
  | discarded (causes : List DiscardCause)
  | complete (bytes : List Byte)
  deriving DecidableEq, Repr

/-- No frame is discarded or complete. -/
def RxEvent.silent : RxEvent := .discarded []

/-! ## One character -/

/-- R140: the address names every station or this one. -/
def forThis (s : State) (dest : Byte) : Bool := dest.toNat == 0 || isOwn s dest.toNat

/-- R138: the number of characters of a frame, from its fifth, the length. -/
def frameLength (bytes : List Byte) : Nat := 7 + (byteAt bytes 4).toNat

/-- R139: the last two characters are the CRC over those before them. -/
def crcAgrees (bytes : List Byte) : Bool :=
  let covered := bytes.take (bytes.length - 2)
  bytes == withCrc covered

/-- R140, R141: an address character ends a frame under reception, and opens a new one when it is for this station. -/
def openFrame (mine : Bool) (c : BusChar) (rx : Option (List Byte)) : Option (List Byte) × RxEvent :=
  let cut : List DiscardCause := if rx.isSome then [.interrupted] else []
  if mine = false then (none, .discarded cut)
  else if framingError c then (none, .discarded (cut ++ [.framing]))
  else (some [dataOf c], .discarded cut)

/-- R139 to R141: a further character joins the frame under reception, which it may discard or complete. A framing-error
mark on a character that has another fault too, a length above 96 or the last of a CRC that does not agree, is the one
cause counted. (DESIGN CHOICE, notes/assumptions/26.md.) -/
def joinFrame (c : BusChar) (bytes : List Byte) : Option (List Byte) × RxEvent :=
  let taken := bytes ++ [dataOf c]
  if framingError c then (none, .discarded [.framing])
  else if taken.length = 5 ∧ 96 < (dataOf c).toNat then (none, .discarded [.length])
  else if taken.length < 5 ∨ taken.length < frameLength taken then (some taken, .silent)
  else if crcAgrees taken then (none, .complete taken)
  else (none, .discarded [.crc])

/-- R137, R140: the receiver takes a character: noise is none, and an idle character is ignored. -/
def receiveChar (mine : Byte → Bool) (rx : Option (List Byte)) (c : BusChar) : Option (List Byte) × RxEvent :=
  if isNoise c then (rx, .silent)
  else if isAddress c then openFrame (mine (dataOf c)) c rx
  else
    match rx with
    | none => (none, .silent)
    | some bytes => joinFrame c bytes

/-- The receiver takes characters: the controller acts and the stopped condition is over (R136, R150). -/
def receives (s : State) : Bool := running s && !s.bus.stopped

/-- The state after a character on the line, and what it brings about. -/
def hearChar (c : BusChar) (s : State) : State × RxEvent :=
  if receives s then
    let r := receiveChar (forThis s) s.bus.rx c
    (s.mapBus fun b => { b with rx := r.1, run := 0 }, r.2)
  else (s, .silent)

/-! ## The characters that a command brings -/

/-- The state after the characters heard, and what the last of them brings about. None when an earlier one brings
something about: that is an event of its own, with a command of its own. (DESIGN CHOICE, notes/assumptions/5.md.) -/
def listen : List BusChar → State → Option (State × RxEvent)
  | [], s => some (s, .silent)
  | c :: rest, s =>
    if rest = [] then some (hearChar c s)
    else if (hearChar c s).2 = .silent then listen rest (hearChar c s).1
    else none

/-- The state after characters that bring nothing about; characters that do are left to their own command. -/
def listenOn (heard : List BusChar) (s : State) : State :=
  match listen heard s with
  | some (t, .discarded []) => t
  | _ => s

/-! ## Discards and dominant runs -/

/-- R141: the count of a discarded frame. -/
def countDiscard (n : BusCounts) (c : DiscardCause) : BusCounts :=
  match c with
  | .framing => { n with framingErrors := raise n.framingErrors }
  | .length => { n with lengthErrors := raise n.lengthErrors }
  | .interrupted => { n with interrupted := raise n.interrupted }
  | .crc => { n with crcErrors := raise n.crcErrors }

/-- R141: one count is raised for each discarded frame. -/
def countDiscards (causes : List DiscardCause) (s : State) : State := mapBusCounts (fun n => causes.foldl countDiscard n) s

/-- R141, R148: a run longer than a character time discards a frame still under reception, as a framing error. -/
def cutFrame (s : State) : State :=
  if s.bus.rx.isSome then countDiscards [.framing] (s.mapBus fun b => { b with rx := none }) else s

/-- R147: the bit times for which a break is driven. -/
def breakBits : Nat := 33

/-- R137, R147, R148: the run in progress is measured; this station's break releases BUS_TX after its 33 bit times. -/
def measureRun (bits : Nat) (s : State) : State :=
  if running s then
    s.mapBus fun b => { b with
      run := bits, tx := if b.tx = .breaking ∧ breakBits ≤ bits then .idle else b.tx }
  else s

/-- R154: the condition of the line: STOPPED 3, TRANSMITTING 4, DOMINANT-RUN 2, RECEIVING 1, else QUIET 0.
(DEDUCED, notes/assumptions/24.md.) -/
def lineCondition (s : State) : Nat :=
  if s.bus.stopped then 3
  else if s.bus.tx ≠ .idle then 4
  else if 11 < s.bus.run then 2
  else if s.bus.rx.isSome then 1
  else 0

end Sys2Proof.Machine
end

