-- ==== Sys2Proof/Machine/Frames.lean ====
section
/-! DEFINITION. The frames taken from the bus: the judging of the source, the checks of the Exchange Unit, and the
command of each frame kind (07_station_bus.md R140 to R142, 08_peer_exchange.md R156, R157, R161). -/

namespace Sys2Proof.Machine

/-! ## Taking a frame -/

/-- R140: the bytes are those of the frame that this station is transmitting and has not lost in arbitration. -/
def transmits (bytes : List Byte) (s : State) : Bool :=
  match s.bus.tx with
  | .answer chars _ | .request chars _ => chars.map dataOf == bytes
  | .idle | .breaking => false

/-- R140: the judging of a complete frame's source. -/
inductive SourceJudgement where
  | valid | own | duplicate | bad
  deriving DecidableEq, Repr

/-- R140: judge the source of a complete frame whose CRC passes. -/
def judgeSource (bytes : List Byte) (s : State) : SourceJudgement :=
  let src := (byteAt bytes 1).toNat
  if src = 0 ∨ 24 < src then .bad
  else if isOwn s src then if transmits bytes s then .own else .duplicate
  else .valid

/-- R140: the count of a frame dropped for its source; the station's own frame is not counted. -/
def dropFrame (j : SourceJudgement) (s : State) : State :=
  match j with
  | .bad => mapBusCounts (fun c => { c with badSource := raise c.badSource }) s
  | .duplicate => mapBusCounts (fun c => { c with duplicateSource := raise c.duplicateSource }) s
  | .own | .valid => s

/-- R142: a valid frame is handed on and counted. -/
def countTaken (s : State) : State := mapBusCounts (fun c => { c with framesTaken := raise c.framesTaken }) s

/-- R163: the source's presence entry is refreshed by a frame that is not a good PRESENCE. -/
def refreshPeer (src : Nat) (s : State) : State := setPresence src (refreshed s (presenceAt s src)) s

/-- The kind character is that of a kind. -/
def ofKind (k : FrameKind) (code : Byte) : Bool := kindOf code == some k

/-- R140, R142, R163: the characters heard complete a frame of the kinds asked for from another station: it is handed
on and its source refreshed; then `act` is done with it. -/
def takeFrame (kind : Byte → Bool) (heard : List BusChar) (act : Received → State → State) (s : State) : State :=
  match listen heard s with
  | some (t, .complete bytes) =>
    let f := readFrame bytes
    if kind f.kind = true ∧ judgeSource bytes t = .valid then act f (refreshPeer f.src.toNat (countTaken t)) else s
  | _ => s

/-- R156 check 2: a broadcast of a kind other than PRESENCE. -/
def countMisaddressed (s : State) : State :=
  mapExchangeCounts (fun c => { c with misaddressed := raise c.misaddressed }) s

/-- R156 check 3, R189. -/
def countBadPayload (s : State) : State := mapExchangeCounts (fun c => { c with badPayload := raise c.badPayload }) s

/-- R157: discarded in CONFIGURED or JOINING. -/
def countNotMember (s : State) : State := mapExchangeCounts (fun c => { c with notMember := raise c.notMember }) s

/-- R161: a reply that matches no entry in SENT. -/
def countLate (s : State) : State := mapExchangeCounts (fun c => { c with late := raise c.late }) s

/-- R156 checks 2 and 3 for a kind other than PRESENCE: then `act` on the content. -/
def checked {α : Type} (f : Received) (content : Option α) (act : α → State → State) (s : State) : State :=
  if f.dest.toNat = 0 then countMisaddressed s
  else
    match content with
    | some x => act x s
    | none => countBadPayload s

/-- R157: a request or report is acted on by a member of the office. -/
def membersOnly (act : State → State) (s : State) : State := if member s then act s else countNotMember s

/-- R161: a reply is handed to the owner of the SENT entry it answers, or is LATE. -/
def matched (f : Received) (kind : EntryKind) (act : Outstanding → State → State) (s : State) : State :=
  match findEntry s { peer := f.src.toNat, seq := f.seq, kind := kind } with
  | some e => if e.phase = .sent then act e s else countLate s
  | none => countLate s

/-! ## Requests and reports -/

/-- R10, R157: a FORWARD is decided with its source and sequence as origin, and answered with a TAKEN. -/
def takeForward (f : Received) (ask : ForwardAsk) (s : State) : State :=
  let origin : Option Origin := some { station := f.src.toNat, seq := f.seq }
  answerTo .taken f.src.toNat f.seq [decisionCode (decision ask.number ask.cls origin s)]
    (decideEntry ask.number ask.cls ask.body origin s)

/-- FORWARD (R157). -/
def execForward (offpeak : Bool) (heard : List BusChar) (s : State) : Host.Outcome State Fault Refusal :=
  .next (takeFrame (ofKind .forward) heard (fun f =>
    checked f (readForward f.payload) fun ask => membersOnly (takeForward f ask))
    (withOffpeak offpeak s))

/-- R65: the delivery in a slot has this origin. -/
def hasOrigin (s : State) (o : Origin) (k : Fin 256) : Bool :=
  match deliveryAt s k with
  | some d => d.origin == some o
  | none => false

/-- R65: a delivery that a CANCEL may end: in ISSUING with its issued mark clear, the one nearest the tail. -/
def cancellable (s : State) (o : Origin) : Option (Fin 256) :=
  s.store.issue.reverse.find? fun k =>
    hasOrigin s o k && (match deliveryAt s k with | some d => d.state == .issuing && !d.issued | none => false)

/-- R65: the answer to a CANCEL of an origin. -/
def cancelAnswer (s : State) (o : Origin) : CancelCode :=
  if (cancellable s o).isSome then .cancelled
  else if (List.any (List.finRange 256) (hasOrigin s o)) = true then .tooLate
  else .unknown

/-- R65: the effect of a CANCEL of an origin. -/
def cancelOrigin (o : Origin) (s : State) : State :=
  match cancellable s o with
  | some k => endDelivery k .cancelled s
  | none => s

/-- R65, R157: a CANCEL is acted on and answered. -/
def takeCancel (f : Received) (seq : Byte) (s : State) : State :=
  let o : Origin := { station := f.src.toNat, seq := seq }
  answerTo .cancelAnswer f.src.toNat f.seq [cancelCode (cancelAnswer s o)] (cancelOrigin o s)

/-- CANCEL (R65). -/
def execCancel (offpeak : Bool) (heard : List BusChar) (s : State) : Host.Outcome State Fault Refusal :=
  .next (takeFrame (ofKind .cancel) heard (fun f =>
    checked f (readByte f.payload) fun seq => membersOnly (takeCancel f seq)) (withOffpeak offpeak s))

/-- R69, R71: an AIR-REQUEST is admitted, merged or refused, and answered. -/
def takeAirRequest (f : Received) (ask : AirAsk) (s : State) : State :=
  answerTo .airAnswer f.src.toNat f.seq [airCode (admission ask s)] (admitAsk ask s)

/-- AIR_REQUEST (R69). -/
def execAirRequest (heard : List BusChar) (s : State) : Host.Outcome State Fault Refusal :=
  .next (takeFrame (ofKind .airRequest) heard (fun f =>
    checked f (readAirRequest f.payload) fun ask => membersOnly (takeAirRequest f ask)) s)

/-- R81: a WITHDRAW is answered at once, or its answer is owed at cycle end. -/
def takeWithdraw (f : Received) (t : Tag) (s : State) : State :=
  let acted := withdrawAir t { station := f.src.toNat, seq := f.seq } s
  match withdrawal t s with
  | .withdrawn => answerTo .withdrawn f.src.toNat f.seq [0] acted
  | .deferred => acted
  | .unknown => answerTo .withdrawn f.src.toNat f.seq [1] acted

/-- WITHDRAW (R81). -/
def execWithdraw (heard : List BusChar) (s : State) : Host.Outcome State Fault Refusal :=
  .next (takeFrame (ofKind .withdraw) heard (fun f =>
    checked f (readTag f.payload) fun t => membersOnly (takeWithdraw f t)) s)

/-- AIRED (R53): each tag is taken in order, as a report from the zone of the source. -/
def execAired (offpeak : Bool) (heard : List BusChar) (s : State) : Host.Outcome State Fault Refusal :=
  .next (takeFrame (ofKind .aired) heard (fun f => checked f (readAired f.payload) fun tags =>
    membersOnly fun x => tags.foldl (takeAired f.src.toNat) x) (withOffpeak offpeak s))

/-- HEARD (R97). -/
def execHeard (offpeak : Bool) (heard : List BusChar) (s : State) : Host.Outcome State Fault Refusal :=
  .next (takeFrame (ofKind .heard) heard (fun f =>
    checked f (readHeard f.payload) fun r => membersOnly (takeHeard r)) (withOffpeak offpeak s))

/-! ## Replies -/

/-- R34: the verdict of a TAKEN code; an unlisted one gives UNREACHABLE. -/
def takenVerdict (code : Byte) : Verdict := ((decisionOf code).map verdictOf).getD .unreachable

/-- R34: an unlisted code raises the line's BAD-TAKEN count. -/
def countBadTaken (code : Byte) (l : Line) : Line :=
  if decisionOf code = none then { l with counts := { l.counts with badTaken := raise l.counts.badTaken } } else l

/-- R34: a TAKEN frees its entry and gives the owning line its verdict. -/
def takeTaken (code : Byte) (e : Outstanding) (s : State) : State :=
  let freed := freeEntry e.key s
  match e.owner with
  | .line k =>
    if (lineAt s k).state = .lookup ∧ (lineAt s k).lookup = some e.key then
      leaveLookup k (takenVerdict code) (mapLine k (countBadTaken code) freed)
    else freed
  | .zone _ _ => freed

/-- TAKEN (R34). -/
def execTaken (heard : List BusChar) (s : State) : Host.Outcome State Fault Refusal :=
  .next (takeFrame (ofKind .taken) heard (fun f =>
    checked f (readByte f.payload) fun code => matched f .forward (takeTaken code)) s)

/-- R37: the listed codes of a CANCEL-ANSWER. -/
def cancelCodeOf (b : Byte) : Option CancelCode :=
  [CancelCode.cancelled, .tooLate, .unknown].find? fun c => cancelCode c = b

/-- CANCEL_ANSWER (R37): the entry is freed and a cancel count raised. -/
def execCancelAnswer (heard : List BusChar) (s : State) : Host.Outcome State Fault Refusal :=
  .next (takeFrame (ofKind .cancelAnswer) heard (fun f =>
    checked f (readByte f.payload) fun code => matched f .cancel fun e x =>
    mapIntakeCounts (countCancel (cancelCodeOf code)) (freeEntry e.key x)) s)

/-- R52: an AIR-ANSWER for a zone in SENT: REFUSED frees its entry; ACCEPTED holds it while the attempt is open, and
leads to a withdraw once it has closed. -/
def takeAirAnswer (code : AirCode) (e : Outstanding) (s : State) : State :=
  match e.owner with
  | .line _ => s
  | .zone k z =>
    match attemptAt s k with
    | none => s
    | some a =>
      if zoneStateOf a z ≠ some .sent then s
      else if code ≠ .accepted then resolveZone k z .refused (freeEntry e.key s)
      else if a.outcome = none then
        mapEntry e.key (fun x => { x with phase := .held, due := none }) (setZone k z .accepted s)
      else convertEntry e.key .withdraw (tagBytes (tagFor s k a.number)) (setZone k z .withdrawing s)

/-- AIR_ANSWER (R52). -/
def execAirAnswer (offpeak : Bool) (heard : List BusChar) (s : State) : Host.Outcome State Fault Refusal :=
  .next (takeFrame (ofKind .airAnswer) heard (fun f =>
    checked f (readAirAnswer f.payload) fun code => matched f .airRequest (takeAirAnswer code))
    (withOffpeak offpeak s))

/-- R52: WITHDRAWN, or UNKNOWN to a WITHDRAW: the zone entry becomes WITHDRAWN and its entry is freed. -/
def takeWithdrawn (e : Outstanding) (s : State) : State :=
  match e.owner with
  | .line _ => s
  | .zone k z =>
    if ((attemptAt s k).bind fun a => zoneStateOf a z) = some .withdrawing then
      resolveZone k z .withdrawn (freeEntry e.key s)
    else s

/-- WITHDRAWN (R52). -/
def execWithdrawn (offpeak : Bool) (heard : List BusChar) (s : State) : Host.Outcome State Fault Refusal :=
  .next (takeFrame (ofKind .withdrawn) heard (fun f =>
    checked f (readWithdrawn f.payload) fun _ => matched f .withdraw takeWithdrawn)
    (withOffpeak offpeak s))

/-! ## PRESENCE and frames that are not taken -/

/-- R163, R164, R166: a good PRESENCE: the entry is set from its payload; then a leave or a fresh join. -/
def takePresence (src : Nat) (b : PresenceBody) (s : State) : State :=
  let noted := setPresence src (refreshedBy s b) s
  if b.leaving then
    mapExchangeCounts (fun c => { c with leavesHeard := raise c.leavesHeard })
      (setPresence src (departed (presenceAt noted src)) noted)
  else if b.fresh then
    freshJoin src (mapExchangeCounts (fun c => { c with freshJoinsHeard := raise c.freshJoinsHeard }) noted)
  else noted

/-- PRESENCE (R163): taken when broadcast or addressed to this station, in every state.
(DEDUCED, notes/assumptions/11.md, for a bad payload.) -/
def execPresence (offpeak : Bool) (heard : List BusChar) (s : State) : Host.Outcome State Fault Refusal :=
  .next (takeFrame (ofKind .presence) heard (fun f x =>
    match readPresence f.payload with
    | some b => takePresence f.src.toNat b x
    | none => countBadPayload x) (withOffpeak offpeak s))

/-- BAD_KIND_FRAME (R156 check 1): a kind that is none of the eleven. -/
def execBadKindFrame (kind : Byte) (heard : List BusChar) (s : State) : Host.Outcome State Fault Refusal :=
  .next (takeFrame (fun code => (kindOf code).isNone && code == kind) heard
    (fun _ => mapExchangeCounts fun c => { c with badKind := raise c.badKind }) s)

/-- FRAME_DROPPED_BY_SOURCE (R140): the characters heard complete a frame from that source, which is no other station. -/
def execFrameDroppedBySource (src : Byte) (heard : List BusChar) (s : State) : Host.Outcome State Fault Refusal :=
  .next (
    match listen heard s with
    | some (t, .complete bytes) =>
      if byteAt bytes 1 = src ∧ judgeSource bytes t ≠ .valid then dropFrame (judgeSource bytes t) t else s
    | _ => s)

/-- FRAME_DISCARD (R141): the characters heard end in one that discards a frame under reception. -/
def execFrameDiscard (heard : List BusChar) (s : State) : Host.Outcome State Fault Refusal :=
  .next (
    match listen heard s with
    | some (t, .discarded causes) => if causes = [] then s else countDiscards causes t
    | _ => s)

end Sys2Proof.Machine
end

