-- ==== Sys2Proof/Machine/BusLine.lean ====
section
/-! DEFINITION. The bus line as the transmitter meets it: breaks and marks, the stuck line, the start, the end and the
loss of a transmission, and the two station transitions that a PRESENCE sent whole makes (R143 to R150, R160, R165,
R167, R168). Durations are in bit times; a character time is 11 of them. -/

namespace Sys2Proof.Machine

/-- R148: 2 to 4 character times. -/
def isBreak (bits : Nat) : Bool := 22 ≤ bits && bits ≤ 44

/-- R148: over 1 and under 2 character times. -/
def isShortBreak (bits : Nat) : Bool := decide (11 < bits) && decide (bits < 22)

/-- Set what BUS_TX is doing. -/
def setTx (t : Transmission) (s : State) : State := s.mapBus fun b => { b with tx := t }

/-- The bus controller acts and may begin a transmission: nothing in transmission, no stopped condition (R144). -/
def mayTransmit (s : State) : Bool := running s && s.bus.tx == .idle && !s.bus.stopped

/-! ## Breaks and marks -/

/-- R141, R148: a run of more than a character time has ended: a frame still under reception is discarded. -/
def endRun (s : State) : State := (cutFrame s).mapBus fun b => { b with run := 0 }

/-- R147, R148: the run of this station's own break has ended: BUS_TX is released if it was not yet. -/
def endOwnRun (s : State) : State :=
  s.mapBus fun b => { b with drove := false, tx := if b.tx = .breaking then .idle else b.tx }

/-- BREAK_HEARD (R148, R75): a run of 2 to 4 character times ends; a run this station drove passes no mark. -/
def execBreakHeard (bits : Nat) (s : State) : Host.Outcome State Fault Refusal :=
  .next (
    if running s = true ∧ isBreak bits = true then
      if s.bus.drove then endOwnRun (endRun s)
      else takeMark (mapBusCounts (fun c => { c with marksHeard := raise c.marksHeard }) (endRun s))
    else s)

/-- SHORT_BREAK (R148): a run of over 1 and under 2 character times; a run this station drove lasts longer.
(DEDUCED, notes/assumptions/19.md.) -/
def execShortBreak (bits : Nat) (s : State) : Host.Outcome State Fault Refusal :=
  .next (
    if running s = true ∧ isShortBreak bits = true ∧ s.bus.drove = false then
      mapBusCounts (fun c => { c with shortBreaks := raise c.shortBreaks }) (endRun s)
    else s)

/-- R147: BUS_TX is driven low for a break. -/
def driveBreak (s : State) : State := s.mapBus fun b => { b with tx := .breaking, drove := true }

/-- BREAK_START (R144, R147, R75): the pending mark is set and the gap is at least 2 character times. -/
def execBreakStart (gap : Nat) (s : State) : Host.Outcome State Fault Refusal :=
  .next (
    if mayTransmit s = true ∧ s.bus.pendingMark = true ∧ 22 ≤ gap then
      mapAirCounts (fun c => { c with marksSent := raise c.marksSent }) (takeMark (clearMark (driveBreak s)))
    else s)

/-! ## Giving up a transmission (R146, R149, R153) -/

/-- A frame is in transmission. -/
def sendingFrame (s : State) : Bool :=
  match s.bus.tx with
  | .answer _ _ | .request _ _ => true
  | .idle | .breaking => false

/-- The transmission ends without its frame sent whole: the frame stays at the head of its queue, or, when its removal
was called for meanwhile, is removed. -/
def giveUp (s : State) : State :=
  match s.bus.tx with
  | .answer _ true => s.mapBus fun b => { b with tx := .idle, answers := b.answers.tail }
  | .request _ true => refill (s.mapBus fun b => { b with tx := .idle, requests := b.requests.tail })
  | _ => setTx .idle s

/-- LOST_ARBITRATION (R146; R145 for a recessive bit read at a dominant one). -/
def execLostArbitration (txFault : Bool) (s : State) : Host.Outcome State Fault Refusal :=
  .next (
    if running s = true ∧ sendingFrame s = true then
      mapBusCounts (fun c => { c with
        lostArbitration := raise c.lostArbitration, txFaults := if txFault then raise c.txFaults else c.txFaults })
        (giveUp s)
    else s)

/-- R149: the stopped condition begins: the frame under reception is discarded, the transmission is abandoned, and the
run, past 44 bit times, is no break. -/
def stopBus (s : State) : State :=
  (giveUp (cutFrame s)).mapBus fun b => { b with stopped := true, run := 45, drove := false }

/-- STUCK_LINE (R149): BUS-STUCK is latched, the stopped condition begins and every peer becomes ABSENT. -/
def execStuckLine (s : State) : Host.Outcome State Fault Refusal :=
  .next (
    if running s then
      absentAll ((mapBusCounts (fun c => { c with stuckEvents := raise c.stuckEvents }) (stopBus s)).mapPort fun p =>
        { p with busStuck := true })
    else s)

/-- STOPPED_CONDITION_END (R150): the line has been quiet for a character time. -/
def execStoppedConditionEnd (quiet : Nat) (s : State) : Host.Outcome State Fault Refusal :=
  .next (if running s = true ∧ s.bus.stopped = true ∧ 11 ≤ quiet then
      s.mapBus fun b => { b with stopped := false, run := 0 }
    else s)

/-! ## Starting and finishing a frame -/

/-- TRANSMISSION_START (R143, R144): a pending mark goes first; then the head of the answer queue at a gap of 3
character times, then the head of the request queue at 5. -/
def execTransmissionStart (gap : Nat) (s : State) : Host.Outcome State Fault Refusal :=
  .next (
    if mayTransmit s = true ∧ s.bus.pendingMark = false then
      match s.bus.answers, s.bus.requests with
      | f :: _, _ => if 33 ≤ gap then setTx (.answer (frameChars f) false) s else s
      | [], f :: _ => if 55 ≤ gap then setTx (.request (frameChars f) false) s else s
      | [], [] => s
    else s)

/-- R160: the due tick that an entry has from the event at which its frame is sent whole: a CANCEL and a WITHDRAW start
their timers here, the others keep theirs. -/
def sentDue (s : State) (e : Outstanding) : Option Tick :=
  match e.key.kind with
  | .cancel => some (ticksAfter s.tick (cfg s).replyTimeout)
  | .withdraw => some (ticksAfter s.tick ((cfg s).replyTimeout + 17 * (cfg s).slotTime))
  | .forward | .airRequest => e.due

/-- R160: the entry of a frame sent whole becomes SENT. -/
def markSent (f : Frame) (s : State) : State :=
  s.mapExchange fun x => { x with
    table := x.table.map fun e => if frameOf e.key f = true then { e with phase := .sent, due := sentDue s e } else e }

/-- R167: the station enters ON-BUS: the Air Scheduler becomes active, in ALIGNED mode with its cycle timer started
(R68, R74). -/
def enterOnBus (s : State) : State :=
  (s.mapLife fun l => { l with state := .onBus }).mapAir fun a => { a with
    timer := if (cfg s).mode = .aligned then some (ticksAfter s.tick (timerPeriod s)) else none }

/-- R93: the reverse FIFO is emptied, each report raising IGNORED. -/
def ignoreReports (s : State) : State :=
  s.mapMatcher fun m => { m with
    fifo := [], counts := { m.counts with ignored := raiseTo 65535 m.counts.ignored m.fifo.length } }

/-- R89: a cycle in progress ends at this event. -/
def endAnyCycle (s : State) : State :=
  match s.air.cycle with
  | some y => endCycle y s
  | none => s

/-- R168, R89, R93, R147: the station enters CONFIGURED from LEAVING. -/
def enterConfigured (s : State) : State :=
  let quiet := ignoreReports (clearMark ((endAnyCycle s).mapAir fun a => { a with timer := none }))
  (quiet.mapExchange fun x => { x with intervalDue := none, leaveMade := false }).mapLife fun l =>
    { l with state := .configured }

/-- R165, R167, R168: a PRESENCE of this station is sent whole: it is counted, the interval is set, and a fresh or a
leaving one whose removal was not called for makes its transition. (DEDUCED, notes/assumptions/15.md.) -/
def presenceWhole (f : Frame) (removed : Bool) (s : State) : State :=
  let due := ticksAfter s.tick (seconds (cfg s).presenceTimeout / 3)
  let sent := s.mapExchange fun x => { x with
    intervalDue := some due, counts := { x.counts with presenceSent := raise x.counts.presenceSent } }
  match readPresence f.payload with
  | some b =>
    if removed then sent
    else if b.fresh = true ∧ s.life.state = .joining then enterOnBus sent
    else if b.leaving = true ∧ s.life.state = .leaving then enterConfigured sent
    else sent
  | none => sent

/-- R145: the counting of a frame sent whole. -/
def countSent (s : State) : State := mapBusCounts (fun c => { c with framesSent := raise c.framesSent }) s

/-- R145, R160: a request sent whole leaves its queue; its entry becomes SENT unless its removal was called for, and
its place lets a waiting frame join. -/
def requestSent (f : Frame) (removed : Bool) (s : State) : State :=
  let left := countSent (s.mapBus fun b => { b with tx := .idle, requests := b.requests.tail })
  refill (
    if f.kind = .presence then presenceWhole f removed left
    else if removed then left
    else markSent f left)

/-- FRAME_SENT (R145): the stop bit of the last character of the frame in transmission ends. -/
def execFrameSent (s : State) : Host.Outcome State Fault Refusal :=
  .next (
    if running s = false then s
    else
      match s.bus.tx, s.bus.answers, s.bus.requests with
      | .answer _ _, _ :: rest, _ => countSent (s.mapBus fun b => { b with tx := .idle, answers := rest })
      | .request _ removed, _, f :: _ => requestSent f removed s
      | _, _, _ => s)

end Sys2Proof.Machine
end

