-- ==== Sys2Proof/Machine/Port.lean ====
section
/-! DEFINITION. The Supervisory Port: the response and its transfer faults, the checks of a command, and the commands
that the host sends, but for RESTART (09_supervisory_port_and_station_life.md). -/

namespace Sys2Proof.Machine

/-! ## Frames and responses (R171 to R175) -/

/-- Select rises: the frame on the port ends. -/
def endFrame (s : State) : State := s.mapPort fun p => { p with frame := .closed }

/-- R172, R186: select rises on a frame: one that a hold of RESET_N met is abandoned, another is acted on unless the
station is held. -/
def frameEnds (act : State → State) (s : State) : State :=
  if s.port.frame = .ignored then endFrame s else if s.life.held then s else act s

/-- R174: the response of an executed frame becomes the pending response, both transfer-fault flags clear. -/
def respond (previous : Previous) (result : Result) (data : List Byte) (s : State) : State :=
  s.mapPort fun p => { p with
    response := { previous := previous, result := result, crcFault := false, lengthFault := false, data := data },
    frame := .closed }

/-- R174: the bytes of a response as the station shifts them out: status word, length, data, CRC. -/
def responseBytes (s : State) : List Byte :=
  withCrc (statusWord s ++ BitVec.ofNat 8 s.port.response.data.length :: s.port.response.data)

/-- R171: the bits of bytes on the port, each byte with its most significant bit first. -/
def portBits (bytes : List Byte) : List Bool := bytes.flatMap fun b => (List.range 8).map b.getMsbD

/-- R171: the whole bytes of the bits received; the bits of a partial byte at the end complete none. -/
def wholeBytes : List Bool → List Byte
  | b7 :: b6 :: b5 :: b4 :: b3 :: b2 :: b1 :: b0 :: rest =>
    BitVec.ofBoolListBE [b7, b6, b5, b4, b3, b2, b1, b0] :: wholeBytes rest
  | _ => []

/-- The transfer faults of R172. -/
inductive TransferFault where
  | length | crc
  deriving DecidableEq, Repr

/-- R172: the transfer fault of the whole bytes of a frame; LENGTH is judged first. -/
def transferFault (bytes : List Byte) : Option TransferFault :=
  let n := (byteAt bytes 1).toNat
  if bytes.length < 4 ∨ 32 < n ∨ bytes.length < 4 + n then some .length
  else if (bytes.drop (2 + n)).take 2 = be2 (crc (bytes.take (2 + n))).toNat then none
  else some .crc

/-- R175: the pending response keeps its command, result and data; its flags show the faults of the frame. -/
def noteFault (f : TransferFault) (s : State) : State :=
  s.mapPort fun p => { p with
    response := { p.response with crcFault := f == .crc, lengthFault := f == .length }, frame := .closed }

/-! ## The checks of a command (R173, R178) -/

/-- What the checks 3 to 5 of R173 answer: a refusal, which changes nothing, or the effect and the response data. -/
inductive Ruling where
  | badParam
  | notNow
  | done (data : List Byte) (after : State)

/-- R173, R178: execute a command of a code: the state check, the parameter count, then the command's own ruling. -/
def execute (code : Byte) (accepted : Bool) (count : Nat) (params : List Byte) (rule : State → Ruling) (s : State) :
    State :=
  if accepted = false then respond (.code code) .refusedState [] s
  else if params.length ≠ count then respond (.code code) .badParam [] s
  else
    match rule s with
    | .badParam => respond (.code code) .badParam [] s
    | .notNow => respond (.code code) .notNow [] s
    | .done data after => respond (.code code) .done data after

/-- R172, R173, R186: a frame without a transfer fault that carries a command of a code ends. -/
def supervise (code : Byte) (accepted : Bool) (count : Nat) (params : List Byte) (rule : State → Ruling) : State → State :=
  frameEnds (execute code accepted count params rule)

/-- R178: the states in which the LOAD commands are accepted. -/
def loadable (s : State) : Bool := s.life.state == .unconfigured || s.life.state == .configured

/-- R178: every state but UNCONFIGURED. -/
def configured (s : State) : Bool := s.life.state != .unconfigured

/-! ## Loading the configuration (R20, R103, R136, R170, R181) -/

/-- R20: a line restarts, apart from its transmitter; its counters are cleared only at a reset (R39). -/
def restartLine (l : Line) : Line :=
  { Line.fresh with txBuffer := l.txBuffer, txShift := l.txShift, counts := l.counts }

/-- R136: the bus controller starts afresh; its counters are cleared only at a reset (R155). -/
def restartBus (b : Bus) : Bus := { Bus.fresh with counts := b.counts }

/-- R180, R181: the configuration is held and the blocks that read it restart; the reverse port samples from this event,
with no report under assembly. (DEDUCED, notes/assumptions/13.md.) -/
def loadConfig (c : StationConfig) (s : State) : State :=
  let held := s.mapLife fun l => { l with config := some c, state := .configured }
  let lines := held.mapIntake fun i => { i with lines := i.lines.map restartLine }
  let bus := (lines.mapBus restartBus).mapExchange fun x => { x with presence := Vector.replicate 24 Presence.fresh }
  bus.mapMatcher fun m => { m with run := .idle }

/-! ## The home map and the directory at load (R182, R183) -/

/-- R5: a range inserted in ascending order of first number. -/
def insertRange (r : Range) : List Range → List Range
  | [] => [r]
  | x :: rest => if r.first < x.first then r :: x :: rest else x :: insertRange r rest

/-- The ranges share a number. -/
def overlaps (a b : Range) : Bool := decide (a.first ≤ b.last) && decide (b.first ≤ a.last)

/-- A held range has these bounds. -/
def sameBounds (a b : Range) : Bool := a.first == b.first && a.last == b.last

/-- R182: the change check: no record that is not displaced now would lie outside every own range of the new map. -/
def changeAllowed (s : State) (after : List Range) : Bool :=
  s.directory.all fun r => displaced s r.number || inOwnRange (s.mapRanges fun _ => after) r.number

/-- R182: the map a LOAD-RANGE leaves, by the first case that applies; none for BAD-PARAM. -/
def newRanges (r : Range) (s : State) : Option (List Range) :=
  if r.last < r.first ∨ 9999999 < r.last ∨ 24 < r.station then none
  else if (List.any s.ranges (sameBounds r)) = true then
    let after :=
      if r.station = 0 then s.ranges.filter fun x => !sameBounds r x
      else s.ranges.map fun x => if sameBounds r x = true then { x with station := r.station } else x
    if changeAllowed s after then some after else none
  else if r.station = 0 then none
  else if (List.any s.ranges (overlaps r)) = true then none
  else if Config.homeMapSize ≤ s.ranges.length then none
  else some (insertRange r s.ranges)

/-- R182: the ruling of LOAD-RANGE. -/
def ruleRange (params : List Byte) (s : State) : Ruling :=
  match newRanges { first := field params 0 3, last := field params 3 3, station := field params 6 1 } s with
  | some after => .done [] (s.mapRanges fun _ => after)
  | none => .badParam

/-- R4: a record loaded for a new number: every accumulator at its power-on value. -/
def newSubscriber (l : SubscriberLoad) : Subscriber :=
  { number := l.number, address := l.address, plan := l.plan, state := l.state, homeZones := l.homeZones,
    wideZones := l.wideZones, periodTotal := 0, saturated := false, usage := 0, accepted := 0, missed := 0,
    warnLow := false, warnHigh := false, live := 0 }

/-- R3: the static fields are replaced and the accumulators kept. -/
def reloadSubscriber (l : SubscriberLoad) (r : Subscriber) : Subscriber :=
  { r with address := l.address, plan := l.plan, state := l.state, homeZones := l.homeZones, wideZones := l.wideZones }

/-- R2: a record inserted in ascending order of number. -/
def insertRecord (r : Subscriber) : List Subscriber → List Subscriber
  | [] => [r]
  | x :: rest => if r.number < x.number then r :: x :: rest else x :: insertRecord r rest

/-- R183: the ruling of LOAD-SUBSCRIBER. -/
def ruleSubscriber (params : List Byte) (s : State) : Ruling :=
  match readSubscriberLoad params with
  | none => .badParam
  | some l =>
    match findRecord s l.number with
    | some i => .done [] (modifyRecord i (reloadSubscriber l) s)
    | none =>
      if inOwnRange s l.number = false then .badParam
      else if Config.directorySize ≤ s.directory.length then .badParam
      else if s.billing.walk.isSome then .notNow
      else .done [] (s.mapDirectory (insertRecord (newSubscriber l)))

/-! ## Joining and leaving (R167, R168) -/

/-- R167: JOINING is entered and the listen timer started. -/
def startJoining (s : State) : State :=
  (s.mapLife fun l => { l with state := .joining }).mapExchange fun x => { x with
    listenDue := some (ticksAfter s.tick (seconds (cfg s).presenceTimeout)) }

/-- R168: LEAVING is entered: an ordinary PRESENCE with state LEAVING, and the leaving PRESENCE too when the drain
condition holds at this event. -/
def startLeaving (s : State) : State :=
  let entered := (s.mapLife fun l => { l with state := .leaving }).mapExchange fun x => { x with leaveMade := false }
  let announced := ordinaryPresence entered
  if drained announced then announceLeaving announced else announced

/-! ## Records and counts -/

/-- R16: the ruling of SET-STATE. -/
def ruleState (params : List Byte) (s : State) : Ruling :=
  let number := field params 0 3
  match subscriberStateOf (field params 3 1), findRecord s number with
  | some st, some i => if number ≤ 9999999 then .done [] (modifyRecord i (fun r => { r with state := st }) s) else .badParam
  | _, _ => .badParam

/-- R17: the ruling of READ-SUBSCRIBER. -/
def ruleRead (params : List Byte) (s : State) : Ruling :=
  let number := field params 0 3
  match findRecord s number with
  | some i =>
    match s.directory[i]? with
    | some r => if number ≤ 9999999 then .done (subscriberBytes i r (displaced s r.number)) s else .badParam
    | none => .badParam
  | none => .badParam

/-- R129: the ruling of TAKE-RECORDS. -/
def ruleTake (params : List Byte) (s : State) : Ruling :=
  let count := field params 0 1
  if 1 ≤ count ∧ count ≤ 4 then
    .done ((s.billing.queue.take count).flatMap recordBytes)
      (s.mapBilling fun b => { b with queue := b.queue.drop count })
  else .badParam

/-- R131: the ruling of CLOSE-PERIOD. A walk on an empty directory finishes at once. -/
def ruleClose (s : State) : Ruling :=
  if s.billing.walk.isSome then .notNow
  else .done [] (s.mapBilling fun b => { b with walk := if s.directory.isEmpty then none else some 0 })

/-- R179: the ruling of CLEAR-FAULTS. -/
def ruleClear (params : List Byte) (s : State) : Ruling :=
  let sel := byteAt params 0
  if sel.toNat < 4 then
    .done [] (s.mapPort fun p => { p with
      recordLost := p.recordLost && !sel.getLsbD 0, busStuck := p.busStuck && !sel.getLsbD 1 })
  else .badParam

/-! ### READ-COUNTS (R184, 11_formats.md) -/

/-- Counters, two bytes each. -/
def counters (ns : List Nat) : List Byte := ns.flatMap be2

/-- The figures of one intake line: five counters, line state, rate, RATE-FALLBACK, OVERRUN. -/
def lineFigures (l : Line) : List Byte :=
  counters [l.counts.seizures, l.counts.fallbacks, l.counts.overruns, l.counts.abandoned, l.counts.badTaken]
    ++ be1 (lineStateCode l.state) ++ be1 ((l.rate.map lineRateCode).getD 0xFF) ++ be1 (flag l.rateFallback)
    ++ be1 (flag l.overrun)

/-- Group INTAKE. -/
def intakeFigures (s : State) : List Byte :=
  let c := s.intake.counts
  s.intake.lines.toList.flatMap lineFigures ++ counters [c.accept, c.unknown, c.suspended, c.quota, c.noPriority, c.busy,
    c.unreachable, c.badEntry, c.timeout, c.cancelDone, c.cancelTooLate, c.cancelUnknown, c.cancelUnanswered]

/-- Group AIR. -/
def airFigures (s : State) : List Byte :=
  let y := s.air.cycleCounts
  let c := s.air.counts
  [y.cycles, y.pagesAired, y.cellsAired, y.idleCells, y.slotsSkipped, y.priorityPages].flatMap (fun n => be4 n.toNat)
    ++ counters [c.requestsAccepted, c.requestsMerged, c.refusedLeaving, c.refusedNotZone, c.refusedFull,
      c.withdrawnAtOnce, c.withdrawDeferred, c.withdrawUnknown, c.purged, c.marksSent, c.marksIgnored,
      c.unmarkedCycles]
    ++ be1 s.air.regular.length ++ be1 s.air.priority.length ++ be1 (flag s.air.cycle.isSome)

/-- Group ACK-RETRY. -/
def ackFigures (s : State) : List Byte :=
  let c := s.matcher.counts
  counters [c.reportsTaken, c.badReport, c.lowQuality, c.ignored, c.fifoFull, c.relayed, c.homeAbsent, c.purgedReports,
      c.heardTaken, c.misrouted, c.stale, c.ackClosed, c.ackTurned, c.ackDuplicate, c.ackDirect]
    ++ be1 s.matcher.fifo.length ++ counters [s.store.scheduled, s.store.released, s.store.retry.length]

/-- Group BILLING; the position while no walk runs is a free value. -/
def billingFigures (s : State) : List Byte :=
  be2 s.billing.lost ++ be1 s.billing.queue.length ++ be2 s.billing.seq.toNat ++ be1 (flag s.billing.walk.isSome)
    ++ be2 (s.billing.walk.getD (Config.idleWalkPosition s.tick).toNat)

/-- Group BUS. -/
def busFigures (s : State) : List Byte :=
  let c := s.bus.counts
  counters [c.framesTaken, c.framesSent, c.lostArbitration, c.txFaults, c.framingErrors, c.lengthErrors, c.interrupted,
      c.crcErrors, c.badSource, c.duplicateSource, c.shortBreaks, c.marksHeard, c.stuckEvents, c.answersDropped]
    ++ be1 s.bus.answers.length ++ be1 s.bus.requests.length ++ be1 s.bus.waiting.length
    ++ be1 (flag s.bus.pendingMark) ++ be1 (lineCondition s)

/-- The entries held of a kind (R169). -/
def heldOf (s : State) (k : EntryKind) : Nat := (s.exchange.table.filter fun e => e.key.kind == k).length

/-- The figures of one station in the presence table. -/
def presenceFigures (p : Presence) : List Byte :=
  be1 (flag p.present) ++ be1 (flag p.airing) ++ be1 (reportedCode p.reported) ++ be4 p.lastHeard.toNat

/-- Whether a PRESENCE is waiting or queued, and with which flag. -/
def presenceWaiting (s : State) : Nat :=
  match (ownPresence s).bind fun f => readPresence f.payload with
  | none => 0
  | some b => if b.leaving then 3 else if b.fresh then 2 else 1

/-- Group EXCHANGE. -/
def exchangeFigures (s : State) : List Byte :=
  let c := s.exchange.counts
  counters [c.badKind, c.misaddressed, c.badPayload, c.notMember, c.late, c.replyTimeouts, c.sequenceSkips,
      c.peersTimedOut, c.leavesHeard, c.freshJoinsHeard, c.presenceSent]
    ++ be1 (heldOf s .forward) ++ be1 (heldOf s .cancel) ++ be1 (heldOf s .airRequest) ++ be1 (heldOf s .withdraw)
    ++ [s.exchange.seq] ++ s.exchange.presence.toList.flatMap presenceFigures ++ be1 (presenceWaiting s)
    ++ be1 (cfg s).presenceTimeout ++ be1 (cfg s).replyTimeout

/-- R184: the figures of a group code; none for a code outside the six. -/
def figures (s : State) (group : Nat) : Option (List Byte) :=
  match group with
  | 0 => some (intakeFigures s)
  | 1 => some (airFigures s)
  | 2 => some (ackFigures s)
  | 3 => some (billingFigures s)
  | 4 => some (busFigures s)
  | 5 => some (exchangeFigures s)
  | _ => none

/-- R184: the ruling of READ-COUNTS. -/
def ruleCounts (params : List Byte) (s : State) : Ruling :=
  match figures s (field params 0 1) with
  | some data => .done data s
  | none => .badParam

/-! ## The commands -/

/-- FRAME_START (R171, R174, R186): select falls; the response is put together with the station as it stands, or the
frame is ignored while RESET_N holds the station. (DESIGN CHOICE, notes/assumptions/6.md.) -/
def execFrameStart (s : State) : Host.Outcome State Fault Refusal :=
  .next (
    if s.port.frame ≠ .closed then s
    else s.mapPort fun p => { p with frame := if s.life.held then .ignored else .shifting (responseBytes s) })

/-- R174: the byte at place `i` of those that the frame on the port shifts out, 0x00 past the response CRC; none when the
data output is released. -/
def byteOut (s : State) (i : Nat) : Option Byte :=
  match s.port.frame with
  | .shifting out => some (byteAt out i)
  | .closed | .ignored => none

/-- R171: the level of the data output after so many falling edges of the clock in the frame, the first bit from the fall
of select; none when it is released. -/
def dataOut (s : State) (edges : Nat) : Option Bool := (byteOut s (edges / 8)).map fun b => b.getMsbD (edges % 8)

/-- TRANSFER_FAULT_FRAME (R171, R172, R175). (DESIGN CHOICE, notes/assumptions/6.md.) -/
def execTransferFaultFrame (bits : List Bool) (s : State) : Host.Outcome State Fault Refusal :=
  .next (
    match transferFault (wholeBytes bits) with
    | some f => frameEnds (noteFault f) s
    | none => s)

/-- UNKNOWN_COMMAND (R173 check 1): the codes 0x00 to 0x0D name commands. (DESIGN CHOICE, notes/assumptions/6.md.) -/
def execUnknownCommand (code : Byte) (_params : List Byte) (s : State) : Host.Outcome State Fault Refusal :=
  .next (if code.toNat < 0x0E then s else frameEnds (respond .noCommand .badParam []) s)

/-- POLL (R179). -/
def execPoll (params : List Byte) (s : State) : Host.Outcome State Fault Refusal :=
  .next (supervise 0x00 true 0 params (fun x => .done [] x) s)

/-- LOAD-CONFIG (R180, R181). -/
def execLoadConfig (params : List Byte) (s : State) : Host.Outcome State Fault Refusal :=
  .next (supervise 0x01 (loadable s) 19 params
    (fun x => match readConfig params with | some c => .done [] (loadConfig c x) | none => .badParam) s)

/-- LOAD-PLAN (R112). -/
def execLoadPlan (params : List Byte) (s : State) : Host.Outcome State Fault Refusal :=
  .next (supervise 0x02 (loadable s) 27 params
    (fun x => if h : (byteAt params 0).toNat < 16 then
        .done [] (x.mapPlans fun ps => ps.set (byteAt params 0).toNat (readPlan params))
      else .badParam) s)

/-- LOAD-RANGE (R182). -/
def execLoadRange (params : List Byte) (s : State) : Host.Outcome State Fault Refusal :=
  .next (supervise 0x03 (loadable s) 7 params (ruleRange params) s)

/-- LOAD-SUBSCRIBER (R183). -/
def execLoadSubscriber (params : List Byte) (s : State) : Host.Outcome State Fault Refusal :=
  .next (supervise 0x04 (loadable s) 14 params (ruleSubscriber params) s)

/-- JOIN (R167, R185). -/
def execJoin (params : List Byte) (s : State) : Host.Outcome State Fault Refusal :=
  .next (supervise 0x05 (s.life.state == .configured) 0 params (fun x => .done [] (startJoining x)) s)

/-- LEAVE (R168, R185). -/
def execLeave (params : List Byte) (s : State) : Host.Outcome State Fault Refusal :=
  .next (supervise 0x06 (s.life.state == .onBus) 0 params (fun x => .done [] (startLeaving x)) s)

/-- SET-STATE (R16). -/
def execSetState (params : List Byte) (s : State) : Host.Outcome State Fault Refusal :=
  .next (supervise 0x08 true 4 params (ruleState params) s)

/-- READ-SUBSCRIBER (R17). -/
def execReadSubscriber (params : List Byte) (s : State) : Host.Outcome State Fault Refusal :=
  .next (supervise 0x09 true 3 params (ruleRead params) s)

/-- TAKE-RECORDS (R129). -/
def execTakeRecords (params : List Byte) (s : State) : Host.Outcome State Fault Refusal :=
  .next (supervise 0x0A true 1 params (ruleTake params) s)

/-- CLOSE-PERIOD (R131). -/
def execClosePeriod (params : List Byte) (s : State) : Host.Outcome State Fault Refusal :=
  .next (supervise 0x0B (configured s) 0 params ruleClose s)

/-- R137, R148, R154: the bus as READ-COUNTS finds it: the receiver has taken the characters heard, and the run in
progress is measured. -/
def atReading (seen : LineSeen) (s : State) : State := measureRun seen.run (listenOn seen.heard s)

/-- READ-COUNTS (R184). (DESIGN CHOICE, notes/assumptions/5.md, for what it finds on the bus.) -/
def execReadCounts (params : List Byte) (seen : LineSeen) (s : State) : Host.Outcome State Fault Refusal :=
  .next (supervise 0x0C true 1 params (ruleCounts params) (atReading seen s))

/-- CLEAR-FAULTS (R179). -/
def execClearFaults (params : List Byte) (s : State) : Host.Outcome State Fault Refusal :=
  .next (supervise 0x0D true 1 params (ruleClear params) s)

end Sys2Proof.Machine
end

