-- ==== Sys2Proof/Machine/Life.lean ====
section
/-! DEFINITION. The station's resets, from the pin, from RESTART and from power, and the steps of the period-close walk
(R132, R186 to R188), and the tick of the clock, which samples RESET_N. -/

namespace Sys2Proof.Machine

/-- R66: a slot at a warm reset: free, its generation advanced by one whether it was held or not. -/
def resetSlot (x : Slot) : Slot := { gen := x.gen + 1, held := none }

/-- R19, R39, R40: the Intake Unit at a warm reset. -/
def resetIntake : Intake := { lines := Vector.replicate 8 Line.fresh, counts := IntakeCounts.zero }

/-- R66, R109, R110: the Page Store and the Retry Queue at a warm reset. -/
def resetStore (p : PageStore) : PageStore :=
  { slots := p.slots.map resetSlot, issue := [], retry := [], scheduled := 0, released := 0 }

/-- R187 4: CONFIGURED if a configuration is held, UNCONFIGURED otherwise. -/
def stateAfterReset (l : Life) : StationState := if l.config.isSome then .configured else .unconfigured

/-- R187: a warm reset of a kind, short of the pending response. -/
def warmReset (kind : ResetKind) (s : State) : State :=
  { s with
    life := { s.life with state := stateAfterReset s.life, lastReset := kind }
    directory := s.directory.map fun r => { r with live := 0 }
    intake := resetIntake
    store := resetStore s.store
    air := Air.fresh
    matcher := Matcher.fresh
    billing := { s.billing with walk := none }
    bus := Bus.fresh
    exchange := { Exchange.fresh with seq := s.exchange.seq }
    port := { s.port with busStuck := false } }

/-- RESTART (R187): its own response becomes the pending response. -/
def execRestart (params : List Byte) (s : State) : Host.Outcome State Fault Refusal :=
  .next (supervise 0x07 (configured s) 0 params (fun x => .done [] (warmReset .command x)) s)

/-- R186: a frame in progress at the fall of RESET_N is abandoned: it shifts out nothing more and is not executed. -/
def abandonFrame (f : PortFrame) : PortFrame :=
  match f with
  | .closed => .closed
  | .shifting _ | .ignored => .ignored

/-! ## RESET_N (R186) -/

/-- R186: the sample of RESET_N that a tick takes. -/
def takeSample (high : Bool) (s : State) : State := s.mapLife fun l => { l with sample := some high }

/-- R186: a sample at this level is the second consecutive one, and the level is not the recognised one. -/
def recognises (high : Bool) (s : State) : Bool := s.life.sample == some high && s.life.recognised != some high

/-- R186, R187: the fall after a recognised high level makes a warm reset with kind PIN and leaves the pending response
NONE; a low level with no high one recognised before it, at power-on, makes none. -/
def pinReset (s : State) : State :=
  if s.life.recognised = some true then respond .none .done [] (warmReset .pin s) else s

/-- R186: a low level is recognised: the station is held, and a frame in progress is abandoned.
(DESIGN CHOICE, notes/assumptions/28.md, where no high level has been recognised.) -/
def recogniseLow (s : State) : State :=
  ((pinReset s).mapLife fun l => { l with recognised := some false, held := true }).mapPort fun p =>
    { p with frame := abandonFrame s.port.frame }

/-- R186: a high level is recognised: the hold ends. -/
def recogniseHigh (s : State) : State := s.mapLife fun l => { l with recognised := some true, held := false }

/-- R186: one tick's sample of RESET_N, which the second consecutive one at a new level recognises. -/
def sampleReset (s : State) (high : Bool) : State :=
  let sampled := takeSample high s
  if recognises high s then (if high then recogniseHigh sampled else recogniseLow sampled) else sampled

/-- R186: the samples that a level of RESET_N has still to show until it is the recognised one: the second consecutive one
if the last sample was at this level, two if it was not, and none if the level is recognised. -/
def samplesToCome (high : Bool) (s : State) : List Bool :=
  if s.life.recognised = some high then [] else if s.life.sample = some high then [high] else [high, high]

/-- RESET_N comes to a level, and the ticks sample it until they have recognised it.
(DESIGN CHOICE, notes/assumptions/28.md.) -/
def levelComes (high : Bool) (s : State) : State :=
  (samplesToCome high s).foldl sampleReset (s.mapPins fun p => { p with resetN := high })

/-- RESET_N_FALL (R186, R187): the fall is recognised at the last of its samples. -/
def execResetNFall (s : State) : Host.Outcome State Fault Refusal := .next (levelComes false s)

/-- RESET_N_RISE (R186): the high level is recognised at the last of its samples. -/
def execResetNRise (s : State) : Host.Outcome State Fault Refusal := .next (levelComes true s)

/-- R1, R186: one tick passes: the counter counts, and RESET_N is sampled at the level it shows.
(DESIGN CHOICE, notes/assumptions/3.md and 28.md.) -/
def passTick (s : State) : State := sampleReset (countTick s) s.pins.resetN

/-! ## Power-on and the period close -/

/-- POWER_ON (R188, R186): every block at its power-on state; a RESET_N that is low holds the station. The levels of
the pins and the commands that wait are the outside's and stay; no level of RESET_N has been sampled yet.
(DESIGN CHOICE, notes/assumptions/4.md, for the pins.) -/
def execPowerOn (resetLow : Bool) (s : State) : Host.Outcome State Fault Refusal :=
  .next (((State.reset.setPending s.pending).mapPins fun _ => { s.pins with resetN := !resetLow }).mapLife fun l => { l with held := resetLow })

/-- PERIOD_CLOSE_STEP (R132, R133): a walk is running, its position lies in the directory, and more than 16 billing
entries are free. -/
def execPeriodCloseStep (offpeak : Bool) (s : State) : Host.Outcome State Fault Refusal :=
  .next (
    match s.billing.walk with
    | none => s
    | some p =>
      if p < s.directory.length ∧ Config.billingReserve < billingFree s then walkStep p (withOffpeak offpeak s) else s)

end Sys2Proof.Machine
end

