-- ==== Sys2Proof/Machine/Dispatch.lean ====
section
/-! DEFINITION. One arm for every command: its meaning. -/

namespace Sys2Proof.Machine

/-- The effect of a command on everything but the queue of waiting commands.
(DESIGN CHOICE, notes/assumptions/1.md and 2.md, for the order in which commands may come.) -/
def exec (i : Instr) (s : State) : Host.Outcome State Fault Refusal :=
  match i with
  | .powerOn resetLow => Sys2Proof.Machine.execPowerOn resetLow s
  | .resetNFall => Sys2Proof.Machine.execResetNFall s
  | .resetNRise => Sys2Proof.Machine.execResetNRise s
  | .frameStart => Sys2Proof.Machine.execFrameStart s
  | .transferFaultFrame bits => Sys2Proof.Machine.execTransferFaultFrame bits s
  | .unknownCommand code params => Sys2Proof.Machine.execUnknownCommand code params s
  | .poll params => Sys2Proof.Machine.execPoll params s
  | .loadConfig params => Sys2Proof.Machine.execLoadConfig params s
  | .loadPlan params => Sys2Proof.Machine.execLoadPlan params s
  | .loadRange params => Sys2Proof.Machine.execLoadRange params s
  | .loadSubscriber params => Sys2Proof.Machine.execLoadSubscriber params s
  | .join params => Sys2Proof.Machine.execJoin params s
  | .leave params => Sys2Proof.Machine.execLeave params s
  | .restart params => Sys2Proof.Machine.execRestart params s
  | .setState params => Sys2Proof.Machine.execSetState params s
  | .readSubscriber params => Sys2Proof.Machine.execReadSubscriber params s
  | .takeRecords params => Sys2Proof.Machine.execTakeRecords params s
  | .closePeriod params => Sys2Proof.Machine.execClosePeriod params s
  | .readCounts params seen => Sys2Proof.Machine.execReadCounts params seen s
  | .clearFaults params => Sys2Proof.Machine.execClearFaults params s
  | .seizeRecognised line => Sys2Proof.Machine.execSeizeRecognised line s
  | .releaseRecognised line => Sys2Proof.Machine.execReleaseRecognised line s
  | .rateChosen line micros => Sys2Proof.Machine.execRateChosen line micros s
  | .measurementOverflow line => Sys2Proof.Machine.execMeasurementOverflow line s
  | .calibrationTimeout line => Sys2Proof.Machine.execCalibrationTimeout line s
  | .characterReceived offpeak line char framing => Sys2Proof.Machine.execCharacterReceived offpeak line char framing s
  | .entryTimeout line => Sys2Proof.Machine.execEntryTimeout line s
  | .verdictTransmission line => Sys2Proof.Machine.execVerdictTransmission line s
  | .forward offpeak heard => Sys2Proof.Machine.execForward offpeak heard s
  | .cancel offpeak heard => Sys2Proof.Machine.execCancel offpeak heard s
  | .airRequest heard => Sys2Proof.Machine.execAirRequest heard s
  | .withdraw heard => Sys2Proof.Machine.execWithdraw heard s
  | .aired offpeak heard => Sys2Proof.Machine.execAired offpeak heard s
  | .heard offpeak heard => Sys2Proof.Machine.execHeard offpeak heard s
  | .taken heard => Sys2Proof.Machine.execTaken heard s
  | .cancelAnswer heard => Sys2Proof.Machine.execCancelAnswer heard s
  | .airAnswer offpeak heard => Sys2Proof.Machine.execAirAnswer offpeak heard s
  | .withdrawn offpeak heard => Sys2Proof.Machine.execWithdrawn offpeak heard s
  | .presence offpeak heard => Sys2Proof.Machine.execPresence offpeak heard s
  | .badKindFrame kind heard => Sys2Proof.Machine.execBadKindFrame kind heard s
  | .frameDroppedBySource src heard => Sys2Proof.Machine.execFrameDroppedBySource src heard s
  | .frameDiscard heard => Sys2Proof.Machine.execFrameDiscard heard s
  | .breakHeard bits => Sys2Proof.Machine.execBreakHeard bits s
  | .shortBreak bits => Sys2Proof.Machine.execShortBreak bits s
  | .stuckLine => Sys2Proof.Machine.execStuckLine s
  | .stoppedConditionEnd quiet => Sys2Proof.Machine.execStoppedConditionEnd quiet s
  | .breakStart gap => Sys2Proof.Machine.execBreakStart gap s
  | .transmissionStart gap => Sys2Proof.Machine.execTransmissionStart gap s
  | .frameSent => Sys2Proof.Machine.execFrameSent s
  | .lostArbitration txFault => Sys2Proof.Machine.execLostArbitration txFault s
  | .issue offpeak => Sys2Proof.Machine.execIssue offpeak s
  | .lifetimeExpiry offpeak slot => Sys2Proof.Machine.execLifetimeExpiry offpeak slot s
  | .ackWaitExpiry offpeak slot => Sys2Proof.Machine.execAckWaitExpiry offpeak slot s
  | .replyTimeout offpeak key => Sys2Proof.Machine.execReplyTimeout offpeak key s
  | .retryRelease => Sys2Proof.Machine.execRetryRelease s
  | .freeCycleStart => Sys2Proof.Machine.execFreeCycleStart s
  | .cycleTimerExpiry => Sys2Proof.Machine.execCycleTimerExpiry s
  | .slotStart ready => Sys2Proof.Machine.execSlotStart ready s
  | .cellHanded => Sys2Proof.Machine.execCellHanded s
  | .cycleEnd offpeak => Sys2Proof.Machine.execCycleEnd offpeak s
  | .reverseReport char framing => Sys2Proof.Machine.execReverseReport char framing s
  | .shortReport => Sys2Proof.Machine.execShortReport s
  | .extraReportCharacter => Sys2Proof.Machine.execExtraReportCharacter s
  | .matcherTakeHead offpeak => Sys2Proof.Machine.execMatcherTakeHead offpeak s
  | .presenceTimeout peer => Sys2Proof.Machine.execPresenceTimeout peer s
  | .presenceInterval => Sys2Proof.Machine.execPresenceInterval s
  | .listenTimer => Sys2Proof.Machine.execListenTimer s
  | .drain => Sys2Proof.Machine.execDrain s
  | .periodCloseStep offpeak => Sys2Proof.Machine.execPeriodCloseStep offpeak s
  | .seizeSample line high => Sys2Proof.Machine.execSeizeSample line high s
  | .calibrationFirstEdge line => Sys2Proof.Machine.execCalibrationFirstEdge line s
  | .reportCharacterReceived char framing => Sys2Proof.Machine.execReportCharacterReceived char framing s

end Sys2Proof.Machine
end

