-- ==== Sys2Proof/WellFormed.lean ====
section
/-! DEFINITION. Which commands the outside can send at all: the bounds that the ports themselves put on an operand.
A command's meaning is total, so an ill-formed one has a meaning too; nothing rests on it. -/

namespace Sys2Proof

/-- R137: a character that the receiver completes begins with a dominant start bit; a recessive one is noise. -/
def heardWellFormed (heard : List BusChar) : Bool := heard.all fun c => !c.getLsbD 0

/-- R172: a frame without a LENGTH fault carries at most 32 parameter bytes. -/
def paramsWellFormed (params : List Byte) : Bool := params.length ≤ 32

/-- R143, 11_formats.md: the codes of the eleven frame kinds. -/
def namesFrameKind (code : Byte) : Bool :=
  (1 ≤ code.toNat && code.toNat ≤ 5) || (0x11 ≤ code.toNat && code.toNat ≤ 0x16)

/-- A station number of the office (00_scope.md). -/
def stationWellFormed (n : Nat) : Bool := 1 ≤ n && n ≤ 24

/-- The command can come from outside. -/
def Instr.wellFormed : Instr → Bool
  | .powerOn _ | .resetNFall | .resetNRise | .frameStart | .transferFaultFrame _ => true
  | .unknownCommand code params => 0x0E ≤ code.toNat && paramsWellFormed params
  | .poll p | .loadConfig p | .loadPlan p | .loadRange p | .loadSubscriber p | .join p | .leave p | .restart p
  | .setState p | .readSubscriber p | .takeRecords p | .closePeriod p | .clearFaults p =>
      paramsWellFormed p
  | .readCounts p seen => paramsWellFormed p && heardWellFormed seen.heard
  | .seizeRecognised _ | .releaseRecognised _ => true
  | .rateChosen _ micros => micros ≤ 65534
  | .measurementOverflow _ | .calibrationTimeout _ | .characterReceived _ _ _ _ | .entryTimeout _
  | .verdictTransmission _ => true
  | .forward _ cs | .cancel _ cs | .airRequest cs | .withdraw cs | .aired _ cs | .heard _ cs | .taken cs
  | .cancelAnswer cs | .airAnswer _ cs | .withdrawn _ cs | .presence _ cs | .frameDroppedBySource _ cs
  | .frameDiscard cs => heardWellFormed cs
  | .badKindFrame kind cs => !namesFrameKind kind && heardWellFormed cs
  | .breakHeard bits => 22 ≤ bits && bits ≤ 44
  | .shortBreak bits => 11 < bits && bits < 22
  | .stuckLine => true
  | .stoppedConditionEnd quiet => 11 ≤ quiet
  | .breakStart gap => 22 ≤ gap
  | .transmissionStart gap => 33 ≤ gap
  | .frameSent | .lostArbitration _ => true
  | .issue _ | .lifetimeExpiry _ _ | .ackWaitExpiry _ _ => true
  | .replyTimeout _ key => stationWellFormed key.peer
  | .retryRelease | .freeCycleStart | .cycleTimerExpiry | .slotStart _ | .cellHanded | .cycleEnd _ => true
  | .reverseReport _ _ | .shortReport | .extraReportCharacter | .matcherTakeHead _ => true
  | .presenceTimeout peer => stationWellFormed peer
  | .presenceInterval | .listenTimer | .drain | .periodCloseStep _ => true
  | .seizeSample _ _ | .calibrationFirstEdge _ | .reportCharacterReceived _ _ => true

end Sys2Proof
end

