-- ==== Sys2Proof/Safety.lean ====
section
/-! DEFINITION. What a sound state of the station is, and the relations between the states before and after an event
that the statements use. -/

namespace Sys2Proof.Machine

/-! ## The sizes of the stores -/

/-- An intake line within its sizes: two characters in the receiver FIFO, which holds characters only while the line
waits in LOOKUP and has not overrun (R26, R27), none left in the receiver's shift stage between events, and 88
characters in the entry (R28). -/
abbrev LineFits (l : Line) : Prop :=
  l.fifo.length ≤ 2 ∧ (l.fifo = [] ∨ (l.state = .lookup ∧ l.overrun = false)) ∧ l.rxShift = none
    ∧ ∀ e ∈ l.entry, e.chars.length ≤ 88

/-- The characters of a report under assembly number at most five (R91). -/
abbrev RunFits (r : ReverseRun) : Prop :=
  match r with
  | .gathering cs => cs.length ≤ 5
  | _ => True

/-- The bytes of a frame under reception: at least the address, and fewer than the frame's length of at most 103, once
its length character has been taken (R138, R140, R141). -/
abbrev RxFits (bytes : List Byte) : Prop :=
  1 ≤ bytes.length ∧ (5 ≤ bytes.length → (byteAt bytes 4).toNat ≤ 96 ∧ bytes.length < 7 + (byteAt bytes 4).toNat)

/-- Every queue and table holds no more than the spec gives it room for (R2, R5, R26, R28, R47, R67, R91, R93, R106, R128,
R138, R151, R152, R159), and a slot carries at most 8 cells (R72). -/
abbrev Fits (s : State) : Prop :=
  s.directory.length ≤ 1024 ∧ s.ranges.length ≤ 16 ∧ s.billing.queue.length ≤ 128
    ∧ s.store.issue.length ≤ 256 ∧ s.store.retry.length ≤ 256
    ∧ s.air.regular.length ≤ 64 ∧ s.air.priority.length ≤ 4 ∧ (∀ y ∈ s.air.cycle, y.cells.length ≤ 8)
    ∧ s.matcher.fifo.length ≤ 8 ∧ RunFits s.matcher.run
    ∧ s.bus.answers.length ≤ 24 ∧ s.bus.requests.length ≤ 32 ∧ s.exchange.table.length ≤ 96
    ∧ (∀ bytes ∈ s.bus.rx, RxFits bytes)
    ∧ ∀ k : Fin 8, LineFits s.intake.lines[k.val]

/-! ## The Page Store -/

/-- The number of deliveries held for the subscriber at an index (R15). -/
def heldFor (s : State) (i : Nat) : Nat :=
  (s.store.slots.toList.filterMap (·.held)).countP fun d => d.subscriber == i

/-- A PRESENCE with the leaving flag (R168). -/
def leavingPresence (f : Frame) : Prop :=
  f.kind = .presence ∧ ∃ st fl : Byte, f.payload = [st, fl] ∧ fl.getLsbD 2 = true

/-- The Page Store and what it is joined to. R47, R106: the issue queue holds the deliveries in ISSUING and the Retry
Queue those in RETRY-WAIT, each once. R15: a subscriber's live count is the number of its deliveries held. R157, R168: a
station that is no member of the office holds none; R165: at most one PRESENCE waits or is queued, and the leaving one
only while the station is drained. -/
structure StoreSound (s : State) : Prop where
  issueOnce : s.store.issue.Nodup
  retryOnce : s.store.retry.Nodup
  issuing : ∀ k : Fin 256, k ∈ s.store.issue ↔ ∃ d, (s.store.slots[k.val]).held = some d ∧ d.state = .issuing
  waiting : ∀ k : Fin 256, k ∈ s.store.retry ↔ ∃ d, (s.store.slots[k.val]).held = some d ∧ d.state = .retryWait
  owned : ∀ (k : Fin 256) (d : Delivery), (s.store.slots[k.val]).held = some d → d.subscriber < s.directory.length
  live : ∀ (i : Nat) (r : Subscriber), s.directory[i]? = some r → r.live = heldFor s i
  members : s.life.state ≠ .onBus → s.life.state ≠ .leaving → ∀ k : Fin 256, (s.store.slots[k.val]).held = none
  onePresence : ((keptRequests s).filter fun f => f.kind == .presence).length ≤ 1
  leaving : (∃ f ∈ keptRequests s, leavingPresence f) →
    s.life.state = .leaving ∧ (∀ k : Fin 256, (s.store.slots[k.val]).held = none) ∧ s.air.regular = []
      ∧ s.air.priority = [] ∧ s.exchange.table = []

/-- R106: delivery `a` stands before delivery `b`: its due tick is earlier, or the same with a lower slot number. -/
def standsBefore (s : State) (a b : Fin 256) : Prop :=
  (dueOf s a - dueOf s b).toInt < 0 ∨ (dueOf s a = dueOf s b ∧ a < b)

/-- R106: the Retry Queue stands in order of due tick, then of slot number. -/
abbrev RetryOrdered (s : State) : Prop := s.store.retry.Pairwise (standsBefore s)

/-- Every delivery in the Retry Queue has a due tick less than 2^30 ticks from now, so that signed differences order
them. -/
abbrev DuesNear (s : State) : Prop :=
  ∀ k ∈ s.store.retry, -1073741824 < (dueOf s k - s.tick).toInt ∧ (dueOf s k - s.tick).toInt < 1073741824

/-! ## The directory and the home map -/

/-- A subscriber record within the values of R3 and R4. -/
abbrev RecordValid (r : Subscriber) : Prop :=
  r.number ≤ 9999999 ∧ r.address ≤ 2097151 ∧ r.homeZones ≠ 0 ∧ r.periodTotal ≤ 4294967295 ∧ r.usage ≤ 16777215
    ∧ r.accepted ≤ 65535 ∧ r.missed ≤ 65535 ∧ r.live ≤ 8

/-- R2, R3, R4: the records stand in ascending order of number with no number twice, each within its values. -/
abbrev DirectorySound (d : List Subscriber) : Prop :=
  d.Pairwise (fun a b => a.number < b.number) ∧ ∀ r ∈ d, RecordValid r

/-- R5: the ranges stand in ascending order, no two share a number, and each is within its values. -/
abbrev MapSound (m : List Range) : Prop :=
  m.Pairwise (fun a b => a.last < b.first)
    ∧ ∀ r ∈ m, r.first ≤ r.last ∧ r.last ≤ 9999999 ∧ 1 ≤ r.station ∧ r.station ≤ 24

/-- R111, R112: the fields of a plan that the times and attempts of a delivery rest on, within their values. -/
abbrev PlanValid (p : Plan) : Prop :=
  1 ≤ p.maxAttempts ∧ p.maxAttempts ≤ 7 ∧ 5 ≤ p.ackWait ∧ p.ackWait ≤ 120 ∧ 1 ≤ p.backoffBase ∧ p.backoffBase ≤ 255
    ∧ 1 ≤ p.backoffCap ∧ p.backoffCap ≤ 3600 ∧ 1 ≤ p.lifetime ∧ p.lifetime ≤ 1440 ∧ p.lowWatch ≤ p.highWatch
    ∧ p.retryPercent ≤ 200 ∧ p.discount ≤ 100 ∧ p.missRefund ≤ 100 ∧ p.cellFee ≤ 4095

/-! ## The outstanding request table -/

/-- R158, R159: at most 96 entries, and no two hold the same peer, sequence and kind. -/
abbrev TableSound (t : List Outstanding) : Prop := t.length ≤ 96 ∧ (t.map (·.key)).Nodup

/-! ## Station life -/

/-- R180, R185: a configuration is held in every state but UNCONFIGURED, and only there is none. R186: once a level of
RESET_N has been recognised, the station is held while the recognised one is low. -/
abbrev LifeSound (l : Life) : Prop :=
  (l.state = .unconfigured ↔ l.config = none) ∧ ∀ high : Bool, l.recognised = some high → l.held = !high

/-- R185: the table of transitions, by the command taken. -/
inductive Transition : Instr → StationState → StationState → Prop
  | powerOn (low : Bool) (a : StationState) : Transition (.powerOn low) a .unconfigured
  | configured (p : List Byte) : Transition (.loadConfig p) .unconfigured .configured
  | join (p : List Byte) : Transition (.join p) .configured .joining
  | onBus : Transition .frameSent .joining .onBus
  | leave (p : List Byte) : Transition (.leave p) .onBus .leaving
  | left : Transition .frameSent .leaving .configured
  | pin (a : StationState) : a ≠ .unconfigured → Transition .resetNFall a .configured
  | restart (p : List Byte) (a : StationState) : a ≠ .unconfigured → Transition (.restart p) a .configured

/-- What a warm reset of a kind leaves, short of the pending response and the hold of RESET_N (R187, and the rules it
names: R4, R40, R66, R90, R103, R109, R135, R155, R170). -/
structure WarmResetLeaves (kind : ResetKind) (s t : State) : Prop where
  config : t.life.config = s.life.config
  state : t.life.state = if s.life.config = none then .unconfigured else .configured
  lastReset : t.life.lastReset = kind
  clockKept : t.tick = s.tick
  loadsKept : t.plans = s.plans ∧ t.ranges = s.ranges
  directory : t.directory = s.directory.map fun r => { r with live := 0 }
  billing : t.billing = { s.billing with walk := none }
  lines : ∀ k : Fin 8, t.intake.lines[k.val] = Line.fresh
  intakeCounts : t.intake.counts = IntakeCounts.zero
  slots : ∀ k : Fin 256, t.store.slots[k.val] = { gen := s.store.slots[k.val].gen + 1, held := none }
  storeQueues : t.store.issue = [] ∧ t.store.retry = [] ∧ t.store.scheduled = 0 ∧ t.store.released = 0
  airQueues : t.air.regular = [] ∧ t.air.priority = []
  cycle : t.air.cycle = none ∧ t.air.timer = none ∧ t.air.key = false
  airCounts : t.air.cycleCounts = CycleCounts.zero ∧ t.air.counts = AirCounts.zero
  matcher : t.matcher.fifo = [] ∧ t.matcher.run = .idle ∧ t.matcher.counts = MatcherCounts.zero
  busQueues : t.bus.answers = [] ∧ t.bus.requests = [] ∧ t.bus.waiting = []
  busLine : t.bus.tx = .idle ∧ t.bus.pendingMark = false ∧ t.bus.stopped = false
  reception : t.bus.rx = none ∧ t.bus.run = 0 ∧ t.bus.drove = false
  busCounts : t.bus.counts = BusCounts.zero
  table : t.exchange.table = [] ∧ t.exchange.seq = s.exchange.seq
  presence : ∀ k : Fin 24, t.exchange.presence[k.val] =
    { present := false, lastHeard := 0, absenceDue := none, airing := false, reported := .none }
  exchangeTimers : t.exchange.listenDue = none ∧ t.exchange.intervalDue = none
  exchangeCounts : t.exchange.counts = ExchangeCounts.zero
  latches : t.port.busStuck = false ∧ t.port.recordLost = s.port.recordLost

/-! ## The frames of the bus -/

/-- The kind of the frame that a command of the bus takes, and the characters heard with it. -/
def busFrame : Instr → Option (FrameKind × List BusChar)
  | .forward _ heard => some (.forward, heard)
  | .cancel _ heard => some (.cancel, heard)
  | .airRequest heard => some (.airRequest, heard)
  | .withdraw heard => some (.withdraw, heard)
  | .presence _ heard => some (.presence, heard)
  | .taken heard => some (.taken, heard)
  | .cancelAnswer heard => some (.cancelAnswer, heard)
  | .airAnswer _ heard => some (.airAnswer, heard)
  | .withdrawn _ heard => some (.withdrawn, heard)
  | .aired _ heard => some (.aired, heard)
  | .heard _ heard => some (.heard, heard)
  | _ => none

/-- The characters on the bus that a command brings. -/
def charsHeard : Instr → Option (List BusChar)
  | .badKindFrame _ heard | .frameDroppedBySource _ heard | .frameDiscard heard => some heard
  | .readCounts _ seen => some seen.heard
  | i => (busFrame i).map (·.2)

/-- R157: the kinds that only a member of the office acts on. -/
def membersKind : FrameKind → Bool
  | .forward | .cancel | .airRequest | .withdraw | .aired | .heard => true
  | _ => false

/-- R161: the kind of outstanding entry that a reply of a kind answers. -/
def answersKind : FrameKind → Option EntryKind
  | .taken => some .forward
  | .cancelAnswer => some .cancel
  | .airAnswer => some .airRequest
  | .withdrawn => some .withdraw
  | _ => none

/-- The six class characters (11_formats.md, Intake Characters). -/
def classChars : List Byte := [0x4E, 0x41, 0x54, 0x58, 0x59, 0x5A]

/-- R156 check 3, R189: the payload agrees with the layout of its kind (11_formats.md, Station Bus). -/
def payloadAgrees (k : FrameKind) (p : List Byte) : Bool :=
  match k with
  | .forward => 4 ≤ p.length && p.length ≤ 84 && classChars.contains (byteAt p 3)
  | .airRequest => 9 ≤ p.length && p.length ≤ 89 && classChars.contains (byteAt p 7)
  | .taken | .cancel | .cancelAnswer => p.length == 1
  | .airAnswer => p.length == 1 && (byteAt p 0).toNat ≤ 3
  | .withdrawn => p.length == 1 && (byteAt p 0).toNat ≤ 1
  | .withdraw => p.length == 4
  | .aired => 4 ≤ p.length && p.length ≤ 96 && p.length % 4 == 0
  | .heard => p.length == 5
  | .presence => p.length == 2 && (byteAt p 0 == 1 || byteAt p 0 == 2) && (byteAt p 1).toNat ≤ 5

/-- R137 to R140: the last of the characters heard completes, at this station, a frame with these parts that is valid:
its source is another station of the office. -/
def hears (heard : List BusChar) (f : Received) (s : State) : Prop :=
  (∃ t bytes, listen heard s = some (t, .complete bytes) ∧ f = readFrame bytes)
    ∧ 1 ≤ f.src.toNat ∧ f.src.toNat ≤ 24 ∧ isOwn s f.src.toNat = false

/-- The same of a kind, addressed to this station by number. -/
def hearsOwn (k : FrameKind) (heard : List BusChar) (f : Received) (s : State) : Prop :=
  hears heard f s ∧ f.kind = kindCode k ∧ f.dest ≠ 0

/-- R141: FRAMING-ERRORS after a run of more than a character time, which discards a frame under reception. -/
def framingRaised (s : State) : Nat :=
  if s.bus.rx = none then s.bus.counts.framingErrors else min (s.bus.counts.framingErrors + 1) 65535

/-- R140, R142, R163: a valid frame other than a good PRESENCE, before it is checked: no frame is under reception any
more, it is counted FRAMES-TAKEN, and its source's presence entry is refreshed. -/
def noted (f : Received) (s : State) : State :=
  { s with
    bus := { s.bus with
      rx := none, run := 0,
      counts := { s.bus.counts with framesTaken := min (s.bus.counts.framesTaken + 1) 65535 } }
    exchange := { s.exchange with presence := s.exchange.presence.mapFinIdx fun i p _ =>
      if i + 1 = f.src.toNat then
        { present := true, lastHeard := s.tick,
          absenceDue := some (s.tick + BitVec.ofNat 32 (100 * (cfg s).presenceTimeout)),
          airing := if p.present then p.airing else true, reported := if p.present then p.reported else .none }
      else p } }

/-- R157, R151: the answer queue after an answer of a kind to the frame, made while the queue had room. -/
def answeredBy (f : Received) (k : FrameKind) (payload : List Byte) (s : State) : List Frame :=
  s.bus.answers ++
    [{ kind := k, dest := f.src, src := BitVec.ofNat 8 (ownNumber s), seq := f.seq, payload := payload }]

/-- The frame noted and an answer of a kind to it put at the tail of the answer queue. -/
def answeredFrame (f : Received) (k : FrameKind) (payload : List Byte) (s : State) : State :=
  let n := noted f s
  { n with bus := { n.bus with answers := answeredBy f k payload s } }

/-! ## Deliveries -/

/-- R44: the bits of one character of a body, by its coding. -/
def codeBits : Medium → Nat
  | .numeric => 4
  | .text => 7
  | .tone => 0

/-- R14, R42, R43, R44, R46, R47, R114, R125: the station after an acceptance into slot `k` for the record `r` at index `i`:
the delivery in ISSUING at the tail of the issue queue, the counts raised, the accept charge made and its record queued. -/
def acceptedInto (k : Fin 256) (i : Nat) (r : Subscriber) (c : MessageClass) (body : List Byte) (o : Option Origin)
    (s : State) : State :=
  let p := s.plans[r.plan.val]
  let amount := if p.messageCap = 0 then p.acceptFee else min p.acceptFee p.messageCap
  let charged := { r with
    live := r.live + 1, accepted := min (r.accepted + 1) 65535,
    periodTotal := min (r.periodTotal + amount) 4294967295,
    saturated := r.saturated || decide (4294967295 < r.periodTotal + amount) }
  let delivery : Delivery :=
    { subscriber := i, cls := c, body := body, cells := 2 + (codeBits c.medium * body.length + 23) / 24, origin := o,
      lifetimeDue := s.tick + BitVec.ofNat 32 (6000 * p.lifetime), counted := 0, issued := false, expiry := false,
      attempt := none, charged := amount, retryCharges := 0, due := none, state := .issuing }
  { s with
    directory := s.directory.set i charged
    store := { s.store with
      issue := s.store.issue ++ [k]
      slots := s.store.slots.set k.val (Slot.mk (s.store.slots[k.val]).gen (some delivery)) }
    billing := { s.billing with
      seq := s.billing.seq + 1
      queue := s.billing.queue ++ [
        { seq := s.billing.seq, kind := .acceptFee, number := r.number,
          delivery := some (BitVec.ofFin k, (s.store.slots[k.val]).gen), attempt := none, cells := none,
          watchHigh := none, amount := amount, credit := false, offpeak := s.pins.offpeak,
          totalAfter := charged.periodTotal, usageAfter := r.usage, tallies := none }] } }

/-- R60, R61: the close of the attempt leaves an entry unresolved, and what it withdraws stands in the tables as R51 has
it: no zone twice, and the outstanding entry of a remote zone in ACCEPTED still an AIR-REQUEST. -/
structure CloseWaits (k : Fin 256) (a : Attempt) (s : State) : Prop where
  keys : TableSound s.exchange.table
  zones : (a.zones.map (·.zone)).Nodup
  held : ∀ z ∈ a.zones, z.state = .accepted → isOwn s z.zone = false →
    ∃ x, entryOfZone s k z.zone = some x ∧ x.key.kind = .airRequest
  open_ : ∃ z ∈ a.zones, z.state = .sent ∨ z.state = .withdrawing ∨ (z.state = .accepted ∧ isOwn s z.zone = false)

/-- R81, R87: the Air Scheduler after the own Page Store withdraws the request of a tag. -/
def airWithdrawn (g : Tag) (s : State) : Air :=
  match findAir s g with
  | none => { s.air with counts := { s.air.counts with withdrawUnknown := min (s.air.counts.withdrawUnknown + 1) 65535 } }
  | some e =>
    if e.state = .queued then
      { s.air with
        regular := s.air.regular.filter fun x => x.tag != g
        priority := s.air.priority.filter fun x => x.tag != g
        counts := { s.air.counts with withdrawnAtOnce := min (s.air.counts.withdrawnAtOnce + 1) 65535 } }
    else
      let owe := fun (x : AirEntry) => if x.tag = g then { x with withdraw := some { station := ownNumber s, seq := 0 } } else x
      { s.air with
        regular := s.air.regular.map owe
        priority := s.air.priority.map owe
        counts := { s.air.counts with withdrawDeferred := min (s.air.counts.withdrawDeferred + 1) 65535 } }

/-- R56, R60, R54, R160: the attempt `a` of the delivery `d` in slot `k` closes with an outcome and waits in SETTLING. Each
zone in ACCEPTED is withdrawn: a remote one becomes WITHDRAWING, its outstanding entry a WITHDRAW with no timer yet, and
a WITHDRAW frame with the tag `g` is queued or waits; the own one is withdrawn directly, WITHDRAWN unless its request is
PACKED or DONE-IN-CYCLE. -/
structure ClosesAttempt (k : Fin 256) (d : Delivery) (a : Attempt) (o : AttemptOutcome) (s t : State) : Prop where
  delivery : ∀ closed : ZoneEntry → ZoneEntry, closed = (fun e =>
      if e.state ≠ .accepted then e
      else if isOwn s e.zone = false then { e with state := .withdrawing }
      else if (findAir s (tagFor s k a.number)).all (fun x => x.state == .queued) then { e with state := .withdrawn }
      else { e with state := .withdrawing }) →
    t.store = { s.store with slots := s.store.slots.set k.val (Slot.mk (s.store.slots[k.val]).gen (some { d with
      state := .settling,
      attempt := some { a with outcome := some o, ackDue := none, zones := a.zones.map closed } })) }
  remote : ∀ z ∈ a.zones, z.state = .accepted → isOwn s z.zone = false → ∀ x, entryOfZone s k z.zone = some x →
    ∃ y ∈ t.exchange.table, y.owner = .zone k z.zone ∧ y.key.peer = x.key.peer ∧ y.key.kind = .withdraw ∧ y.due = none
      ∧ ∃ f ∈ t.bus.requests ++ t.bus.waiting, f.kind = .withdraw ∧ f.dest = BitVec.ofNat 8 x.key.peer
        ∧ f.seq = y.key.seq ∧ f.payload = [BitVec.ofNat 8 (ownNumber s), BitVec.ofFin k, (s.store.slots[k.val]).gen,
            BitVec.ofNat 8 a.number]
  entries : t.exchange.table.length = s.exchange.table.length
  answers : t.bus.answers = s.bus.answers
  own : ∀ z ∈ a.zones, z.state = .accepted → isOwn s z.zone = true → t.air = airWithdrawn (tagFor s k a.number) s
  air : (∀ z ∈ a.zones, z.state = .accepted → isOwn s z.zone = false) → t.air = s.air
  rest : t = { s with air := t.air, store := t.store, bus := t.bus, exchange := t.exchange }

/-- The delivery in a slot has ended: the slot is free with the next generation and the delivery has left the issue and
Retry Queues (R42, R63). -/
def slotEnded (k : Fin 256) (p : PageStore) : PageStore :=
  { p with
    slots := p.slots.set k.val { gen := p.slots[k.val].gen + 1, held := none }
    issue := p.issue.filter fun j => j != k
    retry := p.retry.filter fun j => j != k }

/-! ### Settling (R61 to R63) -/

/-- R125, R127, R128: the records are produced in order: each takes the next sequence number and the tariff period of the
event; those that find the queue full are lost and counted, with RECORD-LOST latched. -/
def recorded (made : List BillingRecord) (s : State) : State :=
  let room := 128 - s.billing.queue.length
  { s with
    billing := { s.billing with
      seq := s.billing.seq + BitVec.ofNat 16 made.length
      queue := s.billing.queue ++ (made.mapIdx fun i b =>
        { b with seq := s.billing.seq + BitVec.ofNat 16 i, offpeak := s.pins.offpeak }).take room
      lost := if made.length ≤ room then s.billing.lost else min (s.billing.lost + (made.length - room)) 65535 }
    port := { s.port with recordLost := s.port.recordLost || decide (room < made.length) } }

/-- R61: z, the number of zones of the attempt in AIRED. -/
def airedIn (a : Attempt) : Nat := a.zones.countP fun e => e.state == ZoneState.aired

/-- R115: the charge for the attempt of a delivery of the record `r`. -/
def chargeFor (r : Subscriber) (d : Delivery) (a : Attempt) (s : State) : Nat :=
  attemptAmount (s.plans[r.plan.val]) s.pins.offpeak r.usage d.charged a.number (d.cells * airedIn a)

/-- R61, R62, R115: the delivery once its closed attempt has been counted and charged, or found void. -/
def deliveryCharged (d : Delivery) (a : Attempt) (s : State) : Delivery :=
  match s.directory[d.subscriber]? with
  | some r =>
    if airedIn a = 0 then d
    else { d with
      counted := d.counted + 1
      charged := min (d.charged + chargeFor r d a s) 65535
      retryCharges :=
        if 2 ≤ a.number then min (d.retryCharges + chargeFor r d a s) 4294967295 else d.retryCharges }
  | none => d

/-- R61, R62, R115, R120, R121, R125: the station once the closed attempt `a` of the delivery `d` in slot `k` has been
charged, or found void: usage and period total raised, a notice for each watch level crossed, LOW before HIGH, then the
ATTEMPT record. -/
def attemptCharged (k : Fin 256) (d : Delivery) (a : Attempt) (s : State) : State :=
  match s.directory[d.subscriber]? with
  | some r =>
    let p := s.plans[r.plan.val]
    let amount := chargeFor r d a s
    let usage := min (r.usage + d.cells * airedIn a) 16777215
    let total := min (r.periodTotal + amount) 4294967295
    let crossed := fun (level : Nat) => level != 0 && decide (r.usage < level) && decide (level ≤ usage)
    let notice := fun (high : Bool) =>
      { seq := 0, kind := .quotaNotice, number := r.number, delivery := none, attempt := none, cells := none,
        watchHigh := some high, amount := 0, credit := false, offpeak := false, totalAfter := total,
        usageAfter := usage, tallies := none : BillingRecord }
    let last : BillingRecord :=
      { seq := 0, kind := .attempt, number := r.number,
        delivery := some (BitVec.ofFin k, (s.store.slots[k.val]).gen), attempt := some a.number,
        cells := some (d.cells, airedIn a), watchHigh := none, amount := amount, credit := false, offpeak := false,
        totalAfter := total, usageAfter := usage, tallies := none }
    if airedIn a = 0 then s
    else
      recorded ((if crossed p.lowWatch then [notice false] else [])
          ++ (if crossed p.highWatch then [notice true] else []) ++ [last])
        { s with directory := s.directory.set d.subscriber { r with
            usage := usage, periodTotal := total,
            saturated := r.saturated || decide (4294967295 < r.periodTotal + amount),
            warnLow := r.warnLow || crossed p.lowWatch, warnHigh := r.warnHigh || crossed p.highWatch } }
  | none => s

/-- R63: the delivery ends DELIVERED. -/
def endedDelivered (k : Fin 256) (d : Delivery) (s : State) : State :=
  { s with
    directory := s.directory.modify d.subscriber fun r => { r with live := r.live - 1 }
    store := slotEnded k s.store }

/-- R63, R123: the delivery ends EXPIRED: the missed count rises, and the plan's refund of the retry charges, when above
0, is credited with its record. -/
def endedExpired (k : Fin 256) (d : Delivery) (s : State) : State :=
  match s.directory[d.subscriber]? with
  | some r =>
    let credit := d.retryCharges * (s.plans[r.plan.val]).missRefund / 100
    let record : BillingRecord :=
      { seq := 0, kind := .missCredit, number := r.number,
        delivery := some (BitVec.ofFin k, (s.store.slots[k.val]).gen), attempt := none, cells := none,
        watchHigh := none, amount := credit, credit := true, offpeak := false, totalAfter := r.periodTotal - credit,
        usageAfter := r.usage, tallies := none }
    recorded (if credit = 0 then [] else [record]) { s with
      directory := s.directory.set d.subscriber { r with
        periodTotal := r.periodTotal - credit, live := r.live - 1, missed := min (r.missed + 1) 65535 }
      store := slotEnded k s.store }
  | none => s

/-- R105 to R107, R110: the delivery enters RETRY-WAIT with its due tick and joins the Retry Queue. -/
structure RetryWaits (k : Fin 256) (d : Delivery) (s t : State) : Prop where
  rest : t = { s with store := { s.store with
    slots := t.store.slots, retry := t.store.retry, scheduled := min (s.store.scheduled + 1) 65535 } }
  slots : ∀ p : Plan, p = planAt s d.subscriber → t.store.slots = s.store.slots.set k.val
    (Slot.mk (s.store.slots[k.val]).gen (some { d with
      attempt := none, state := .retryWait
      due := some (s.tick + BitVec.ofNat 32
        (100 * (min (p.backoffBase * 2 ^ (max d.counted 1 - 1)) p.backoffCap + k.val % 4))) }))
  queued : k ∈ t.store.retry
  others : t.store.retry.filter (fun j => j != k) = s.store.retry.filter fun j => j != k

/-- R61, R62: the attempt `a` of the delivery `d` in slot `k`, closed with the outcome `o` and with every zone resolved,
settles: it is counted and charged, or void, and the delivery ends DELIVERED or EXPIRED or waits to retry. -/
structure Settles (k : Fin 256) (d : Delivery) (a : Attempt) (o : AttemptOutcome) (s t : State) : Prop where
  acked : o = .acked → t = endedDelivered k (deliveryCharged d a s) (attemptCharged k d a s)
  expired : o = .missed →
    d.expiry = true ∨ (deliveryCharged d a s).counted = (planAt s d.subscriber).maxAttempts →
    t = endedExpired k (deliveryCharged d a s) (attemptCharged k d a s)
  retried : o = .missed → d.expiry = false →
    (deliveryCharged d a s).counted ≠ (planAt s d.subscriber).maxAttempts →
    RetryWaits k (deliveryCharged d a s) (attemptCharged k d a s) t

/-- R60, R61: the close of the attempt leaves no entry unresolved: every zone is resolved, or is the own zone in ACCEPTED
whose request is QUEUED or gone, so that it is withdrawn at once. -/
structure CloseSettles (k : Fin 256) (d : Delivery) (a : Attempt) (s : State) : Prop where
  record : (s.directory[d.subscriber]?).isSome = true
  zones : (a.zones.map (·.zone)).Nodup
  done : ∀ z ∈ a.zones, unresolved z.state = false ∨ (z.state = .accepted ∧ isOwn s z.zone = true
    ∧ (findAir s (tagFor s k a.number)).all (fun x => x.state == .queued) = true)

/-- R60, R54: the Air Scheduler after such a close: the own zone's request, if ACCEPTED, is withdrawn. -/
def closedAir (k : Fin 256) (a : Attempt) (s : State) : Air :=
  if a.zones.any (fun z => z.state == ZoneState.accepted) then airWithdrawn (tagFor s k a.number) s else s.air

/-- R98, R99, R57, R56, R60, R61: what is done with a report of the tag `g` for this station in the state `s`. `base` is
the state with the Matcher's counts and nothing else done, `n` the counts before, `out` what the event answers. -/
def ReportMatched (g : Tag) (n : MatcherCounts) (base : MatcherCounts → State) (s : State)
    (out : Host.Outcome State Fault Refusal) : Prop :=
  ((s.store.slots[g.slot.toNat]).held = none ∨ (s.store.slots[g.slot.toNat]).gen ≠ g.gen →
    out = .next (base { n with stale := min (n.stale + 1) 65535 }))
  ∧ ∀ d : Delivery, s.store.slots[g.slot.toNat] = { gen := g.gen, held := some d } →
    (d.issued = false ∨ d.counted + 1 < g.attempt.toNat →
      out = .next (base { n with stale := min (n.stale + 1) 65535 }))
    ∧ (d.issued = true → g.attempt.toNat ≤ d.counted + 1 →
      (d.state = .retryWait ∨ d.state = .issuing →
        out = .next (endedDelivered g.slot.toFin d (base { n with ackDirect := min (n.ackDirect + 1) 65535 })))
      ∧ (∀ a, d.state = .settling → d.attempt = some a → a.outcome = some .missed →
        out = .next { base { n with ackTurned := min (n.ackTurned + 1) 65535 } with
          store := { s.store with slots := s.store.slots.set g.slot.toNat (Slot.mk g.gen (some { d with
            attempt := some { a with outcome := some .acked } })) } })
      ∧ (∀ a, d.state = .settling → d.attempt = some a → a.outcome = some .acked →
        out = .next (base { n with ackDuplicate := min (n.ackDuplicate + 1) 65535 }))
      ∧ ∀ (a : Attempt) (closed : State), d.state = .airPending ∨ d.state = .awaitAck → d.attempt = some a →
        closed = base { n with ackClosed := min (n.ackClosed + 1) 65535 } →
        ((∃ z ∈ a.zones, z.state = .sent) → (∀ z ∈ a.zones, z.state ≠ .accepted) →
          out = .next { closed with
            store := { s.store with slots := s.store.slots.set g.slot.toNat (Slot.mk g.gen (some { d with
              state := .settling, attempt := some { a with outcome := some .acked, ackDue := none } })) } })
        ∧ (CloseWaits g.slot.toFin a s → ∃ t, out = .next t ∧ ClosesAttempt g.slot.toFin d a .acked closed t)
        ∧ (CloseSettles g.slot.toFin d a s → ∃ t, out = .next t
          ∧ Settles g.slot.toFin d a .acked { closed with air := closedAir g.slot.toFin a s } t))

/-! ## The host's commands -/

/-- The code, the parameter count and the parameters of a command that the host sends (11_formats.md). -/
def hostCommand : Instr → Option (Byte × Nat × List Byte)
  | .poll p => some (0x00, 0, p)
  | .loadConfig p => some (0x01, 19, p)
  | .loadPlan p => some (0x02, 27, p)
  | .loadRange p => some (0x03, 7, p)
  | .loadSubscriber p => some (0x04, 14, p)
  | .join p => some (0x05, 0, p)
  | .leave p => some (0x06, 0, p)
  | .restart p => some (0x07, 0, p)
  | .setState p => some (0x08, 4, p)
  | .readSubscriber p => some (0x09, 3, p)
  | .takeRecords p => some (0x0A, 1, p)
  | .closePeriod p => some (0x0B, 0, p)
  | .readCounts p _ => some (0x0C, 1, p)
  | .clearFaults p => some (0x0D, 1, p)
  | _ => none

/-- R178: the states in which the host's command of a code is accepted. -/
def acceptedIn (code : Byte) (a : StationState) : Bool :=
  if code.toNat ∈ [1, 2, 3, 4] then a == .unconfigured || a == .configured
  else if code = 5 then a == .configured
  else if code = 6 then a == .onBus
  else if code = 7 ∨ code = 0x0B then a != .unconfigured
  else true

/-- The supervisory port acts on the frame that ends: RESET_N holds the station neither now nor since the frame began
(R171, R186). -/
abbrev portActs (s : State) : Prop := s.life.held = false ∧ s.port.frame ≠ .ignored

/-- The state in which a host's command is executed: READ-COUNTS finds the bus with the characters heard taken and the
run in progress measured (R137, R148, R154). -/
def foundBy : Instr → State → State
  | .readCounts _ seen, s => atReading seen s
  | _, s => s

/-- The state with the response of an executed frame pending, both transfer-fault flags clear (R174). -/
def answered (previous : Previous) (result : Result) (data : List Byte) (s : State) : State :=
  { s with port := { s.port with
      response := { previous := previous, result := result, crcFault := false, lengthFault := false, data := data },
      frame := .closed } }

end Sys2Proof.Machine
end

