-- ==== Sys2Proof/Certificates/Slice0/Obligations.lean ====
section
/-! DEFINITION. The statements for the provers. Each is over every state; a hypothesis is on the state and the operands
alone. `{ s with … }` in a conclusion is the frame: every part of the state that it does not name is unchanged. -/

open Sys2Proof Sys2Proof.Machine

/-! ## Steps, power and resets -/

/-- The queue is first in, first out: a step runs the command at its front, with the queue's rest. On an empty queue a step
is one tick of the clock (R1), by which a verdict character that has been sent leaves its line's shift stage (R38), and which
samples RESET_N: the second consecutive sample at a new level recognises it, a high one ending the hold and a low one, after
a recognised high one, making a warm reset and holding the station (R186, R187).
The model's choice: notes/assumptions/3.md, notes/assumptions/8.md, notes/assumptions/28.md. -/
def Obligations.StepRunsFrontCommand : Prop :=
  (∀ (c : Instr) (rest : List Instr) (s : State), s.pending = c :: rest → step s = exec c { s with pending := rest })
  ∧ ∀ s : State, s.pending = [] → ∃ t, step s = .next t
    ∧ t.life.sample = some s.pins.resetN ∧ t.pins = s.pins ∧ t.tick = s.tick + 1 ∧ t.pending = []
    ∧ ∀ ticked : Life → State, ticked = (fun l => { s with
        tick := s.tick + 1, intake := { s.intake with lines := t.intake.lines },
        life := { l with sample := some s.pins.resetN } }) →
      (s.life.sample ≠ some s.pins.resetN ∨ s.life.recognised = some s.pins.resetN → t = ticked s.life)
      ∧ (s.pins.resetN = true → s.life.sample = some true → s.life.recognised ≠ some true →
        t = ticked { s.life with recognised := some true, held := false })
      ∧ (s.pins.resetN = false → s.life.sample = some false →
        (s.life.recognised = none → t = { ticked { s.life with recognised := some false, held := true } with
          port := { s.port with frame := if s.port.frame = .closed then .closed else .ignored } })
        ∧ (s.life.recognised = some true → t.life.held = true ∧ t.life.recognised = some false
          ∧ WarmResetLeaves .pin { s with tick := s.tick + 1 } t
          ∧ t.port.response = { previous := .none, result := .done, crcFault := false, lengthFault := false, data := [] }
          ∧ t.port.frame = (if s.port.frame = .closed then .closed else .ignored)))
      ∧ (s.pins.resetN = true ∨ s.life.sample ≠ some false ∨ s.life.recognised ≠ some true →
        ∀ (k : Fin 8) (l : Line), l = s.intake.lines[k.val] →
          (l.txShift = none → t.intake.lines[k.val] = l)
          ∧ ∀ c, l.txShift = some c → t.intake.lines[k.val] = { l with txShift :=
              if (if c.rate = some .r300 then 4 else 1) ≤ (s.tick + 1 - c.since).toNat then none else some c })

/-- R188, with R4, R8, R19, R39, R41, R67, R93, R103, R130, R155, R170: the power-on state of every block: nothing loaded,
every slot free under generation 0, every line IDLE with its receiver, entry, timer and transmitter empty, every queue,
FIFO and table empty, every peer ABSENT and never heard, every counter 0, no fault latched, ATTN_N high.
The model's choice, for no frame on the supervisory port, no dominant run on the bus and no sample of RESET_N:
notes/assumptions/21.md. -/
def Obligations.ResetIsPowerOnState : Prop :=
  (State.reset.directory = [] ∧ State.reset.ranges = [] ∧ State.reset.life.config = none)
    ∧ (∀ k : Fin 16, State.reset.plans[k.val] = Plan.powerOn)
    ∧ ((∀ k : Fin 256, State.reset.store.slots[k.val] = { gen := 0, held := none })
      ∧ State.reset.store.issue = [] ∧ State.reset.store.retry = [])
    ∧ (∀ k : Fin 8, State.reset.intake.lines[k.val] =
      { seized := false, disagree := 0, state := .idle, rate := none, rateFallback := false, overrun := false,
        measuring := none, rxShift := none, fifo := [], entry := none, timer := none, lookup := none, txBuffer := none,
        txShift := none, counts := LineCounts.zero })
    ∧ (State.reset.air.regular = [] ∧ State.reset.air.priority = [] ∧ State.reset.air.cycle = none
      ∧ State.reset.air.timer = none ∧ State.reset.air.key = false)
    ∧ (State.reset.matcher.fifo = [] ∧ State.reset.matcher.run = .idle)
    ∧ State.reset.billing = { queue := [], seq := 0, lost := 0, walk := none }
    ∧ State.reset.bus =
      { answers := [], requests := [], waiting := [], tx := .idle, rx := none, run := 0, drove := false,
        pendingMark := false, stopped := false, counts := BusCounts.zero }
    ∧ (State.reset.exchange.table = [] ∧ State.reset.exchange.seq = 0 ∧ State.reset.exchange.listenDue = none
      ∧ State.reset.exchange.intervalDue = none
      ∧ ∀ k : Fin 24, State.reset.exchange.presence[k.val] =
        { present := false, lastHeard := 0, absenceDue := none, airing := false, reported := .none })
    ∧ (State.reset.intake.counts = IntakeCounts.zero ∧ State.reset.store.scheduled = 0 ∧ State.reset.store.released = 0
      ∧ State.reset.air.cycleCounts = CycleCounts.zero ∧ State.reset.air.counts = AirCounts.zero
      ∧ State.reset.matcher.counts = MatcherCounts.zero ∧ State.reset.exchange.counts = ExchangeCounts.zero)
    ∧ State.reset.port =
      { response := { previous := .none, result := .done, crcFault := false, lengthFault := false, data := [] },
        frame := .closed, recordLost := false, busStuck := false }
    ∧ (State.reset.life.state = .unconfigured ∧ State.reset.life.lastReset = .powerOn)
    ∧ (State.reset.life.sample = none ∧ State.reset.life.recognised = none)
    ∧ State.reset.tick = 0 ∧ attention State.reset = false

/-- R188, R186: POWER-ON brings every block to its power-on state, and a low RESET_N holds the station there; the pin levels
and the commands that wait are the outside's. The rise of RESET_N, recognised
at the second consecutive high sample that follows another recognised level, or none, ends the hold and changes nothing else;
a level that comes while it is the recognised one only stands at the pin. While the station is held the supervisory port
executes nothing, and a frame that meets the hold, whether it was in progress at its beginning or began in it, is ignored to
its end, even past the end of the hold.
The model's choice: notes/assumptions/4.md, notes/assumptions/6.md, notes/assumptions/28.md. -/
def Obligations.PowerOnAndEndOfHold : Prop :=
  (∀ (low : Bool) (s : State), exec (.powerOn low) s =
    .next { State.reset with
      pending := s.pending, pins := { s.pins with resetN := !low },
      life := { state := .unconfigured, lastReset := .powerOn, held := low, sample := none, recognised := none,
                config := none } })
  ∧ (∀ s : State, s.life.recognised ≠ some true → exec .resetNRise s = .next { s with
      pins := { s.pins with resetN := true },
      life := { s.life with held := false, sample := some true, recognised := some true } })
  ∧ (∀ (c : Instr) (level : Bool) (s : State), (c = .resetNFall ∧ level = false) ∨ (c = .resetNRise ∧ level = true) →
    s.life.recognised = some level → exec c s = .next { s with pins := { s.pins with resetN := level } })
  ∧ (∀ s : State, s.life.held = true → s.port.frame = .closed →
    exec .frameStart s = .next { s with port := { s.port with frame := .ignored } })
  ∧ (∀ (c : Instr) (code : Byte) (n : Nat) (p : List Byte) (s : State), hostCommand c = some (code, n, p) →
    (s.life.held = true → s.port.frame ≠ .ignored → exec c s = .next s)
    ∧ (s.port.frame = .ignored → exec c s = .next { foundBy c s with port := { s.port with frame := .closed } }))
  ∧ ∀ (bits : List Bool) (s : State), s.port.frame = .ignored → bits.length < 32 →
    exec (.transferFaultFrame bits) s = .next { s with port := { s.port with frame := .closed } }

/-- R186, R187: the fall of RESET_N, recognised at the second consecutive low sample that follows a recognised high level, makes
a warm reset with kind PIN, holds the station, leaves the pending response NONE, and abandons a frame in progress on the
supervisory port; one that follows no recognised level, at power-on, holds the station with no reset. RESTART makes one with kind COMMAND, and its own
response is the pending response.
The model's choice: notes/assumptions/28.md. -/
def Obligations.WarmResetsKeepAndClear : Prop :=
  (∀ s : State, s.life.recognised = some true → ∃ t, exec .resetNFall s = .next t ∧ WarmResetLeaves .pin s t
    ∧ t.life.held = true ∧ t.life.sample = some false ∧ t.life.recognised = some false
    ∧ t.port.response = { previous := .none, result := .done, crcFault := false, lengthFault := false, data := [] }
    ∧ t.port.frame = (if s.port.frame = .closed then .closed else .ignored)
    ∧ t.pins = { s.pins with resetN := false } ∧ t.pending = s.pending)
  ∧ (∀ s : State, s.life.recognised = none → exec .resetNFall s = .next { s with
      pins := { s.pins with resetN := false },
      life := { s.life with held := true, sample := some false, recognised := some false },
      port := { s.port with frame := if s.port.frame = .closed then .closed else .ignored } })
  ∧ (∀ s : State, portActs s → s.life.state ≠ .unconfigured →
    ∃ t, exec (.restart []) s = .next t ∧ WarmResetLeaves .command s t ∧ t.life.held = false
      ∧ t.life.sample = s.life.sample ∧ t.life.recognised = s.life.recognised
      ∧ t.port.response = { previous := .code 0x07, result := .done, crcFault := false, lengthFault := false, data := [] }
      ∧ t.port.frame = .closed ∧ t.pins = s.pins ∧ t.pending = s.pending)

/-! ## The supervisory port -/

/-- R171, R174, R176: at the falling edge of select the response is put together: the status word with its live fields from
the station as it stands, the length, the data and the CRC. The data output has its bits, the most significant of each byte
first, the first one from the fall of select and the next at each falling edge of the clock; past the CRC they are 0, and with
select high it is released. R171, R172, R175: the bits taken at the rising edges make bytes in the same order, and a partial
byte at the end counts for none. A frame with a transfer fault is not executed: the pending response keeps its command, result
and data, and its flags show the fault, LENGTH before CRC; the bytes after the CRC of a whole frame, whole or partial, make no
fault.
The model's choice: notes/assumptions/6.md. -/
def Obligations.PortFramesAreAnswered : Prop :=
  (∀ s : State, s.life.held = false → s.port.frame = .closed →
    ∀ body : List Byte, body =
        [ BitVec.ofNat 8 (stateCode s.life.state + 8 * resetCode s.life.lastReset
            + (if s.port.recordLost then 32 else 0) + (if s.port.busStuck then 64 else 0)
            + (if s.billing.walk = none then 0 else 128)),
          BitVec.ofNat 8 s.billing.queue.length,
          BitVec.ofNat 8 ((if s.port.response.crcFault then 1 else 0) + (if s.port.response.lengthFault then 2 else 0)
            + 16 * resultCode s.port.response.result),
          previousCode s.port.response.previous,
          BitVec.ofNat 8 s.port.response.data.length ] ++ s.port.response.data →
      exec .frameStart s =
        .next { s with port := { s.port with frame := .shifting (body ++ be2 (crc body).toNat) } })
  ∧ (∀ (out : List Byte) (i : Nat) (s : State), s.port.frame = .shifting out →
    (∀ b, out[i]? = some b → ∀ j, j < 8 → dataOut s (8 * i + j) = some (b.getLsbD (7 - j)))
    ∧ (out.length ≤ i → ∀ j, j < 8 → dataOut s (8 * i + j) = some false))
  ∧ (∀ (edges : Nat) (s : State), s.port.frame = .closed ∨ s.port.frame = .ignored → dataOut s edges = none)
  ∧ (∀ (bits part : List Bool) (bytes : List Byte) (s : State), portActs s → part.length < 8 →
    bits = (bytes.flatMap fun b => [b.getLsbD 7, b.getLsbD 6, b.getLsbD 5, b.getLsbD 4, b.getLsbD 3, b.getLsbD 2,
      b.getLsbD 1, b.getLsbD 0]) ++ part →
    (bytes.length < 4 ∨ 32 < (byteAt bytes 1).toNat ∨ bytes.length < 4 + (byteAt bytes 1).toNat →
      exec (.transferFaultFrame bits) s = .next { s with port := { s.port with
        response := { s.port.response with crcFault := false, lengthFault := true }, frame := .closed } })
    ∧ (∀ n : Nat, n = (byteAt bytes 1).toNat → n ≤ 32 → 4 + n ≤ bytes.length →
      ((bytes.drop (2 + n)).take 2 ≠ be2 (crc (bytes.take (2 + n))).toNat →
        exec (.transferFaultFrame bits) s = .next { s with port := { s.port with
          response := { s.port.response with crcFault := true, lengthFault := false }, frame := .closed } })
      ∧ ((bytes.drop (2 + n)).take 2 = be2 (crc (bytes.take (2 + n))).toNat →
        exec (.transferFaultFrame bits) s = .next s)))

/-- R173, R178, R179: a host's command in a state that does not accept it gives REFUSED-STATE, one with the wrong number of
parameters BAD-PARAM, a command byte that names no command BAD-PARAM; none changes any block (`foundBy` is what the bus
has brought by the time of a READ-COUNTS). POLL gives DONE and changes nothing but the pending response.
The model's choice: notes/assumptions/5.md, notes/assumptions/6.md. -/
def Obligations.RefusedCommandChangesNothing : Prop :=
  (∀ (c : Instr) (code : Byte) (n : Nat) (p : List Byte) (s : State),
    hostCommand c = some (code, n, p) → portActs s →
      (acceptedIn code s.life.state = false → exec c s = .next (answered (.code code) .refusedState [] (foundBy c s)))
      ∧ (acceptedIn code s.life.state = true → p.length ≠ n →
        exec c s = .next (answered (.code code) .badParam [] (foundBy c s))))
  ∧ ((∀ (code : Byte) (p : List Byte) (s : State), portActs s → 0x0E ≤ code.toNat →
      exec (.unknownCommand code p) s = .next (answered .noCommand .badParam [] s))
    ∧ ∀ s : State, portActs s → exec (.poll []) s = .next (answered (.code 0x00) .done [] s))

/-- R180, R181, R190, R20, R136, R170: an accepted LOAD-CONFIG holds the record it carries after the clamps, enters
CONFIGURED, and restarts the lines (apart from their transmitters and counters), the bus controller (apart from its
counters; a frame under reception is discarded and not counted), the presence table and the reverse port, which is left
with no report under assembly. A station number, slot time, mode, bus rate or line byte outside its values gives
BAD-PARAM and leaves every block as it was.
The model's choice: notes/assumptions/13.md. -/
def Obligations.LoadConfigHoldsRecord : Prop :=
  (∀ (p : List Byte) (s : State), portActs s → acceptedIn 0x01 s.life.state = true → p.length = 19 →
    1 ≤ (byteAt p 0).toNat → (byteAt p 0).toNat ≤ 24 → (byteAt p 2).toNat ≤ 1 → 1 ≤ (byteAt p 5).toNat →
    (byteAt p 6).toNat ≤ 3 → (∀ k : Fin 8, (byteAt p (10 + k.val)).toNat / 4 % 32 = 0) →
    ∃ c t, exec (.loadConfig p) s = .next (answered (.code 0x01) .done [] t)
      ∧ t = { s with life := { s.life with config := some c, state := .configured }, intake := t.intake, bus := t.bus,
                     exchange := { s.exchange with presence := Vector.replicate 24 Presence.fresh },
                     matcher := { s.matcher with run := .idle } }
      ∧ c.station = (byteAt p 0).toNat ∧ (c.airing = true ↔ byteAt p 1 ≠ 0)
      ∧ (c.mode = .aligned ↔ byteAt p 2 = 1) ∧ (∀ k : Fin 8, c.slotMask.getLsbD k.val = (byteAt p 4).getLsbD k.val
        ∧ c.slotMask.getLsbD (k.val + 8) = (byteAt p 3).getLsbD k.val)
      ∧ c.slotTime = (byteAt p 5).toNat
      ∧ c.busRate = (if byteAt p 6 = 0 then .b62500 else if byteAt p 6 = 1 then .b125000
          else if byteAt p 6 = 2 then .b250000 else .b500000)
      ∧ c.presenceTimeout = max 1 (min 60 (byteAt p 7).toNat) ∧ c.replyTimeout = max 5 (byteAt p 8).toNat
      ∧ c.entryTimeout = max 1 (min 60 (byteAt p 9).toNat)
      ∧ (∀ k : Fin 8, lineRateCode c.lines[k.val].defaultRate = (byteAt p (10 + k.val)).toNat % 4
        ∧ c.lines[k.val].activeHigh = (byteAt p (10 + k.val)).getLsbD 7)
      ∧ c.minQuality = min 15 (byteAt p 18).toNat
      ∧ t.intake.counts = s.intake.counts
      ∧ (∀ k : Fin 8, t.intake.lines[k.val] = { Line.fresh with
          txBuffer := s.intake.lines[k.val].txBuffer, txShift := s.intake.lines[k.val].txShift,
          counts := s.intake.lines[k.val].counts })
      ∧ t.bus = { answers := [], requests := [], waiting := [], tx := .idle, rx := none, run := 0, drove := false,
                  pendingMark := false, stopped := false, counts := s.bus.counts })
  ∧ (∀ (p : List Byte) (s : State), portActs s → acceptedIn 0x01 s.life.state = true → p.length = 19 →
    ((byteAt p 0).toNat = 0 ∨ 24 < (byteAt p 0).toNat ∨ 1 < (byteAt p 2).toNat ∨ (byteAt p 5).toNat = 0
      ∨ 3 < (byteAt p 6).toNat ∨ ∃ k : Fin 8, (byteAt p (10 + k.val)).toNat / 4 % 32 ≠ 0) →
    exec (.loadConfig p) s = .next (answered (.code 0x01) .badParam [] s))

/-- R112: LOAD-PLAN replaces one plan whole with its clamped values; every other plan and every other block is as it
was. A plan number above 15 gives BAD-PARAM. -/
def Obligations.LoadPlanReplacesPlan : Prop :=
  ∀ (p : List Byte) (s : State), portActs s → acceptedIn 0x02 s.life.state = true → p.length = 27 →
    (∀ h : (byteAt p 0).toNat < 16,
      exec (.loadPlan p) s = .next (answered (.code 0x02) .done [] { s with
        plans := s.plans.set (byteAt p 0).toNat
          { acceptFee := field p 1 2, cellFee := min 4095 (field p 3 2), retryPercent := min 200 (byteAt p 5).toNat,
            discount := min 100 (byteAt p 6).toNat, allowance := field p 7 3,
            lowWatch := min (field p 10 3) (field p 13 3), highWatch := field p 13 3,
            policy := if (byteAt p 16).getLsbD 0 = true ∧ field p 7 3 ≠ 0 then .hard else .soft,
            messageCap := field p 17 2, missRefund := min 100 (byteAt p 19).toNat,
            maxAttempts := max 1 (min 7 (byteAt p 20).toNat), ackWait := max 5 (min 120 (byteAt p 21).toNat),
            backoffBase := max 1 (byteAt p 22).toNat, backoffCap := max 1 (min 3600 (field p 23 2)),
            lifetime := max 1 (min 1440 (field p 25 2)), widening := (byteAt p 16).getLsbD 1,
            finalSweep := (byteAt p 16).getLsbD 2, priorityAllowed := (byteAt p 16).getLsbD 3 } }))
    ∧ (16 ≤ (byteAt p 0).toNat → exec (.loadPlan p) s = .next (answered (.code 0x02) .badParam [] s))

/-- R182: a new range that shares no number with a held one is inserted while the map has room, and the map stays sound. A
range loaded again under its own bounds changes its station, or is removed at station 0, unless a record that is not
displaced now would lie outside every own range after it. Bounds or a station out of range, and under bounds that no held
range has, station 0, a number shared with a held range, and a map of 16 ranges give BAD-PARAM and change nothing. -/
def Obligations.LoadRangeInsertsOrChanges : Prop :=
  (∀ (p : List Byte) (r : Range) (s : State), portActs s → acceptedIn 0x03 s.life.state = true → p.length = 7 →
    r = { first := field p 0 3, last := field p 3 3, station := (byteAt p 6).toNat } → r.first ≤ r.last →
    r.last ≤ 9999999 → 1 ≤ r.station → r.station ≤ 24 → (∀ x ∈ s.ranges, r.last < x.first ∨ x.last < r.first) →
    MapSound s.ranges → s.ranges.length < 16 →
    ∃ m, exec (.loadRange p) s = .next (answered (.code 0x03) .done [] { s with ranges := m })
      ∧ m.Perm (r :: s.ranges) ∧ MapSound m)
  ∧ (∀ (p : List Byte) (x : Range) (after : List Range) (s : State), portActs s →
    acceptedIn 0x03 s.life.state = true → p.length = 7 → MapSound s.ranges → x ∈ s.ranges → x.first = field p 0 3 →
    x.last = field p 3 3 → (byteAt p 6).toNat ≤ 24 →
    after = (if byteAt p 6 = 0 then s.ranges.filter fun y => y.first != x.first
      else s.ranges.map fun y => if y.first = x.first then { y with station := (byteAt p 6).toNat } else y) →
    ((∀ r ∈ s.directory, inOwnRange s r.number = true → inOwnRange { s with ranges := after } r.number = true) →
      exec (.loadRange p) s = .next (answered (.code 0x03) .done [] { s with ranges := after }))
    ∧ ((∃ r ∈ s.directory, inOwnRange s r.number = true ∧ inOwnRange { s with ranges := after } r.number = false) →
      exec (.loadRange p) s = .next (answered (.code 0x03) .badParam [] s)))
  ∧ ∀ (p : List Byte) (r : Range) (s : State), portActs s → acceptedIn 0x03 s.life.state = true → p.length = 7 →
    r = { first := field p 0 3, last := field p 3 3, station := (byteAt p 6).toNat } →
    (r.last < r.first ∨ 9999999 < r.first ∨ 9999999 < r.last ∨ 24 < r.station
      ∨ ((∀ x ∈ s.ranges, ¬ (x.first = r.first ∧ x.last = r.last))
        ∧ (r.station = 0 ∨ 16 ≤ s.ranges.length ∨ ∃ x ∈ s.ranges, r.first ≤ x.last ∧ x.first ≤ r.last))) →
    exec (.loadRange p) s = .next (answered (.code 0x03) .badParam [] s)

/-- R183, R2, R3, R4: a number with a record has its static fields replaced and its accumulators kept; a new number in
an own range is inserted in number order with its accumulators at 0, or gives NOT-NOW while a walk runs. A field outside
its values, and for a new number one outside every own range or a directory of 1,024 records, give BAD-PARAM and change
nothing. -/
def Obligations.LoadSubscriberReplacesOrInserts : Prop :=
  (∀ (p : List Byte) (n : Nat) (h : (byteAt p 6).toNat < 16) (st : SubscriberState) (s : State), portActs s →
    acceptedIn 0x04 s.life.state = true → p.length = 14 → DirectorySound s.directory → n = field p 0 3 → n ≤ 9999999 →
    field p 3 3 ≤ 2097151 → field p 8 3 ≠ 0 → byteAt p 7 = (if st = .active then 0 else 1) →
    ((∃ r ∈ s.directory, r.number = n) →
      exec (.loadSubscriber p) s = .next (answered (.code 0x04) .done [] { s with
        directory := s.directory.map fun r => if r.number ≠ n then r else { r with
          address := field p 3 3, plan := ⟨(byteAt p 6).toNat, h⟩, state := st,
          homeZones := BitVec.ofNat 24 (field p 8 3), wideZones := BitVec.ofNat 24 (field p 11 3) } }))
    ∧ ((∀ r ∈ s.directory, r.number ≠ n) → inOwnRange s n = true → s.directory.length < 1024 →
      (s.billing.walk = none → ∃ d, exec (.loadSubscriber p) s =
          .next (answered (.code 0x04) .done [] { s with directory := d })
        ∧ d.Pairwise (fun a b => a.number < b.number)
        ∧ d.Perm (
          { number := n, address := field p 3 3, plan := ⟨(byteAt p 6).toNat, h⟩, state := st,
            homeZones := BitVec.ofNat 24 (field p 8 3), wideZones := BitVec.ofNat 24 (field p 11 3), periodTotal := 0,
            saturated := false, usage := 0, accepted := 0, missed := 0, warnLow := false, warnHigh := false,
            live := 0 } :: s.directory))
      ∧ (s.billing.walk ≠ none → exec (.loadSubscriber p) s = .next (answered (.code 0x04) .notNow [] s))))
  ∧ ∀ (p : List Byte) (n : Nat) (s : State), portActs s → acceptedIn 0x04 s.life.state = true → p.length = 14 →
    DirectorySound s.directory → n = field p 0 3 →
    (9999999 < n ∨ 2097151 < field p 3 3 ∨ 16 ≤ (byteAt p 6).toNat ∨ 2 ≤ (byteAt p 7).toNat ∨ field p 8 3 = 0
      ∨ ((∀ r ∈ s.directory, r.number ≠ n) ∧ (inOwnRange s n = false ∨ 1024 ≤ s.directory.length))) →
    exec (.loadSubscriber p) s = .next (answered (.code 0x04) .badParam [] s)

/-- R16, R17: SET-STATE sets the state field of the record of its number and nothing else; READ-SUBSCRIBER changes
nothing and answers with the record's 29 bytes; a number with no record gives BAD-PARAM to both. -/
def Obligations.SetStateAndReadSubscriber : Prop :=
  ∀ (p : List Byte) (s : State), portActs s → DirectorySound s.directory →
    (∀ st : SubscriberState, p.length = 4 → byteAt p 3 = (if st = .active then 0 else 1) →
      (∃ r ∈ s.directory, r.number = field p 0 3) →
      exec (.setState p) s = .next (answered (.code 0x08) .done [] { s with
        directory := s.directory.map fun r => if r.number = field p 0 3 then { r with state := st } else r }))
    ∧ (p.length = 4 → (∀ r ∈ s.directory, r.number ≠ field p 0 3) →
      exec (.setState p) s = .next (answered (.code 0x08) .badParam [] s))
    ∧ (∀ (i : Nat) (r : Subscriber), p.length = 3 → s.directory[i]? = some r → r.number = field p 0 3 →
      exec (.readSubscriber p) s = .next (answered (.code 0x09) .done
        (be2 i ++ be3 r.number ++ be3 r.address ++ be1 r.plan.val ++ be1 (if r.state = .active then 0 else 1)
          ++ be3 r.homeZones.toNat ++ be3 r.wideZones.toNat ++ be4 r.periodTotal ++ be3 r.usage ++ be2 r.accepted
          ++ be2 r.missed ++ be1 ((if r.saturated then 1 else 0) + (if r.warnLow then 2 else 0)
            + (if r.warnHigh then 4 else 0) + (if inOwnRange s r.number then 0 else 8)) ++ be1 r.live) s))
    ∧ (p.length = 3 → (∀ r ∈ s.directory, r.number ≠ field p 0 3) →
      exec (.readSubscriber p) s = .next (answered (.code 0x09) .badParam [] s))

/-- R129: TAKE-RECORDS removes the oldest records of the queue, as many as its count of 1 to 4 or as many as are queued,
and its response carries them, 27 bytes each; another count gives BAD-PARAM and removes nothing. -/
def Obligations.TakeRecordsRemovesOldest : Prop :=
  ∀ (n : Byte) (s : State), portActs s →
    (1 ≤ n.toNat → n.toNat ≤ 4 → ∃ data, exec (.takeRecords [n]) s =
        .next (answered (.code 0x0A) .done data { s with
          billing := { s.billing with queue := s.billing.queue.drop n.toNat } })
      ∧ data = (s.billing.queue.take n.toNat).flatMap recordBytes
      ∧ data.length = 27 * min n.toNat s.billing.queue.length)
    ∧ (n.toNat = 0 ∨ 4 < n.toNat → exec (.takeRecords [n]) s = .next (answered (.code 0x0A) .badParam [] s))

/-- R131, R132, R133: CLOSE-PERIOD starts a walk at index 0, gives NOT-NOW while one runs and REFUSED-STATE in
UNCONFIGURED; on an empty directory the walk has finished at once. A walk step, with more than 16 billing entries free,
produces one PERIOD-CLOSE record with the totals as they stand, zeroes them, and advances or finishes the walk; with 16
or fewer free nothing changes.
The model's choice: notes/assumptions/4.md. -/
def Obligations.PeriodIsClosed : Prop :=
  (∀ s : State, portActs s →
    (s.life.state = .unconfigured → exec (.closePeriod []) s = .next (answered (.code 0x0B) .refusedState [] s))
    ∧ (s.life.state ≠ .unconfigured → s.billing.walk ≠ none →
      exec (.closePeriod []) s = .next (answered (.code 0x0B) .notNow [] s))
    ∧ (s.life.state ≠ .unconfigured → s.billing.walk = none →
      exec (.closePeriod []) s = .next (answered (.code 0x0B) .done [] { s with
        billing := { s.billing with walk := if s.directory = [] then none else some 0 } })))
  ∧ (∀ (offpeak : Bool) (i : Nat) (r : Subscriber) (s : State), s.billing.walk = some i → s.directory[i]? = some r →
    (s.billing.queue.length < 112 → exec (.periodCloseStep offpeak) s = .next { s with
      pins := { s.pins with offpeak := offpeak },
      directory := s.directory.set i { r with
        periodTotal := 0, usage := 0, accepted := 0, missed := 0, saturated := false, warnLow := false,
        warnHigh := false },
      billing := { s.billing with
        queue := s.billing.queue ++ [
          { seq := s.billing.seq, kind := .periodClose, number := r.number, delivery := none, attempt := none,
            cells := none, watchHigh := none, amount := r.periodTotal, credit := false, offpeak := offpeak,
            totalAfter := r.periodTotal, usageAfter := r.usage, tallies := some (r.accepted, r.missed) }],
        seq := s.billing.seq + 1, walk := if i + 1 = s.directory.length then none else some (i + 1) } })
    ∧ (112 ≤ s.billing.queue.length → exec (.periodCloseStep offpeak) s = .next s))

/-- R184, R39, R86, R87, R102, R110, R130, R154, R169: READ-COUNTS clears and changes nothing (`t` is the station as the
command finds it, with what the bus has brought by then); each of the six groups has its figures in its layout, of its
length, and a group code above 5 gives BAD-PARAM. The walk position while no walk runs is a free value.
The model's choice: notes/assumptions/5.md, notes/assumptions/9.md, notes/assumptions/24.md. -/
def Obligations.ReadCountsChangesNothing : Prop :=
  ∀ (g : Byte) (seen : LineSeen) (s t : State), portActs s → t = atReading seen s →
    t = { s with bus := { s.bus with rx := t.bus.rx, run := t.bus.run, tx := t.bus.tx } }
    ∧ (5 < g.toNat → exec (.readCounts [g] seen) s = .next (answered (.code 0x0C) .badParam [] t))
    ∧ (g.toNat ≤ 5 → ∃ data, exec (.readCounts [g] seen) s = .next (answered (.code 0x0C) .done data t)
      ∧ [138, 51, 37, 8, 33, 198][g.toNat]? = some data.length
      ∧ ∀ (code : LineState → Nat) (rate : LineRate → Nat) (reported : ReportedState → Nat) (bit : Bool → Nat),
      code = (fun x => match x with
        | .idle => 0 | .rate => 1 | .awaitOpen => 2 | .collect => 3 | .lookup => 4 | .halted => 5) →
      rate = (fun x => match x with | .r300 => 0 | .r1200 => 1 | .r2400 => 2 | .r9600 => 3) →
      reported = (fun x => match x with | .none => 0 | .onBus => 1 | .leaving => 2) →
      bit = (fun b => if b then 1 else 0) →
      (g = 0 → ∀ n, n = s.intake.counts → data =
        (s.intake.lines.toList.flatMap fun l =>
          be2 l.counts.seizures ++ be2 l.counts.fallbacks ++ be2 l.counts.overruns ++ be2 l.counts.abandoned
            ++ be2 l.counts.badTaken ++ be1 (code l.state) ++ be1 ((l.rate.map rate).getD 0xFF)
            ++ be1 (bit l.rateFallback) ++ be1 (bit l.overrun))
        ++ be2 n.accept ++ be2 n.unknown ++ be2 n.suspended ++ be2 n.quota ++ be2 n.noPriority ++ be2 n.busy
        ++ be2 n.unreachable ++ be2 n.badEntry ++ be2 n.timeout ++ be2 n.cancelDone ++ be2 n.cancelTooLate
        ++ be2 n.cancelUnknown ++ be2 n.cancelUnanswered)
      ∧ (g = 1 → ∀ n m, n = s.air.cycleCounts → m = s.air.counts → data =
        be4 n.cycles.toNat ++ be4 n.pagesAired.toNat ++ be4 n.cellsAired.toNat ++ be4 n.idleCells.toNat
        ++ be4 n.slotsSkipped.toNat ++ be4 n.priorityPages.toNat
        ++ be2 m.requestsAccepted ++ be2 m.requestsMerged ++ be2 m.refusedLeaving ++ be2 m.refusedNotZone
        ++ be2 m.refusedFull ++ be2 m.withdrawnAtOnce ++ be2 m.withdrawDeferred ++ be2 m.withdrawUnknown ++ be2 m.purged
        ++ be2 m.marksSent ++ be2 m.marksIgnored ++ be2 m.unmarkedCycles
        ++ be1 s.air.regular.length ++ be1 s.air.priority.length ++ be1 (bit s.air.cycle.isSome))
      ∧ (g = 2 → ∀ n, n = s.matcher.counts → data =
        be2 n.reportsTaken ++ be2 n.badReport ++ be2 n.lowQuality ++ be2 n.ignored ++ be2 n.fifoFull ++ be2 n.relayed
        ++ be2 n.homeAbsent ++ be2 n.purgedReports ++ be2 n.heardTaken ++ be2 n.misrouted ++ be2 n.stale
        ++ be2 n.ackClosed ++ be2 n.ackTurned ++ be2 n.ackDuplicate ++ be2 n.ackDirect ++ be1 s.matcher.fifo.length
        ++ be2 s.store.scheduled ++ be2 s.store.released ++ be2 s.store.retry.length)
      ∧ (g = 3 → ∃ position : Nat, (∀ i, s.billing.walk = some i → position = i) ∧ data =
        be2 s.billing.lost ++ be1 s.billing.queue.length ++ be2 s.billing.seq.toNat ++ be1 (bit s.billing.walk.isSome)
        ++ be2 position)
      ∧ (g = 4 → ∀ n, n = s.bus.counts → data =
        be2 n.framesTaken ++ be2 n.framesSent ++ be2 n.lostArbitration ++ be2 n.txFaults ++ be2 n.framingErrors
        ++ be2 n.lengthErrors ++ be2 n.interrupted ++ be2 n.crcErrors ++ be2 n.badSource ++ be2 n.duplicateSource
        ++ be2 n.shortBreaks ++ be2 n.marksHeard ++ be2 n.stuckEvents ++ be2 n.answersDropped
        ++ be1 s.bus.answers.length ++ be1 s.bus.requests.length ++ be1 s.bus.waiting.length ++ be1 (bit s.bus.pendingMark)
        ++ be1 (if t.bus.stopped = true then 3 else if t.bus.tx ≠ .idle then 4 else if 11 < t.bus.run then 2
            else if t.bus.rx ≠ none then 1 else 0))
      ∧ (g = 5 → ∀ n (own : Option Frame) (held : EntryKind → Nat), n = s.exchange.counts →
        own = (keptRequests t).find? (fun f => f.kind == .presence) →
        held = (fun k => s.exchange.table.countP fun e => e.key.kind == k) → data =
        be2 n.badKind ++ be2 n.misaddressed ++ be2 n.badPayload ++ be2 n.notMember ++ be2 n.late ++ be2 n.replyTimeouts
        ++ be2 n.sequenceSkips ++ be2 n.peersTimedOut ++ be2 n.leavesHeard ++ be2 n.freshJoinsHeard ++ be2 n.presenceSent
        ++ be1 (held .forward) ++ be1 (held .cancel) ++ be1 (held .airRequest) ++ be1 (held .withdraw)
        ++ [s.exchange.seq]
        ++ (s.exchange.presence.toList.flatMap fun p =>
          be1 (bit p.present) ++ be1 (bit p.airing) ++ be1 (reported p.reported) ++ be4 p.lastHeard.toNat)
        ++ be1 (match own.bind fun f => readPresence f.payload with
            | none => 0
            | some b => if b.leaving then 3 else if b.fresh then 2 else 1)
        ++ be1 (cfg s).presenceTimeout ++ be1 (cfg s).replyTimeout))

/-- R179, R177: CLEAR-FAULTS clears each selected latch and no other; a bit above the two gives BAD-PARAM; ATTN_N is low
after it exactly while a record is queued or a latch is left set. -/
def Obligations.ClearFaultsClearsSelected : Prop :=
  ∀ (b : Byte) (s : State), portActs s →
    (b.toNat < 4 → ∃ t, exec (.clearFaults [b]) s = .next t
      ∧ t = { s with port := { s.port with
          recordLost := s.port.recordLost && !b.getLsbD 0, busStuck := s.port.busStuck && !b.getLsbD 1,
          response := { previous := .code 0x0D, result := .done, crcFault := false, lengthFault := false, data := [] },
          frame := .closed } }
      ∧ (attention t = true ↔ s.billing.queue ≠ [] ∨ (s.port.recordLost = true ∧ b.getLsbD 0 = false)
          ∨ (s.port.busStuck = true ∧ b.getLsbD 1 = false)))
    ∧ (4 ≤ b.toNat → exec (.clearFaults [b]) s = .next (answered (.code 0x0D) .badParam [] s))

/-! ## The intake lines -/

/-- R21, R22, R35, R36: each sample of SEIZE that agrees with the recognised level clears the count of disagreements, each
that disagrees raises it, and at the fifth in a row a seize is recognised. A recognised release returns the line to IDLE
from every state and leaves its transmitter; in COLLECT and LOOKUP it raises ABANDONED; in LOOKUP the line's FORWARD entry
becomes a CANCEL without a verdict.
The model's choice: notes/assumptions/7.md. -/
def Obligations.SeizeAndReleaseAreRecognised : Prop :=
  (∀ (k : Fin 8) (high : Bool) (l : Line) (s : State), running s = true → l = s.intake.lines[k.val] →
    (l.seized = (high == (cfg s).lines[k.val].activeHigh) →
      exec (.seizeSample k high) s = .next (setLine k { l with disagree := 0 } s))
    ∧ (l.seized ≠ (high == (cfg s).lines[k.val].activeHigh) → l.disagree < 4 →
      exec (.seizeSample k high) s = .next (setLine k { l with disagree := l.disagree + 1 } s))
    ∧ (l.seized = false → 4 ≤ l.disagree → ∀ t : State, t = setLine k { l with
          seized := true, disagree := 0, state := .rate, rate := none, rateFallback := false, overrun := false,
          measuring := none, rxShift := none, fifo := [],
          timer := some (s.tick + BitVec.ofNat 32 (100 * (cfg s).entryTimeout)),
          counts := { l.counts with seizures := min (l.counts.seizures + 1) 65535 } } s →
      exec (.seizeRecognised k) s = .next t
        ∧ (high = (cfg s).lines[k.val].activeHigh → exec (.seizeSample k high) s = .next t)))
  ∧ (∀ (k : Fin 8) (l : Line) (s : State), running s = true → l = s.intake.lines[k.val] → l.seized = true →
    4 ≤ l.disagree → ∃ t, exec (.releaseRecognised k) s = .next t
      ∧ t = { s with intake := t.intake, bus := t.bus, exchange := t.exchange }
      ∧ t.intake = (setLine k
          { seized := false, disagree := 0, state := .idle, rate := none, rateFallback := false, overrun := false,
            measuring := none, rxShift := none, fifo := [], entry := none, timer := none, lookup := none,
            txBuffer := l.txBuffer, txShift := l.txShift,
            counts := { l.counts with abandoned :=
              if l.state = .collect ∨ l.state = .lookup then min (l.counts.abandoned + 1) 65535
              else l.counts.abandoned } } s).intake
      ∧ (l.state ≠ .lookup → t.bus = s.bus ∧ t.exchange = s.exchange)
      ∧ ∀ e : Outstanding, l.state = .lookup → l.lookup = some e.key → findEntry s e.key = some e →
          TableSound s.exchange.table →
          (∃ x ∈ t.exchange.table, x.key.kind = .cancel ∧ x.key.peer = e.key.peer ∧ x.owner = e.owner ∧ x.due = none)
            ∧ t.exchange.table.length = s.exchange.table.length)

/-- R23, R24: the first falling edge stops the calibration timer and starts the measurement; the fifth chooses the rate
by its thresholds; an overflow of the measurement, or the calibration timer before the first edge, falls back to the
line's default rate. -/
def Obligations.CalibrationChoosesRate : Prop :=
  ∀ (k : Fin 8) (l : Line) (s : State), running s = true → l = s.intake.lines[k.val] → l.state = .rate →
    (l.measuring = none → exec (.calibrationFirstEdge k) s =
      .next (setLine k { l with timer := none, measuring := some 0 } s))
    ∧ (∀ micros : Nat, l.measuring ≠ none → micros ≤ 65534 → ∃ r, exec (.rateChosen k micros) s =
        .next (setLine k { l with state := .awaitOpen, rate := some r, measuring := none } s)
      ∧ (r = .r300 ↔ 16667 ≤ micros) ∧ (r = .r1200 ↔ 5000 ≤ micros ∧ micros < 16667)
      ∧ (r = .r2400 ↔ 2083 ≤ micros ∧ micros < 5000) ∧ (r = .r9600 ↔ micros < 2083))
    ∧ ∀ t : State, t = setLine k
          { l with state := .awaitOpen, rate := some (cfg s).lines[k.val].defaultRate, rateFallback := true,
                   measuring := none, timer := none,
                   counts := { l.counts with fallbacks := min (l.counts.fallbacks + 1) 65535 } } s →
      (l.measuring ≠ none → exec (.measurementOverflow k) s = .next t)
      ∧ (l.measuring = none → ∀ due, l.timer = some due → 0 ≤ (s.tick - due).toInt →
        exec (.calibrationTimeout k) s = .next t)

/-- R25, R26, R27, R28: a character in AWAIT-OPEN is discarded unless it is OPEN, which begins an entry; in COLLECT it joins
the entry, up to 88, and restarts the entry timer; in LOOKUP it waits in the receiver FIFO, and a third overruns the
line; once the line has overrun, and in the other states, the receiver takes nothing. None is left in the receiver's shift
stage (`LineFits`, which O54 keeps).
The model's choice: notes/assumptions/4.md. -/
def Obligations.CharactersAreAssembled : Prop :=
  ∀ (offpeak : Bool) (k : Fin 8) (char : Byte) (framing : Bool) (l : Line) (s : State), running s = true →
    l = s.intake.lines[k.val] → LineFits l → ∀ after : Line → State, after = (fun x => setLine k x
      { s with pins := { s.pins with offpeak := offpeak } }) →
    (l.state = .awaitOpen → l.overrun = false → char ≠ 0x02 →
      exec (.characterReceived offpeak k char framing) s = .next { s with pins := { s.pins with offpeak := offpeak } })
    ∧ (l.state = .awaitOpen → l.overrun = false → char = 0x02 →
      exec (.characterReceived offpeak k char framing) s = .next (after { l with
        state := .collect, timer := some (s.tick + BitVec.ofNat 32 (100 * (cfg s).entryTimeout)),
        entry := some { chars := [], sum := 0, framing := framing, tooLong := false, awaitingCheck := false } }))
    ∧ (∀ e, l.state = .collect → l.overrun = false → l.entry = some e → e.awaitingCheck = false →
      exec (.characterReceived offpeak k char framing) s = .next (after { l with
        timer := some (s.tick + BitVec.ofNat 32 (100 * (cfg s).entryTimeout)),
        entry := some { chars := if char ≠ 0x03 ∧ e.chars.length < 88 then e.chars ++ [char] else e.chars,
                        sum := e.sum + char, framing := e.framing || framing,
                        tooLong := e.tooLong || decide (char ≠ 0x03 ∧ 88 ≤ e.chars.length),
                        awaitingCheck := decide (char = 0x03) } }))
    ∧ (l.state = .lookup → l.overrun = false → l.fifo.length < 2 →
      exec (.characterReceived offpeak k char framing) s = .next (after { l with
        fifo := l.fifo ++ [{ byte := char, framing := framing }] }))
    ∧ (l.state = .lookup → l.overrun = false → 2 ≤ l.fifo.length →
      exec (.characterReceived offpeak k char framing) s = .next (after { l with
        fifo := [], overrun := true, counts := { l.counts with overruns := min (l.counts.overruns + 1) 65535 } }))
    ∧ (l.state = .idle ∨ l.state = .rate ∨ l.state = .halted ∨ l.overrun = true →
      exec (.characterReceived offpeak k char framing) s = .next s)

/-- R30, R31, R32, R38: the CHECK completes the entry. It gives BAD-ENTRY with a framing mark, with too many characters,
with a sum that is not 0, when the characters do not begin with exactly seven digits and a class character, or when the
body is longer than its class allows or leaves its set; otherwise the entry is validated with its number, class and body
and routed: BUSY in CONFIGURED and JOINING, UNKNOWN where the home lookup gives NONE, the acceptance decision where it
gives OWN (with no origin; only ACCEPT changes more than the line and the count), BUSY for a peer in LEAVING, UNREACHABLE
for an absent peer, and BUSY for want of a table entry or of request-queue room. The verdict goes to the transmit buffer
at the line's rate and is counted. R29: the entry timer in COLLECT gives TIMEOUT. R38: the shift stage takes the verdict
character with its rate from the transmit buffer when it is empty, and not before.
The model's choice: notes/assumptions/4.md, notes/assumptions/8.md. -/
def Obligations.LineGivesVerdicts : Prop :=
  (∀ (offpeak : Bool) (k : Fin 8) (char : Byte) (framing : Bool) (l : Line) (e checked : EntryAssembly) (s : State),
    running s = true → l = s.intake.lines[k.val] → LineFits l → l.state = .collect → l.overrun = false →
    l.entry = some e → e.awaitingCheck = true →
    checked = { e with sum := e.sum + char, framing := e.framing || framing } →
    ∀ (gives : Byte → IntakeCounts → State → State) (n : IntakeCounts), n = s.intake.counts → gives = (fun v counts x =>
      setLine k { l with txBuffer := some { byte := v, rate := l.rate }, state := .awaitOpen, entry := none,
                         timer := none, lookup := none }
        { x with pins := { s.pins with offpeak := offpeak }, intake := { s.intake with counts := counts } }) →
    ∀ busy : State, busy = gives 0x42 { n with busy := min (n.busy + 1) 65535 } s →
    (checked.framing = true ∨ checked.tooLong = true ∨ checked.sum ≠ 0 ∨ (e.chars.takeWhile isDigit).length ≠ 7
        ∨ (e.chars[7]?).bind classOf = none
        ∨ (∃ c, (e.chars[7]?).bind classOf = some c ∧ (maxBody c.medium < e.chars.length - 8
          ∨ ∃ b ∈ e.chars.drop 8, inBodySet c.medium b = false)) →
      exec (.characterReceived offpeak k char framing) s = .next (gives 0x45
        { n with badEntry := min (n.badEntry + 1) 65535 } s))
    ∧ (∀ (digits body : List Byte) (ch : Byte) (c : MessageClass), e.chars = digits ++ ch :: body → digits.length = 7 →
      digits.all isDigit = true → classOf ch = some c → body.length ≤ maxBody c.medium →
      body.all (inBodySet c.medium) = true → checked.sum = 0 → checked.framing = false → checked.tooLong = false →
      validate checked = some
        { number := digits.foldl (fun acc b => 10 * acc + (b.toNat - 48)) 0, cls := c, body := body })
    ∧ ∀ ask : ForwardAsk, validate checked = some ask →
      (s.life.state = .configured ∨ s.life.state = .joining →
        exec (.characterReceived offpeak k char framing) s = .next busy)
      ∧ (s.life.state = .onBus ∨ s.life.state = .leaving →
        (homeLookup s ask.number = .none → exec (.characterReceived offpeak k char framing) s = .next (gives 0x55
          { n with unknown := min (n.unknown + 1) 65535 } s))
        ∧ (homeLookup s ask.number = .own → ∀ d, d = decision ask.number ask.cls none s →
          ∀ own : State → State, own = gives
            (match d with
              | .accept => 0x41 | .unknown => 0x55 | .notHome => 0x55 | .suspended => 0x53 | .noPriority => 0x50
              | .quota => 0x51 | .busy => 0x42)
            (match d with
              | .accept => { n with accept := min (n.accept + 1) 65535 }
              | .unknown | .notHome => { n with unknown := min (n.unknown + 1) 65535 }
              | .suspended => { n with suspended := min (n.suspended + 1) 65535 }
              | .noPriority => { n with noPriority := min (n.noPriority + 1) 65535 }
              | .quota => { n with quota := min (n.quota + 1) 65535 }
              | .busy => { n with busy := min (n.busy + 1) 65535 }) →
          (d ≠ .accept → exec (.characterReceived offpeak k char framing) s = .next (own s))
          ∧ ∀ (i : Nat) (r : Subscriber) (j : Fin 256), d = .accept → DirectorySound s.directory →
            s.directory[i]? = some r → r.number = ask.number → (s.store.slots[j.val]).held = none →
            (∀ m : Fin 256, m < j → (s.store.slots[m.val]).held ≠ none) →
            exec (.characterReceived offpeak k char framing) s = .next (own
              (acceptedInto j i r ask.cls ask.body none { s with pins := { s.pins with offpeak := offpeak } })))
        ∧ ∀ p, homeLookup s ask.number = .peer p →
          (s.life.state = .leaving → exec (.characterReceived offpeak k char framing) s = .next busy)
          ∧ (s.life.state = .onBus → (presenceAt s p).present = false →
            exec (.characterReceived offpeak k char framing) s = .next (gives 0x48
              { n with unreachable := min (n.unreachable + 1) 65535 } s))
          ∧ (s.life.state = .onBus → (presenceAt s p).present = true →
            96 ≤ s.exchange.table.length ∨ 32 ≤ s.bus.requests.length + s.bus.waiting.length →
            exec (.characterReceived offpeak k char framing) s = .next busy)))
  ∧ (∀ (k : Fin 8) (l : Line) (s : State), running s = true → l = s.intake.lines[k.val] →
    (∀ due, l.state = .collect → l.timer = some due → 0 ≤ (s.tick - due).toInt →
      exec (.entryTimeout k) s = .next (setLine k
        { l with txBuffer := some { byte := 0x54, rate := l.rate }, state := if l.overrun then .halted else .awaitOpen,
                 entry := none, timer := none, lookup := none }
        { s with intake := { s.intake with
            counts := { s.intake.counts with timeout := min (s.intake.counts.timeout + 1) 65535 } } }))
    ∧ ∀ c, l.txBuffer = some c →
      (l.txShift = none →
        exec (.verdictTransmission k) s = .next (setLine k { l with
          txShift := some { bits := 1#1 ++ c.byte ++ 0#1, rate := c.rate, since := s.tick }, txBuffer := none } s))
      ∧ (l.txShift ≠ none → exec (.verdictTransmission k) s = .next s))

/-- R33, R158, R160: a valid entry for a present peer, with a free table entry and request-queue room, claims an entry,
queues a FORWARD with a sequence that no entry of its peer and kind holds, starts its reply timer and enters LOOKUP.
The model's choice: notes/assumptions/4.md. -/
def Obligations.EntryIsForwarded : Prop :=
  ∀ (offpeak : Bool) (k : Fin 8) (char : Byte) (framing : Bool) (l : Line) (e : EntryAssembly) (ask : ForwardAsk)
    (p : Nat) (s : State),
    running s = true → l = s.intake.lines[k.val] → LineFits l → l.state = .collect → l.overrun = false →
    l.entry = some e → e.awaitingCheck = true →
    validate { e with sum := e.sum + char, framing := e.framing || framing } = some ask →
    s.life.state = .onBus → homeLookup s ask.number = .peer p → (presenceAt s p).present = true →
    s.exchange.table.length < 96 → s.bus.requests.length + s.bus.waiting.length < 32 →
    ∃ (q : Byte) (t : State), exec (.characterReceived offpeak k char framing) s = .next t
      ∧ t = { s with pins := { s.pins with offpeak := offpeak }, intake := t.intake, bus := t.bus,
                     exchange := t.exchange }
      ∧ (∀ x ∈ s.exchange.table, x.key ≠ { peer := p, seq := q, kind := .forward })
      ∧ t.exchange.seq = q
      ∧ t.exchange.table = s.exchange.table ++ [
          { key := { peer := p, seq := q, kind := .forward }, owner := .line k, phase := .queued,
            due := some (s.tick + BitVec.ofNat 32 (cfg s).replyTimeout) }]
      ∧ t.bus = { s.bus with requests := s.bus.requests ++ [
          { kind := .forward, dest := BitVec.ofNat 8 p, src := BitVec.ofNat 8 (ownNumber s), seq := q,
            payload := be3 ask.number ++ classChar ask.cls :: ask.body }] }
      ∧ t.intake = (setLine k
          { l with state := .lookup, lookup := some { peer := p, seq := q, kind := .forward }, entry := none,
                   timer := none } s).intake

/-! ## The frames taken from the bus -/

/-- R156, R157, R161, R163, R189: every valid frame refreshes its source's presence; then the first check that fails
discards it and raises one count: MISADDRESSED, BAD-PAYLOAD, NOT-MEMBER for a request or report outside ON-BUS and
LEAVING, LATE for a reply that answers no entry in SENT. Nothing else changes.
The model's choice: notes/assumptions/4.md, notes/assumptions/11.md. -/
def Obligations.DiscardedFramesAreCounted : Prop :=
  ∀ (c : Instr) (k : FrameKind) (heard : List BusChar) (f : Received) (s : State), busFrame c = some (k, heard) →
    hears heard f s → f.kind = kindCode k →
    ∀ counted : (ExchangeCounts → ExchangeCounts) → Prop, counted = (fun g => ∃ t, exec c s = .next t
      ∧ t = { noted f s with pins := t.pins, exchange := { (noted f s).exchange with counts := g s.exchange.counts } }) →
    (f.dest = 0 → k ≠ .presence → counted fun x => { x with misaddressed := min (x.misaddressed + 1) 65535 })
    ∧ (f.dest ≠ 0 ∨ k = .presence → payloadAgrees k f.payload = false →
      counted fun x => { x with badPayload := min (x.badPayload + 1) 65535 })
    ∧ (f.dest ≠ 0 → payloadAgrees k f.payload = true → membersKind k = true →
      s.life.state = .configured ∨ s.life.state = .joining →
      counted fun x => { x with notMember := min (x.notMember + 1) 65535 })
    ∧ (∀ ek, f.dest ≠ 0 → payloadAgrees k f.payload = true → answersKind k = some ek →
      (∀ e ∈ s.exchange.table, e.key = { peer := f.src.toNat, seq := f.seq, kind := ek } → e.phase ≠ .sent) →
      counted fun x => { x with late := min (x.late + 1) 65535 })

/-- R137, R139, R140, R141, R156: a frame of an unknown kind refreshes its source and raises BAD-KIND. A frame completed
from source 0 or above 24 raises BAD-SOURCE; one from this station's own number DUPLICATE-SOURCE, or nothing when its
bytes are those this station is transmitting. A frame under reception is discarded by an address character, which opens
the next frame when that is for this station and unmarked (INTERRUPTED), by a framing-error mark (FRAMING-ERRORS), by a
length above 96 (LENGTH-ERRORS), and by a CRC that does not agree at the last character (CRC-ERRORS); each raises one
count. An address character for another station, noise, and a character outside a frame discard nothing.
The model's choice: notes/assumptions/5.md, notes/assumptions/26.md (a character with a framing-error
mark and another fault counts FRAMING-ERRORS alone). -/
def Obligations.UntakenFramesAreCounted : Prop :=
  (∀ (kind : Byte) (heard : List BusChar) (f : Received) (s : State), namesFrameKind kind = false → hears heard f s →
    f.kind = kind → exec (.badKindFrame kind heard) s = .next { noted f s with exchange := { (noted f s).exchange with
      counts := { s.exchange.counts with badKind := min (s.exchange.counts.badKind + 1) 65535 } } })
  ∧ (∀ (src : Byte) (heard : List BusChar) (bytes : List Byte) (s t : State) (n : BusCounts), n = s.bus.counts →
    listen heard s = some (t, .complete bytes) → byteAt bytes 1 = src →
    ∀ dropped : BusCounts → Prop, dropped = (fun m => exec (.frameDroppedBySource src heard) s =
      .next { s with bus := { s.bus with rx := none, run := 0, counts := m } }) →
    (src = 0 ∨ 24 < src.toNat → dropped { n with badSource := min (n.badSource + 1) 65535 })
    ∧ (1 ≤ src.toNat → src.toNat ≤ 24 → isOwn s src.toNat = true →
      ((∃ cs removed, (s.bus.tx = .answer cs removed ∨ s.bus.tx = .request cs removed) ∧ cs.map dataOf = bytes) →
        dropped n)
      ∧ ((∀ cs removed, s.bus.tx = .answer cs removed ∨ s.bus.tx = .request cs removed → cs.map dataOf ≠ bytes) →
        dropped { n with duplicateSource := min (n.duplicateSource + 1) 65535 })))
  ∧ ∀ (c : BusChar) (data : Byte) (s : State) (n : BusCounts), running s = true → s.bus.stopped = false →
    n = s.bus.counts → data = c.extractLsb' 1 8 →
    ∀ discards : Option (List Byte) → BusCounts → Prop, discards = (fun rx m =>
      exec (.frameDiscard [c]) s = .next { s with bus := { s.bus with rx := rx, run := 0, counts := m } }) →
    (c.getLsbD 0 = true → exec (.frameDiscard [c]) s = .next s)
    ∧ (c.getLsbD 0 = false → c.getLsbD 9 = true →
      (s.bus.rx = none → c.getLsbD 10 = true ∨ (data ≠ 0 ∧ isOwn s data.toNat = false) →
        exec (.frameDiscard [c]) s = .next s)
      ∧ (s.bus.rx = none → c.getLsbD 10 = false → data = 0 ∨ isOwn s data.toNat = true →
        discards none { n with framingErrors := min (n.framingErrors + 1) 65535 })
      ∧ ∀ m, m = { n with interrupted := min (n.interrupted + 1) 65535 } → s.bus.rx ≠ none →
        (data ≠ 0 → isOwn s data.toNat = false → discards none m)
        ∧ (data = 0 ∨ isOwn s data.toNat = true →
          (c.getLsbD 10 = true → discards (some [data]) m)
          ∧ (c.getLsbD 10 = false → discards none { m with framingErrors := min (m.framingErrors + 1) 65535 })))
    ∧ (c.getLsbD 0 = false → c.getLsbD 9 = false →
      (s.bus.rx = none → exec (.frameDiscard [c]) s = .next s)
      ∧ ∀ bytes, s.bus.rx = some bytes →
        (c.getLsbD 10 = false → discards none { n with framingErrors := min (n.framingErrors + 1) 65535 })
        ∧ (c.getLsbD 10 = true → bytes.length = 4 → 96 < data.toNat →
          discards none { n with lengthErrors := min (n.lengthErrors + 1) 65535 })
        ∧ (∀ len : Nat, c.getLsbD 10 = true → 5 ≤ bytes.length → len = (byteAt bytes 4).toNat →
          bytes.length + 1 = 7 + len → (bytes ++ [data]).drop (5 + len) ≠ be2 (crc (bytes.take (5 + len))).toNat →
          discards none { n with crcErrors := min (n.crcErrors + 1) 65535 }))

/-- R11, R12, R13: the acceptance decision. With a record that is not displaced: SUSPENDED, then NO-PRIORITY, then
QUOTA, then BUSY, then ACCEPT; without one, NOT-HOME for a FORWARD whose number the map places at a peer, else UNKNOWN. -/
def Obligations.DecisionTakesFirstStep : Prop :=
  ∀ (n : Nat) (c : MessageClass) (o : Option Origin) (s : State), DirectorySound s.directory →
    (∀ r ∈ s.directory, r.number = n → inOwnRange s n = true → decision n c o s =
      if r.state = .suspended then .suspended
      else if c.priority = true ∧ (s.plans[r.plan.val]).priorityAllowed = false then .noPriority
      else if (s.plans[r.plan.val]).policy = .hard ∧ c.priority = false ∧ (s.plans[r.plan.val]).allowance ≤ r.usage
        then .quota
      else if s.life.state = .leaving ∨ 8 ≤ r.live ∨ (∀ k : Fin 256, (s.store.slots[k.val]).held ≠ none)
        ∨ 112 < s.billing.queue.length then .busy
      else .accept)
    ∧ ((∀ r ∈ s.directory, r.number = n → inOwnRange s n = false) →
      (∀ p, o ≠ none → homeLookup s n = .peer p → decision n c o s = .notHome)
      ∧ ((∀ p, homeLookup s n ≠ .peer p) ∨ o = none → decision n c o s = .unknown))

/-- R157, R10, R151: a FORWARD taken by a member is decided with its source and sequence as origin and answered with a
TAKEN that carries its sequence; a full answer queue drops the TAKEN; a result other than ACCEPT changes no record, no
delivery and no billing record.
The model's choice: notes/assumptions/4.md. -/
def Obligations.ForwardIsDecidedAndAnswered : Prop :=
  ∀ (offpeak : Bool) (heard : List BusChar) (f : Received) (c : MessageClass) (d : Decision) (s : State),
    hearsOwn .forward heard f s → member s = true →
    payloadAgrees .forward f.payload = true → classOf (byteAt f.payload 3) = some c →
    d = decision (field f.payload 0 3) c (some { station := f.src.toNat, seq := f.seq }) s →
    ∃ t, exec (.forward offpeak heard) s = .next t
      ∧ t = { s with pins := { s.pins with offpeak := offpeak }, directory := t.directory, store := t.store,
                     billing := t.billing, bus := t.bus, exchange := (noted f s).exchange, port := t.port }
      ∧ (s.bus.answers.length < 24 → t.bus = (answeredFrame f .taken [decisionCode d] s).bus)
      ∧ (24 ≤ s.bus.answers.length → t.bus = { (noted f s).bus with counts := { (noted f s).bus.counts with
          answersDropped := min (s.bus.counts.answersDropped + 1) 65535 } })
      ∧ (d ≠ .accept → t.directory = s.directory ∧ t.store = s.store ∧ t.billing = s.billing ∧ t.port = s.port)

/-- R14, R42, R43, R44, R46, R47, R114, R125: ACCEPT is one event: the lowest free slot takes the delivery in ISSUING,
which joins the issue queue; the live and accepted counts rise by one; the accept charge raises the period total and one
ACCEPT-FEE record joins the queue (`acceptedInto`). Nothing else changes but the frame's own reception and answer.
The model's choice: notes/assumptions/4.md. -/
def Obligations.AcceptanceIsOneEvent : Prop :=
  ∀ (offpeak : Bool) (heard : List BusChar) (f : Received) (c : MessageClass) (o : Origin) (i : Nat) (r : Subscriber)
    (k : Fin 256) (s : State), hearsOwn .forward heard f s → member s = true → payloadAgrees .forward f.payload = true →
    classOf (byteAt f.payload 3) = some c → o = { station := f.src.toNat, seq := f.seq } →
    DirectorySound s.directory → s.directory[i]? = some r → r.number = field f.payload 0 3 →
    decision r.number c (some o) s = .accept → (s.store.slots[k.val]).held = none →
    (∀ j : Fin 256, j < k → (s.store.slots[j.val]).held ≠ none) →
    ∃ t, exec (.forward offpeak heard) s = .next t
      ∧ t = { acceptedInto k i r c (f.payload.drop 4) (some o)
                { noted f s with pins := { s.pins with offpeak := offpeak } } with bus := t.bus }
      ∧ (s.bus.answers.length < 24 → t.bus = (answeredFrame f .taken [0] s).bus)

/-- R65, R63, R122: a CANCEL of an origin that no delivery has is answered UNKNOWN; one whose deliveries have been issued
TOO-LATE; otherwise the delivery not yet issued nearest the tail of the issue queue ends CANCELLED with the credit of
its accept charge.
The model's choice: notes/assumptions/4.md. -/
def Obligations.CancelIsAnsweredByOrigin : Prop :=
  ∀ (offpeak : Bool) (heard : List BusChar) (f : Received) (o : Origin) (s : State),
    hearsOwn .cancel heard f s → member s = true → f.payload.length = 1 →
    o = { station := f.src.toNat, seq := byteAt f.payload 0 } → s.bus.answers.length < 24 →
    ((∀ (k : Fin 256) (d : Delivery), (s.store.slots[k.val]).held = some d → d.origin ≠ some o) →
      exec (.cancel offpeak heard) s =
        .next { answeredFrame f .cancelAnswer [2] s with pins := { s.pins with offpeak := offpeak } })
    ∧ ((∃ (k : Fin 256) (d : Delivery), (s.store.slots[k.val]).held = some d ∧ d.origin = some o) →
      (∀ k ∈ s.store.issue, ∀ d, (s.store.slots[k.val]).held = some d → d.origin = some o →
        d.issued = true ∨ d.state ≠ .issuing) →
      exec (.cancel offpeak heard) s =
        .next { answeredFrame f .cancelAnswer [1] s with pins := { s.pins with offpeak := offpeak } })
    ∧ ∀ (before after : List (Fin 256)) (k : Fin 256) (d : Delivery) (r : Subscriber),
        s.store.issue = before ++ k :: after → (s.store.slots[k.val]).held = some d → d.origin = some o →
        d.state = .issuing → d.issued = false → s.directory[d.subscriber]? = some r → s.billing.queue.length < 128 →
        (∀ j ∈ after, ∀ x, (s.store.slots[j.val]).held = some x → x.origin = some o →
          x.issued = true ∨ x.state ≠ .issuing) →
        exec (.cancel offpeak heard) s = .next { answeredFrame f .cancelAnswer [0] s with
          pins := { s.pins with offpeak := offpeak },
          directory := s.directory.set d.subscriber { r with
            periodTotal := r.periodTotal - d.charged, live := r.live - 1 },
          store := slotEnded k s.store,
          billing := { s.billing with
            seq := s.billing.seq + 1,
            queue := s.billing.queue ++ [
              { seq := s.billing.seq, kind := .cancelCredit, number := r.number,
                delivery := some (BitVec.ofFin k, (s.store.slots[k.val]).gen), attempt := none, cells := none,
                watchHigh := none, amount := d.charged, credit := true, offpeak := offpeak,
                totalAfter := r.periodTotal - d.charged, usageAfter := r.usage, tallies := none }] } }

/-- R69, R70, R71, R87: an AIR-REQUEST taken by a member is answered by the first condition that holds: REFUSED-LEAVING,
REFUSED-NOT-ZONE with airing disabled, ACCEPTED for a tag already held, which is refreshed, REFUSED-NOT-ZONE for a cell
count out of range, REFUSED-FULL, and otherwise ACCEPTED at the tail of its class's queue. -/
def Obligations.AirRequestIsAdmittedOrRefused : Prop :=
  ∀ (heard : List BusChar) (f : Received) (ask : AirAsk) (s : State),
    hearsOwn .airRequest heard f s → member s = true → readAirRequest f.payload = some ask →
    s.bus.answers.length < 24 → ∀ gives : Byte → Air → Prop, gives = (fun code a =>
      exec (.airRequest heard) s = .next { answeredFrame f .airAnswer [code] s with air := a }) →
    ∀ (held : Prop) (full : Prop) (bad : Prop) (n : AirCounts), n = s.air.counts →
    (held ↔ ∃ e ∈ s.air.regular ++ s.air.priority, e.tag = ask.tag) →
    (full ↔ if ask.cls.priority then 4 ≤ s.air.priority.length else 64 ≤ s.air.regular.length) →
    (bad ↔ ask.cells < 2 ∨ 26 < ask.cells
      ∨ 8 * ((List.range 16).filter fun i => (cfg s).slotMask.getLsbD i).length < ask.cells) →
    (s.life.state = .leaving →
      gives 3 { s.air with counts := { n with refusedLeaving := min (n.refusedLeaving + 1) 65535 } })
    ∧ (s.life.state = .onBus → (cfg s).airing = false ∨ ((cfg s).airing = true ∧ ¬ held ∧ bad) →
      gives 2 { s.air with counts := { n with refusedNotZone := min (n.refusedNotZone + 1) 65535 } })
    ∧ (s.life.state = .onBus → (cfg s).airing = true → held → gives 0 { s.air with
        regular := s.air.regular.map fun e => if e.tag = ask.tag then { e with withdraw := none } else e,
        priority := s.air.priority.map fun e => if e.tag = ask.tag then { e with withdraw := none } else e,
        counts := { n with requestsMerged := min (n.requestsMerged + 1) 65535 } })
    ∧ (s.life.state = .onBus → (cfg s).airing = true → ¬ held → ¬ bad → full →
      gives 1 { s.air with counts := { n with refusedFull := min (n.refusedFull + 1) 65535 } })
    ∧ (s.life.state = .onBus → (cfg s).airing = true → ¬ held → ¬ bad → ¬ full →
      ∀ e : AirEntry, e = { tag := ask.tag, address := ask.address, cls := ask.cls, cells := ask.cells, body := ask.body,
                            state := .queued, returned := false, withdraw := none } →
      gives 0 { s.air with
        regular := if ask.cls.priority then s.air.regular else s.air.regular ++ [e],
        priority := if ask.cls.priority then s.air.priority ++ [e] else s.air.priority,
        counts := { n with requestsAccepted := min (n.requestsAccepted + 1) 65535 } })

/-- R81, R87: a WITHDRAW of a tag that neither queue holds is answered UNKNOWN; one of a QUEUED entry removes it and is
answered WITHDRAWN at once; one of an entry that is PACKED or DONE-IN-CYCLE keeps who is owed the answer. -/
def Obligations.WithdrawIsAnsweredOrOwed : Prop :=
  ∀ (heard : List BusChar) (f : Received) (t : Tag) (n : AirCounts) (s : State),
    hearsOwn .withdraw heard f s → member s = true →
    f.payload = [t.home, t.slot, t.gen, t.attempt] → s.bus.answers.length < 24 → n = s.air.counts →
    ((∀ e ∈ s.air.regular ++ s.air.priority, e.tag ≠ t) →
      exec (.withdraw heard) s = .next { answeredFrame f .withdrawn [1] s with
        air := { s.air with counts := { n with withdrawUnknown := min (n.withdrawUnknown + 1) 65535 } } })
    ∧ ∀ e : AirEntry, findAir s t = some e →
      (e.state = .queued → exec (.withdraw heard) s = .next { answeredFrame f .withdrawn [0] s with
        air := { s.air with
          regular := s.air.regular.filter fun x => x.tag != t, priority := s.air.priority.filter fun x => x.tag != t,
          counts := { n with withdrawnAtOnce := min (n.withdrawnAtOnce + 1) 65535 } } })
      ∧ (e.state ≠ .queued → ∀ own : AirEntry → AirEntry, own = (fun x =>
          if x.tag = t then { x with withdraw := some { station := f.src.toNat, seq := f.seq } } else x) →
        exec (.withdraw heard) s = .next { noted f s with
          air := { s.air with
            regular := s.air.regular.map own, priority := s.air.priority.map own,
            counts := { n with withdrawDeferred := min (n.withdrawDeferred + 1) 65535 } } })

/-- R53, R56, R104: an AIRED tag that matches a held delivery, its open attempt and an unresolved entry of the source's
zone makes the entry AIRED and frees its outstanding entry; in AIR-PENDING the delivery enters AWAIT-ACK with its ack
wait started, and in AWAIT-ACK the due tick does not move. A tag that matches no held delivery changes nothing. The tags of
a report, up to 24, are taken one after another in the order in which they stand, each by the same rule (`takeAired`).
The model's choice: notes/assumptions/4.md. -/
def Obligations.AiredReportStartsAckWait : Prop :=
  (∀ (offpeak : Bool) (heard : List BusChar) (f : Received) (g : Tag) (s : State),
    hearsOwn .aired heard f s → member s = true →
    f.payload = [g.home, g.slot, g.gen, g.attempt] →
    (isOwn s g.home.toNat = false ∨ (s.store.slots[g.slot.toNat]).gen ≠ g.gen ∨ (s.store.slots[g.slot.toNat]).held = none →
      exec (.aired offpeak heard) s = .next { noted f s with pins := { s.pins with offpeak := offpeak } })
    ∧ ∀ (d : Delivery) (a : Attempt) (z : ZoneEntry), isOwn s g.home.toNat = true →
      s.store.slots[g.slot.toNat] = { gen := g.gen, held := some d } → d.attempt = some a → a.number = g.attempt.toNat →
      a.zones.find? (fun e => e.zone == f.src.toNat) = some z → unresolved z.state = true →
      d.state = .airPending ∨ d.state = .awaitAck →
      ∃ t, exec (.aired offpeak heard) s = .next t
        ∧ t = { s with pins := { s.pins with offpeak := offpeak }, store := t.store, bus := t.bus,
                       exchange := t.exchange }
        ∧ t.store = { s.store with slots := s.store.slots.set g.slot.toNat { gen := g.gen, held := some { d with
            state := .awaitAck,
            attempt := some { a with
              zones := a.zones.map fun e => if e.zone = f.src.toNat then { e with state := .aired } else e,
              ackDue := if d.state = .airPending then some (s.tick + BitVec.ofNat 32
                (100 * (planAt s d.subscriber).ackWait)) else a.ackDue } } } }
        ∧ t.bus.answers = s.bus.answers
        ∧ ∀ e, entryOfZone s (tagSlot g) f.src.toNat = some e → ∀ x ∈ t.exchange.table, x.key ≠ e.key)
  ∧ ∀ (offpeak : Bool) (heard : List BusChar) (f : Received) (gs : List Tag) (s : State),
    hearsOwn .aired heard f s → member s = true → gs ≠ [] → gs.length ≤ 24 →
    f.payload = gs.flatMap (fun g => [g.home, g.slot, g.gen, g.attempt]) →
    exec (.aired offpeak heard) s =
      .next (gs.foldl (takeAired f.src.toNat) { noted f s with pins := { s.pins with offpeak := offpeak } })
    ∧ ∀ (names : Tag → Delivery → Attempt → Prop) (discarded : Tag → Prop),
      names = (fun g d a => isOwn s g.home.toNat = true ∧ s.store.slots[g.slot.toNat] = { gen := g.gen, held := some d }
        ∧ d.attempt = some a ∧ a.number = g.attempt.toNat ∧ (d.state = .airPending ∨ d.state = .awaitAck)
        ∧ ∃ z, a.zones.find? (fun e => e.zone == f.src.toNat) = some z ∧ unresolved z.state = true) →
      discarded = (fun g => isOwn s g.home.toNat = false ∨ (s.store.slots[g.slot.toNat]).gen ≠ g.gen
        ∨ (s.store.slots[g.slot.toNat]).held = none) →
      (gs.map (·.slot)).Nodup → (∀ g ∈ gs, discarded g ∨ ∃ d a, names g d a) →
      ∃ t, exec (.aired offpeak heard) s = .next t
        ∧ t = { s with pins := { s.pins with offpeak := offpeak }, store := { s.store with slots := t.store.slots },
                       bus := t.bus, exchange := t.exchange }
        ∧ t.bus.answers = s.bus.answers
        ∧ (∀ g ∈ gs, ∀ d a, names g d a → t.store.slots[g.slot.toNat] = { gen := g.gen, held := some { d with
            state := .awaitAck,
            attempt := some { a with
              zones := a.zones.map fun e => if e.zone = f.src.toNat then { e with state := .aired } else e,
              ackDue := if d.state = .airPending then some (s.tick + BitVec.ofNat 32
                (100 * (planAt s d.subscriber).ackWait)) else a.ackDue } } })
        ∧ ∀ k : Fin 256, (∀ g ∈ gs, g.slot.toNat = k.val → discarded g) → t.store.slots[k.val] = s.store.slots[k.val]

/-- R61, R63, R115, R120, R121, R125, R127, R128: the AIRED tag that resolves the last entry of a closed ACKED attempt
settles it: the attempt charge for N times z cell-zones raises usage and period total; each quota watch level that the
usage crosses sets its warn flag and makes a QUOTA-NOTICE record, LOW before HIGH; the ATTEMPT record comes last; and the
delivery ends DELIVERED. Each record takes the next sequence number; the records that find the queue full are lost, raise
the lost count and latch RECORD-LOST.
The model's choice: notes/assumptions/4.md. -/
def Obligations.LastAiredTagSettlesAcked : Prop :=
  ∀ (offpeak : Bool) (heard : List BusChar) (f : Received) (g : Tag) (d : Delivery) (a : Attempt) (z : ZoneEntry)
    (r : Subscriber) (p : Plan) (n amount usage total : Nat) (low high : Bool) (s : State),
    hearsOwn .aired heard f s → member s = true → f.payload = [g.home, g.slot, g.gen, g.attempt] →
    isOwn s g.home.toNat = true → s.store.slots[g.slot.toNat] = { gen := g.gen, held := some d } →
    d.state = .settling → d.attempt = some a → a.number = g.attempt.toNat → a.outcome = some .acked →
    a.zones.find? (fun e => e.zone == f.src.toNat) = some z → unresolved z.state = true →
    (∀ e ∈ a.zones, e.zone ≠ f.src.toNat → unresolved e.state = false) →
    n = (a.zones.filter fun e => e.zone == f.src.toNat || e.state == .aired).length →
    s.directory[d.subscriber]? = some r → p = s.plans[r.plan.val] →
    amount = attemptAmount p offpeak r.usage d.charged a.number (d.cells * n) →
    usage = min (r.usage + d.cells * n) 16777215 → total = min (r.periodTotal + amount) 4294967295 →
    low = (p.lowWatch != 0 && decide (r.usage < p.lowWatch) && decide (p.lowWatch ≤ usage)) →
    high = (p.highWatch != 0 && decide (r.usage < p.highWatch) && decide (p.highWatch ≤ usage)) →
    ∀ (notice : Bool → BillingRecord) (last : BillingRecord) (made : List BillingRecord) (room : Nat),
    notice = (fun level =>
      { seq := 0, kind := .quotaNotice, number := r.number, delivery := none, attempt := none, cells := none,
        watchHigh := some level, amount := 0, credit := false, offpeak := offpeak, totalAfter := total,
        usageAfter := usage, tallies := none }) →
    last =
      { seq := 0, kind := .attempt, number := r.number, delivery := some (g.slot, g.gen), attempt := some a.number,
        cells := some (d.cells, n), watchHigh := none, amount := amount, credit := false, offpeak := offpeak,
        totalAfter := total, usageAfter := usage, tallies := none } →
    made = (if low then [notice false] else []) ++ (if high then [notice true] else []) ++ [last] →
    room = 128 - s.billing.queue.length →
    ∃ t, exec (.aired offpeak heard) s = .next t
      ∧ t = { s with pins := { s.pins with offpeak := offpeak }, directory := t.directory, store := t.store,
                     billing := t.billing, bus := t.bus, exchange := t.exchange, port := t.port }
      ∧ t.store = slotEnded g.slot.toFin s.store
      ∧ t.directory = s.directory.set d.subscriber { r with
          live := r.live - 1, usage := usage, periodTotal := total,
          saturated := r.saturated || decide (4294967295 < r.periodTotal + amount),
          warnLow := r.warnLow || low, warnHigh := r.warnHigh || high }
      ∧ t.billing = { s.billing with
          seq := s.billing.seq + BitVec.ofNat 16 made.length,
          queue := s.billing.queue ++
            (made.mapIdx fun i b => { b with seq := s.billing.seq + BitVec.ofNat 16 i }).take room,
          lost := if made.length ≤ room then s.billing.lost
            else min (s.billing.lost + (made.length - room)) 65535 }
      ∧ t.port = { s.port with recordLost := s.port.recordLost || decide (room < made.length) }

/-- R116 to R119: the attempt charge by its four stages, and what they guarantee: with a message cap, which limits the
accept charge too, the charges of a delivery never pass it, and an off-peak charge is never above the peak one. -/
def Obligations.AttemptChargeStages : Prop :=
  ∀ (p : Plan) (usage charged a n gross retried net : Nat),
    gross = (n - min n (p.allowance - usage)) * p.cellFee →
    retried = (if 2 ≤ a then (gross * p.retryPercent + 50) / 100 else gross) →
    net = retried - (retried * p.discount + 99) / 100 →
    (p.messageCap = 0 → attemptAmount p false usage charged a n = retried ∧ attemptAmount p true usage charged a n = net)
    ∧ (p.messageCap ≠ 0 → attemptAmount p false usage charged a n = min retried (p.messageCap - charged)
      ∧ attemptAmount p true usage charged a n = min net (p.messageCap - charged))
    ∧ (∀ offpeak, p.messageCap ≠ 0 → charged ≤ p.messageCap →
      charged + attemptAmount p offpeak usage charged a n ≤ p.messageCap)
    ∧ (p.messageCap ≠ 0 → acceptAmount p ≤ p.messageCap)
    ∧ attemptAmount p true usage charged a n ≤ attemptAmount p false usage charged a n

/-- R97, R98, R99, R57, R56, R60, R61, R54: a HEARD notice for another home is MISROUTED, one below the minimum quality
LOW-QUALITY; any other is matched (`ReportMatched`): STALE with no such delivery, with the issued mark clear or with an
attempt number not yet reached; DIRECT in RETRY-WAIT and in ISSUING after an issue, where the delivery ends DELIVERED;
TURNED and DUPLICATE in SETTLING; and CLOSED for an open attempt, which closes ACKED with its zones in ACCEPTED withdrawn
(`ClosesAttempt`), or settles at once when that leaves none unresolved (`Settles`).
The model's choice: notes/assumptions/4.md, notes/assumptions/15.md, notes/assumptions/17.md. -/
def Obligations.HeardNoticeIsMatched : Prop :=
  ∀ (offpeak : Bool) (heard : List BusChar) (f : Received) (g : Tag) (q : Byte) (s : State),
    hearsOwn .heard heard f s → member s = true →
    f.payload = [g.home, g.slot, g.gen, g.attempt, q] → ∀ (n : MatcherCounts) (base : MatcherCounts → State),
    n = { s.matcher.counts with heardTaken := min (s.matcher.counts.heardTaken + 1) 65535 } →
    base = (fun c => { noted f s with
      pins := { s.pins with offpeak := offpeak }, matcher := { s.matcher with counts := c } }) →
    (isOwn s g.home.toNat = false →
      exec (.heard offpeak heard) s = .next (base { n with misrouted := min (n.misrouted + 1) 65535 }))
    ∧ (isOwn s g.home.toNat = true → q.toNat < (cfg s).minQuality →
      exec (.heard offpeak heard) s = .next (base { n with lowQuality := min (n.lowQuality + 1) 65535 }))
    ∧ (isOwn s g.home.toNat = true → (cfg s).minQuality ≤ q.toNat →
      ReportMatched g n base s (exec (.heard offpeak heard) s))

/-- R34, R37, R38, R39: a TAKEN that answers a SENT FORWARD frees the entry and gives the line its verdict, NOT-HOME as
UNKNOWN and an unlisted code as UNREACHABLE; a CANCEL-ANSWER that answers a SENT CANCEL frees it and raises one cancel
count. -/
def Obligations.TakenAndCancelAnswerComplete : Prop :=
  ∀ (heard : List BusChar) (f : Received) (code : Byte) (e : Outstanding) (s : State), f.payload = [code] →
    e.phase = .sent → e.key.peer = f.src.toNat → e.key.seq = f.seq → findEntry s e.key = some e →
    (∀ k : Fin 8, hearsOwn .taken heard f s → e.key.kind = .forward → e.owner = .line k →
      (s.intake.lines[k.val]).state = .lookup →
      (s.intake.lines[k.val]).lookup = some e.key → (s.intake.lines[k.val]).fifo = [] →
      ∃ t, exec (.taken heard) s = .next t
        ∧ t = { s with intake := t.intake, bus := t.bus, exchange := t.exchange }
        ∧ (∀ x ∈ t.exchange.table, x.key ≠ e.key)
        ∧ (t.intake.lines[k.val]).state = (if (s.intake.lines[k.val]).overrun then .halted else .awaitOpen)
        ∧ (t.intake.lines[k.val]).lookup = none
        ∧ (t.intake.lines[k.val]).txBuffer = some
            { byte := ([0x41, 0x55, 0x55, 0x53, 0x50, 0x51, 0x42][code.toNat]?).getD 0x48,
              rate := (s.intake.lines[k.val]).rate }
        ∧ (t.intake.lines[k.val]).counts.badTaken = (if code.toNat ≤ 6 then (s.intake.lines[k.val]).counts.badTaken
            else min ((s.intake.lines[k.val]).counts.badTaken + 1) 65535)
        ∧ ∀ j : Fin 8, j ≠ k → t.intake.lines[j.val] = s.intake.lines[j.val])
    ∧ (hearsOwn .cancelAnswer heard f s → e.key.kind = .cancel → ∃ t, exec (.cancelAnswer heard) s = .next t
        ∧ t = { s with intake := t.intake, bus := t.bus, exchange := t.exchange }
        ∧ (∀ x ∈ t.exchange.table, x.key ≠ e.key)
        ∧ t.intake = { s.intake with counts := { s.intake.counts with
            cancelDone := if code = 0 then min (s.intake.counts.cancelDone + 1) 65535 else s.intake.counts.cancelDone,
            cancelTooLate :=
              if code = 1 then min (s.intake.counts.cancelTooLate + 1) 65535 else s.intake.counts.cancelTooLate,
            cancelUnknown :=
              if code = 2 then min (s.intake.counts.cancelUnknown + 1) 65535 else s.intake.counts.cancelUnknown,
            cancelUnanswered := if 2 < code.toNat then min (s.intake.counts.cancelUnanswered + 1) 65535
              else s.intake.counts.cancelUnanswered } })

/-- R52, R160, R59, R61, R62: an ACCEPTED answer in an open attempt makes the SENT zone entry ACCEPTED and holds its
outstanding entry with no timer; one in SETTLING makes it WITHDRAWING, and the outstanding entry becomes a WITHDRAW with a
new sequence and no timer yet, its frame queued or waiting. A refusal makes it REFUSED and frees the entry; when it leaves
no zone to air in AIR-PENDING the attempt closes MISSED and settles, void into RETRY-WAIT. A WITHDRAWN answer, by either
code, makes a WITHDRAWING entry WITHDRAWN and frees it. A refusal or WITHDRAWN that resolves the last entry in SETTLING
settles the attempt at the same event (`Settles`).
The model's choice: notes/assumptions/4.md. -/
def Obligations.ZoneAnswersResolveEntries : Prop :=
  ∀ (offpeak : Bool) (heard : List BusChar) (f : Received) (code : Byte) (e : Outstanding) (k : Fin 256) (d : Delivery)
    (a : Attempt) (z : ZoneEntry) (st : ZoneState) (s : State),
    f.payload = [code] → e.phase = .sent → e.key.peer = f.src.toNat → e.key.seq = f.seq →
    findEntry s e.key = some e → e.owner = .zone k z.zone → (s.store.slots[k.val]).held = some d → d.attempt = some a →
    a.zones.find? (fun x => x.zone == z.zone) = some z →
    ∀ zoneNow : State → Prop, zoneNow = (fun t =>
      t = { s with pins := { s.pins with offpeak := offpeak }, store := t.store, bus := t.bus, exchange := t.exchange }
      ∧ t.store = { s.store with slots := s.store.slots.set k.val { gen := (s.store.slots[k.val]).gen, held := some { d with
          attempt := some { a with
            zones := a.zones.map fun x => if x.zone = z.zone then { x with state := st } else x } } } }) →
    ∀ (lastOne : Prop) (settlesBy : Host.Outcome State Fault Refusal → AttemptOutcome → Prop),
    (lastOne ↔ (s.directory[d.subscriber]?).isSome = true
      ∧ ∀ y ∈ a.zones, y.zone ≠ z.zone → unresolved y.state = false) →
    settlesBy = (fun out o => ∃ t, out = .next t ∧ (∀ x ∈ t.exchange.table, x.key ≠ e.key)
      ∧ Settles k d
        { a with zones := a.zones.map fun x => if x.zone = z.zone then { x with state := st } else x } o
        { s with pins := { s.pins with offpeak := offpeak }, bus := t.bus, exchange := t.exchange } t) →
    (hearsOwn .airAnswer heard f s → e.key.kind = .airRequest → z.state = .sent →
      (code = 0 → a.outcome = none → st = .accepted → ∃ t, exec (.airAnswer offpeak heard) s = .next t ∧ zoneNow t
        ∧ t.exchange.table = s.exchange.table.map fun x =>
            if x.key = e.key then { x with phase := .held, due := none } else x)
      ∧ (code = 0 → a.outcome ≠ none → st = .withdrawing → TableSound s.exchange.table →
        ∃ t x, exec (.airAnswer offpeak heard) s = .next t ∧ zoneNow t
          ∧ t.exchange.table.length = s.exchange.table.length ∧ x ∈ t.exchange.table ∧ x.owner = e.owner
          ∧ x.key.kind = .withdraw ∧ x.key.peer = e.key.peer ∧ x.due = none ∧ (x.phase = .queued ∨ x.phase = .waiting)
          ∧ (∀ y ∈ t.exchange.table, y.key ≠ e.key)
          ∧ ∃ w ∈ t.bus.requests ++ t.bus.waiting, w.kind = .withdraw ∧ w.dest = f.src ∧ w.seq = x.key.seq
            ∧ w.payload = [BitVec.ofNat 8 (ownNumber s), BitVec.ofFin k, (s.store.slots[k.val]).gen,
                BitVec.ofNat 8 a.number])
      ∧ (1 ≤ code.toNat → code.toNat ≤ 3 → st = .refused → (∃ y ∈ a.zones, y.zone ≠ z.zone ∧ couldAir y.state = true) →
        ∃ t, exec (.airAnswer offpeak heard) s = .next t ∧ zoneNow t ∧ ∀ x ∈ t.exchange.table, x.key ≠ e.key)
      ∧ (1 ≤ code.toNat → code.toNat ≤ 3 → st = .refused → lastOne →
        (d.state = .airPending → settlesBy (exec (.airAnswer offpeak heard) s) .missed)
        ∧ ∀ o, d.state = .settling → a.outcome = some o → settlesBy (exec (.airAnswer offpeak heard) s) o))
    ∧ (hearsOwn .withdrawn heard f s → e.key.kind = .withdraw → z.state = .withdrawing → code.toNat ≤ 1 →
      st = .withdrawn → lastOne → ∀ o, d.state = .settling → a.outcome = some o →
      settlesBy (exec (.withdrawn offpeak heard) s) o)
    ∧ (hearsOwn .withdrawn heard f s → e.key.kind = .withdraw → z.state = .withdrawing → code.toNat ≤ 1 →
      st = .withdrawn → (∃ y ∈ a.zones, y.zone ≠ z.zone ∧ unresolved y.state = true) → d.state = .settling →
      ∃ t, exec (.withdrawn offpeak heard) s = .next t ∧ zoneNow t ∧ ∀ x ∈ t.exchange.table, x.key ≠ e.key)

/-- R163, R164, R166, R88, R101: a PRESENCE sets its source's entry from its payload; one with the leaving flag makes the
source ABSENT; one with the fresh flag removes the source's QUEUED air entries and its reports in the reverse FIFO, each
counted, and the HEARD notices to it, and completes the outstanding entries towards it as their timers would, without
REPLY-TIMEOUTS: a FORWARD becomes a CANCEL and its line gives UNREACHABLE, a CANCEL is freed and counted CANCEL-UNANSWERED,
an AIR-REQUEST or WITHDRAW is freed and its zone LOST, the attempt settling at the event when it was the last (`Settles`).
R48, R50: the heads of the issue queue that a freed entry lets go are issued within the event, in turn, each requesting its
remote zones that air, the source among them; the first that cannot go stays. A member then answers with a PRESENCE of its
own, behind those requests.
The model's choice: notes/assumptions/4.md, notes/assumptions/10.md, notes/assumptions/12.md, notes/assumptions/25.md,
notes/assumptions/27.md. -/
def Obligations.PresenceIsTaken : Prop :=
  ∀ (offpeak : Bool) (heard : List BusChar) (f : Received) (st fl : Byte) (s : State), hears heard f s →
    f.kind = kindCode .presence → f.payload = [st, fl] → st = 1 ∨ st = 2 →
    fl.toNat ≤ 5 → ∃ t, exec (.presence offpeak heard) s = .next t
      ∧ t.bus.counts.framesTaken = min (s.bus.counts.framesTaken + 1) 65535
      ∧ presenceAt t f.src.toNat =
        (if fl.getLsbD 2 then
          { present := false, lastHeard := s.tick, absenceDue := none, airing := false, reported := .none }
        else
          { present := true, lastHeard := s.tick,
            absenceDue := some (s.tick + BitVec.ofNat 32 (100 * (cfg s).presenceTimeout)),
            airing := fl.getLsbD 0 && st == 1, reported := if st = 1 then .onBus else .leaving })
      ∧ (∀ n, n ≠ f.src.toNat → presenceAt t n = presenceAt s n)
      ∧ (fl.getLsbD 1 = false → t = { s with
          pins := { s.pins with offpeak := offpeak },
          bus := { s.bus with
            rx := none, run := 0,
            counts := { s.bus.counts with framesTaken := min (s.bus.counts.framesTaken + 1) 65535 } },
          exchange := { s.exchange with
            presence := t.exchange.presence,
            counts := { s.exchange.counts with
              leavesHeard := if fl.getLsbD 2 then min (s.exchange.counts.leavesHeard + 1) 65535
                else s.exchange.counts.leavesHeard } } })
      ∧ (fl.getLsbD 1 = true →
          t.exchange.counts.freshJoinsHeard = min (s.exchange.counts.freshJoinsHeard + 1) 65535
          ∧ t.exchange.counts.replyTimeouts = s.exchange.counts.replyTimeouts
          ∧ t.air.counts.purged = min (s.air.counts.purged + ((s.air.regular ++ s.air.priority).filter fun e =>
              e.state == .queued && e.tag.home == f.src).length) 65535
          ∧ t.matcher = { s.matcher with
              fifo := s.matcher.fifo.filter (fun r => r.tag.home != f.src),
              counts := { s.matcher.counts with purgedReports := min (s.matcher.counts.purgedReports
                + (s.matcher.fifo.filter fun r => r.tag.home == f.src).length) 65535 } }
          ∧ (member s = true → s.bus.tx = .idle → (ownPresence t).isSome = true)
          ∧ ∀ purged : State → Prop, purged = (fun x =>
              x.air.regular = s.air.regular.filter (fun e => !(e.state == .queued && e.tag.home == f.src))
              ∧ x.air.priority = s.air.priority.filter (fun e => !(e.state == .queued && e.tag.home == f.src))
              ∧ (s.bus.tx = .idle →
                x.bus.answers = s.bus.answers.filter (fun y => !(y.kind == .heard && y.dest == f.src)))
              ∧ x = { s with
                pins := { s.pins with offpeak := offpeak }, intake := x.intake, store := x.store, air := x.air,
                matcher := x.matcher, bus := x.bus, exchange := x.exchange }) →
            ((∀ e ∈ s.exchange.table, e.key.peer ≠ f.src.toNat) → purged t ∧ t.store = s.store ∧ t.intake = s.intake
              ∧ t.exchange.table.map (·.key) = s.exchange.table.map (·.key))
            ∧ ∀ (e : Outstanding) (seen : State), TableSound s.exchange.table → e ∈ s.exchange.table →
              e.key.peer = f.src.toNat → (∀ y ∈ s.exchange.table, y.key.peer = f.src.toNat → y = e) →
              seen = { s with exchange := { s.exchange with presence := t.exchange.presence } } →
              ((∀ j rest x, s.store.issue = j :: rest → (s.store.slots[j.val]).held = some x →
                97 < s.exchange.table.length + (remoteSent seen (issueZones seen x)).length) →
              (e.key.kind = .forward → (∀ k : Fin 8, e.owner = .line k → (s.intake.lines[k.val]).fifo.length ≤ 2) →
                purged t ∧ t.store = s.store
                ∧ (∃ y ∈ t.exchange.table, y.key.kind = .cancel ∧ y.key.peer = f.src.toNat ∧ y.owner = e.owner
                  ∧ y.due = none ∧ ∃ w ∈ t.bus.requests ++ t.bus.waiting, w.kind = .cancel ∧ w.payload = [e.key.seq]
                    ∧ w.seq = y.key.seq)
                ∧ ∀ k : Fin 8, e.owner = .line k → (s.intake.lines[k.val]).state = .lookup →
                  (s.intake.lines[k.val]).lookup = some e.key → (s.intake.lines[k.val]).fifo = [] →
                  (t.intake.lines[k.val]).txBuffer = some { byte := 0x48, rate := (s.intake.lines[k.val]).rate }
                  ∧ (t.intake.lines[k.val]).lookup = none)
              ∧ (e.key.kind = .cancel → purged t ∧ t.store = s.store ∧ (∀ y ∈ t.exchange.table, y.key ≠ e.key)
                ∧ t.intake = { s.intake with counts := { s.intake.counts with
                    cancelUnanswered := min (s.intake.counts.cancelUnanswered + 1) 65535 } })
              ∧ ∀ (k : Fin 256) (z : ZoneEntry) (d : Delivery) (a : Attempt),
                e.key.kind = .airRequest ∨ e.key.kind = .withdraw → e.owner = .zone k z.zone →
                (s.store.slots[k.val]).held = some d → d.attempt = some a →
                a.zones.find? (fun y => y.zone == z.zone) = some z → unresolved z.state = true →
                ∀ lost : Attempt,
                lost = { a with zones := a.zones.map fun y => if y.zone = z.zone then { y with state := .lost } else y } →
                (∀ y ∈ t.exchange.table, y.key ≠ e.key)
                ∧ ((∃ y ∈ a.zones, y.zone ≠ z.zone ∧ couldAir y.state = true) → purged t ∧ t.intake = s.intake
                  ∧ t.store = { s.store with slots := s.store.slots.set k.val (Slot.mk (s.store.slots[k.val]).gen
                      (some { d with attempt := some lost })) })
                ∧ ((s.directory[d.subscriber]?).isSome = true →
                  (∀ y ∈ a.zones, y.zone ≠ z.zone → unresolved y.state = false) →
                  ∀ freed : State, freed = { s with
                    pins := { s.pins with offpeak := offpeak }, air := t.air, matcher := t.matcher, bus := t.bus,
                    exchange := t.exchange } →
                  (d.state = .airPending → Settles k d lost .missed freed t)
                  ∧ ∀ o, d.state = .settling → a.outcome = some o → Settles k d lost o freed t))
              ∧ ∀ (k : Fin 256) (rest : List (Fin 256)) (d : Delivery) (r : Subscriber) (zones : List ZoneEntry)
                  (sent : List Nat), member s = true → e.key.kind ≠ .forward → (∀ j ∈ s.store.issue, ∀ z, e.owner ≠ .zone j z) →
                s.store.issue = k :: rest → s.store.issue.Nodup →
                (s.store.slots[k.val]).held = some d → s.directory[d.subscriber]? = some r →
                zones = issueZones seen d → sent = remoteSent seen zones → sent ≠ [] →
                s.exchange.table.length + sent.length ≤ 97 →
                s.bus.requests.length + s.bus.waiting.length + sent.length ≤ 32 →
                (∃ b, (t.store.slots[k.val]).held = some { d with
                    issued := true, state := .airPending, attempt := some b }
                  ∧ b.number = d.counted + 1 ∧ b.outcome = none
                  ∧ b.zones.filter (fun y => !isOwn s y.zone) = zones.filter (fun y => !isOwn s y.zone))
                ∧ (∀ z ∈ sent, ∃ y ∈ t.exchange.table, y.key.kind = .airRequest ∧ y.key.peer = z ∧ y.owner = .zone k z
                  ∧ y.phase = .queued ∧ y.due = some (s.tick + BitVec.ofNat 32 (cfg s).replyTimeout)
                  ∧ ∃ w ∈ t.bus.requests, w.kind = .airRequest ∧ w.dest = BitVec.ofNat 8 z
                    ∧ w.src = BitVec.ofNat 8 (ownNumber s) ∧ w.seq = y.key.seq
                    ∧ w.payload = [BitVec.ofNat 8 (ownNumber s), BitVec.ofFin k, (s.store.slots[k.val]).gen,
                        BitVec.ofNat 8 (d.counted + 1)] ++ be3 r.address ++ classChar d.cls :: BitVec.ofNat 8 d.cells :: d.body)
                ∧ ∃ gone, s.store.issue = gone ++ t.store.issue ∧ ∀ j later x, t.store.issue = j :: later →
                    (t.store.slots[j.val]).held = some x →
                    96 < t.exchange.table.length + (remoteSent seen (issueZones seen x)).length
                    ∨ 32 < t.bus.requests.length + t.bus.waiting.length + (remoteSent seen (issueZones seen x)).length)
                ∧ (s.bus.waiting = [] → (∀ w ∈ s.bus.requests, w.kind ≠ .presence) →
                  (t.bus.requests ++ t.bus.waiting).getLast? = some
                    { kind := .presence, dest := 0, src := BitVec.ofNat 8 (ownNumber s), seq := 0,
                      payload := [if s.life.state = .leaving then 2 else 1, if (cfg s).airing then 1 else 0] })

/-! ## The bus line -/

/-- R148, R75, R89, R141: a run of 2 to 4 character times that another station drove is a mark: MARKS-HEARD rises, and
an ALIGNED member with no cycle in progress starts one and drops its pending mark; in LEAVING with both air queues empty
only the pending mark goes, here and at the own break; with a cycle in progress the mark is ignored and counted. A run
this station drove passes no mark; a short break is only counted. Each of them discards a frame under reception, as a
framing error. R144, R147: with the pending mark set and a gap of 2 character times the station's own break begins,
MARKS-SENT rises, and its ALIGNED cycle starts; BUS_TX is released after 33 bit times, while the run may go on. In the
stopped condition breaks and short breaks are heard alike.
The model's choice: notes/assumptions/5.md, notes/assumptions/14.md, notes/assumptions/19.md. -/
def Obligations.BreaksCarryMarks : Prop :=
  ∀ starts : State → Prop, starts = (fun s => s.life.state = .onBus
    ∨ (s.life.state = .leaving ∧ (s.air.regular ≠ [] ∨ s.air.priority ≠ []))) →
  (∀ (bits : Nat) (s : State) (n : BusCounts), running s = true →
    n = { s.bus.counts with framingErrors := framingRaised s } →
    (22 ≤ bits → bits ≤ 44 → s.bus.drove = true →
      exec (.breakHeard bits) s = .next { s with bus := { s.bus with
        rx := none, run := 0, drove := false, counts := n,
        tx := if s.bus.tx = .breaking then .idle else s.bus.tx } })
    ∧ (22 ≤ bits → bits ≤ 44 → s.bus.drove = false → ∀ m : BusCounts,
      m = { n with marksHeard := min (n.marksHeard + 1) 65535 } →
      (member s = false ∨ (cfg s).mode = .free →
        exec (.breakHeard bits) s = .next { s with bus := { s.bus with rx := none, run := 0, counts := m } })
      ∧ (member s = true → (cfg s).mode = .aligned → s.air.cycle ≠ none →
        exec (.breakHeard bits) s = .next { s with
          bus := { s.bus with rx := none, run := 0, counts := m },
          air := { s.air with counts := { s.air.counts with
            marksIgnored := min (s.air.counts.marksIgnored + 1) 65535 } } })
      ∧ (s.life.state = .leaving → (cfg s).mode = .aligned → s.air.cycle = none → s.air.regular = [] →
        s.air.priority = [] → exec (.breakHeard bits) s = .next { s with
          bus := { s.bus with rx := none, run := 0, counts := m, pendingMark := false } })
      ∧ (starts s → (cfg s).mode = .aligned → s.air.cycle = none →
        ∃ y, exec (.breakHeard bits) s = .next { s with
            bus := { s.bus with rx := none, run := 0, counts := m, pendingMark := false },
            air := { s.air with
              cycle := some y, key := y.keyed, lastCell := if y.keyed then some 0xB4E61D else s.air.lastCell,
              timer := some (s.tick + BitVec.ofNat 32 (19 * (cfg s).slotTime)) } }
          ∧ y.start = s.tick ∧ (y.keyed = true ↔ ∃ e ∈ s.air.regular ++ s.air.priority, e.state = .queued)
          ∧ y.cells = [] ∧ y.continuing = none ∧ y.report = [] ∧ y.stopped = false ∧ y.nextSlot = 0
          ∧ y.pageCells = 0 ∧ y.idleCells = 0 ∧ y.skipped = 0))
    ∧ (11 < bits → bits < 22 → s.bus.drove = false →
      exec (.shortBreak bits) s = .next { s with bus := { s.bus with
        rx := none, run := 0, counts := { n with shortBreaks := min (n.shortBreaks + 1) 65535 } } }))
  ∧ (∀ (gap : Nat) (s : State), running s = true → s.bus.tx = .idle → s.bus.stopped = false → s.bus.pendingMark = true →
    22 ≤ gap → ∃ t, exec (.breakStart gap) s = .next t
      ∧ t = { s with bus := { s.bus with tx := .breaking, drove := true, pendingMark := false }, air := t.air }
      ∧ t.air.counts.marksSent = min (s.air.counts.marksSent + 1) 65535
      ∧ t.air.regular = s.air.regular ∧ t.air.priority = s.air.priority
      ∧ (s.life.state = .leaving → (cfg s).mode = .aligned → s.air.cycle = none → s.air.regular = [] →
          s.air.priority = [] → t.air = { s.air with counts := t.air.counts })
      ∧ (starts s → (cfg s).mode = .aligned → s.air.cycle = none →
          ∃ y, t.air.cycle = some y ∧ y.start = s.tick ∧ t.air.key = y.keyed
            ∧ t.air.timer = some (s.tick + BitVec.ofNat 32 (19 * (cfg s).slotTime)))
      ∧ (s.air.cycle ≠ none → t.air.cycle = s.air.cycle))
  ∧ ∀ (bits : Nat) (p : List Byte) (s : State), running s = true → s.bus.tx = .breaking →
    ∃ t, exec (.readCounts p { heard := [], run := bits }) s = .next t
      ∧ t.bus = { s.bus with run := bits, tx := if 33 ≤ bits then .idle else .breaking }

/-- R149, R150, R164, R141: a stuck line latches BUS-STUCK, stops transmission with the frame back at the head of its
queue, discards a frame under reception, and makes every peer ABSENT; ATTN_N is low after it. After a character time of
quiet the stopped condition ends, and the peers stay as they are. -/
def Obligations.StuckLineStopsTransmission : Prop :=
  (∀ s : State, running s = true → (∀ cs, s.bus.tx ≠ .answer cs true ∧ s.bus.tx ≠ .request cs true) →
    ∃ t, exec .stuckLine s = .next t
      ∧ t = { s with
          port := { s.port with busStuck := true },
          bus := { s.bus with
            tx := .idle, stopped := true, rx := none, run := 45, drove := false,
            counts := { s.bus.counts with
              framingErrors := framingRaised s, stuckEvents := min (s.bus.counts.stuckEvents + 1) 65535 } },
          exchange := { s.exchange with presence := t.exchange.presence } }
      ∧ (∀ k : Fin 24, t.exchange.presence[k.val] =
          { s.exchange.presence[k.val] with present := false, absenceDue := none })
      ∧ attention t = true)
  ∧ ∀ (quiet : Nat) (s : State), running s = true → s.bus.stopped = true → 11 ≤ quiet →
    exec (.stoppedConditionEnd quiet) s = .next { s with bus := { s.bus with stopped := false, run := 0 } }

/-- R143, R144, R137, R138, R139: with no mark pending, the head of the answer queue starts at a gap of 3 character times;
the head of the request queue starts at 5, and only while no answer is queued. What goes on the line is the frame's
characters and its CRC, each a dominant start bit, the data bits from the least significant, a mark bit that is recessive
in the address alone, and a recessive stop bit. R140: a receiver of this station, with no frame under reception, that hears
the characters of another station's frame for it, completes that frame: its parts are those sent. -/
def Obligations.TransmissionStartsByClass : Prop :=
  (∀ (gap : Nat) (f : Frame) (body : List Byte) (s : State), running s = true → s.bus.tx = .idle →
    s.bus.stopped = false → s.bus.pendingMark = false →
    body = [f.dest, f.src, kindCode f.kind, f.seq, BitVec.ofNat 8 f.payload.length] ++ f.payload →
    ∃ cs : List BusChar, cs.length = body.length + 2
      ∧ (∀ (i : Nat) (c : BusChar), cs[i]? = some c →
        c.getLsbD 0 = false ∧ some (c.extractLsb' 1 8) = (body ++ be2 (crc body).toNat)[i]?
          ∧ c.getLsbD 9 = decide (i = 0) ∧ c.getLsbD 10 = true)
      ∧ (s.bus.answers.head? = some f → (33 ≤ gap →
          exec (.transmissionStart gap) s = .next { s with bus := { s.bus with tx := .answer cs false } })
        ∧ (gap < 33 → exec (.transmissionStart gap) s = .next s))
      ∧ (s.bus.answers = [] → s.bus.requests.head? = some f → (55 ≤ gap →
          exec (.transmissionStart gap) s = .next { s with bus := { s.bus with tx := .request cs false } })
        ∧ (gap < 55 → exec (.transmissionStart gap) s = .next s)))
  ∧ ∀ (f : Frame) (s : State), running s = true → s.bus.stopped = false → s.bus.rx = none →
    f.dest = 0 ∨ isOwn s f.dest.toNat = true → f.payload.length ≤ 96 → 1 ≤ f.src.toNat → f.src.toNat ≤ 24 →
    isOwn s f.src.toNat = false →
    hears (frameChars f)
      { dest := f.dest, src := f.src, kind := kindCode f.kind, seq := f.seq, payload := f.payload } s

/-- R145, R146, R151, R152, R160: an answer sent whole leaves its queue; a request sent whole leaves its queue, a waiting
frame takes its place, and its entry becomes SENT, a CANCEL and a WITHDRAW starting their timers there. A transmission
that loses arbitration keeps its frame at the head of its queue. -/
def Obligations.FrameSentLeavesQueue : Prop :=
  (∀ (cs : List BusChar) (f : Frame) (rest : List Frame) (s : State), running s = true → s.bus.tx = .answer cs false →
    s.bus.answers = f :: rest → exec .frameSent s = .next { s with bus := { s.bus with
      tx := .idle, answers := rest,
      counts := { s.bus.counts with framesSent := min (s.bus.counts.framesSent + 1) 65535 } } })
  ∧ (∀ (cs : List BusChar) (f : Frame) (rest : List Frame) (e : Outstanding) (s : State), running s = true →
    s.bus.tx = .request cs false → s.bus.requests = f :: rest → rest.length < 32 → f.kind ≠ .presence →
    e ∈ s.exchange.table → TableSound s.exchange.table → frameOf e.key f = true → ∃ t, exec .frameSent s = .next t
      ∧ t = { s with bus := t.bus, exchange := { s.exchange with table := t.exchange.table } }
      ∧ t.bus.tx = .idle ∧ t.bus.answers = s.bus.answers
      ∧ t.bus.requests = rest ++ s.bus.waiting.take (32 - rest.length)
      ∧ t.bus.waiting = s.bus.waiting.drop (32 - rest.length)
      ∧ t.bus.counts = { s.bus.counts with framesSent := min (s.bus.counts.framesSent + 1) 65535 }
      ∧ findEntry t e.key = some { e with
          phase := .sent,
          due := if e.key.kind = .cancel then some (s.tick + BitVec.ofNat 32 (cfg s).replyTimeout)
            else if e.key.kind = .withdraw then
              some (s.tick + BitVec.ofNat 32 ((cfg s).replyTimeout + 17 * (cfg s).slotTime))
            else e.due })
  ∧ ∀ (txFault : Bool) (s : State), running s = true →
    (∃ cs, s.bus.tx = .answer cs false ∨ s.bus.tx = .request cs false) →
    exec (.lostArbitration txFault) s = .next { s with bus := { s.bus with
      tx := .idle,
      counts := { s.bus.counts with
        lostArbitration := min (s.bus.counts.lostArbitration + 1) 65535,
        txFaults := if txFault then min (s.bus.counts.txFaults + 1) 65535 else s.bus.counts.txFaults } } }

/-- R165, R167, R168, R89, R93, R147: the fresh PRESENCE sent whole brings JOINING to ON-BUS with the ALIGNED cycle timer
started; the leaving PRESENCE sent whole brings LEAVING to CONFIGURED, with the cycle ended, the timers stopped, the
pending mark removed and the reverse FIFO emptied; any PRESENCE sent whole sets the presence interval.
The model's choice: notes/assumptions/16.md. -/
def Obligations.PresenceSentMovesStation : Prop :=
  ∀ (cs : List BusChar) (f : Frame) (st fl : Byte) (s : State), running s = true → s.bus.tx = .request cs false →
    s.bus.requests = [f] → s.bus.waiting = [] → f.kind = .presence → f.payload = [st, fl] → st = 1 ∨ st = 2 →
    fl.toNat ≤ 5 → ∃ t, exec .frameSent s = .next t
      ∧ t.exchange.counts.presenceSent = min (s.exchange.counts.presenceSent + 1) 65535
      ∧ t.bus.requests = [] ∧ t.bus.tx = .idle
      ∧ (s.life.state = .onBus → t = { s with bus := t.bus, exchange := t.exchange }
          ∧ t.exchange.intervalDue = some (s.tick + BitVec.ofNat 32 (100 * (cfg s).presenceTimeout / 3)))
      ∧ (s.life.state = .joining → fl.getLsbD 1 = true →
          t = { s with life := { s.life with state := .onBus }, air := t.air, bus := t.bus, exchange := t.exchange }
          ∧ t.air = { s.air with timer :=
              if (cfg s).mode = .aligned then some (s.tick + BitVec.ofNat 32 (19 * (cfg s).slotTime)) else none }
          ∧ t.exchange.intervalDue = some (s.tick + BitVec.ofNat 32 (100 * (cfg s).presenceTimeout / 3)))
      ∧ (s.life.state = .leaving → fl.getLsbD 2 = true → airEmpty s = true →
          (∀ y, s.air.cycle = some y → y.report = []) →
          t = { s with life := { s.life with state := .configured }, air := t.air, matcher := t.matcher, bus := t.bus,
                       exchange := t.exchange }
          ∧ t.exchange.intervalDue = none ∧ t.bus.pendingMark = false ∧ t.air.cycle = none ∧ t.air.timer = none
          ∧ t.matcher.fifo = [] ∧ t.matcher.counts = { s.matcher.counts with
              ignored := min (s.matcher.counts.ignored + s.matcher.fifo.length) 65535 }
          ∧ ∀ y, s.air.cycle = some y → t.air.key = false
            ∧ t.air.cycleCounts.cycles = s.air.cycleCounts.cycles + 1
            ∧ t.air.cycleCounts.idleCells = s.air.cycleCounts.idleCells + BitVec.ofNat 32 y.idleCells)

/-! ## The Page Store, the Retry Queue and the outstanding table -/

/-- R47, R48, R49, R50, R54, R62: the head of the issue queue is issued. Its zones are those of the attempt's row, in
ascending order, each SENT or ABSENT; while table or request queue is short of room for the remote SENT zones nothing
changes; with no SENT zone the attempt is void and the delivery goes to RETRY-WAIT; otherwise one AIR-REQUEST for each
remote SENT zone joins the table and the request queue, and the own zone's request is admitted or refused within the
event: ACCEPTED puts it at the tail of its air queue; REFUSED leaves the attempt open while another zone could air, and
closes it void otherwise. With M = 1 and the final sweep clear the row a = M applies to the first attempt.
The model's choice: notes/assumptions/4.md, notes/assumptions/10.md. -/
def Obligations.IssueRequestsEveryZone : Prop :=
  ∀ (offpeak : Bool) (k : Fin 256) (rest : List (Fin 256)) (d : Delivery) (r : Subscriber) (p : Plan) (a : Nat)
    (zones sent : List Nat) (s : State), member s = true → s.store.issue = k :: rest →
    (s.store.slots[k.val]).held = some d → s.directory[d.subscriber]? = some r → p = s.plans[r.plan.val] →
    a = d.counted + 1 →
    zones = ((List.range 24).map (· + 1)).filter (fun z =>
      if a = p.maxAttempts ∧ p.finalSweep = true then zoneAirs s z
      else if a = 1 ∧ p.maxAttempts ≠ 1 then r.homeZones.getLsbD (z - 1)
      else r.homeZones.getLsbD (z - 1) || (p.widening && r.wideZones.getLsbD (z - 1))) →
    sent = zones.filter (fun z => zoneAirs s z && !isOwn s z) →
    ∀ (opened : ZoneState → Nat → ZoneEntry) (waits : Delivery → Prop) (ask : AirAsk),
    opened = (fun own z =>
      { zone := z, state := if zoneAirs s z = false then .absent else if isOwn s z then own else .sent }) →
    waits = (fun x => x = { d with
      issued := true, attempt := none, state := .retryWait,
      due := some (s.tick + BitVec.ofNat 32
        (100 * (min (p.backoffBase * 2 ^ (max d.counted 1 - 1)) p.backoffCap + k.val % 4))) }) →
    ask =
      { tag := { home := BitVec.ofNat 8 (ownNumber s), slot := BitVec.ofFin k, gen := (s.store.slots[k.val]).gen,
                 attempt := BitVec.ofNat 8 a },
        address := r.address, cls := d.cls, cells := d.cells, body := d.body } →
    (96 < s.exchange.table.length + sent.length ∨ 32 < s.bus.requests.length + s.bus.waiting.length + sent.length →
      0 < sent.length → exec (.issue offpeak) s = .next s)
    ∧ ((∀ z ∈ zones, zoneAirs s z = false) → ∃ t, exec (.issue offpeak) s = .next t
        ∧ t = { s with pins := { s.pins with offpeak := offpeak }, store := t.store }
        ∧ t.store.issue = rest ∧ k ∈ t.store.retry
        ∧ ∃ x, (t.store.slots[k.val]).held = some x ∧ waits x)
    ∧ (s.exchange.table.length + sent.length ≤ 96 →
        s.bus.requests.length + s.bus.waiting.length + sent.length ≤ 32 →
        ∀ own : ZoneState, (∃ z ∈ zones, isOwn s z = true ∧ zoneAirs s z = true) →
          (own = if admission ask s = .accepted then .accepted else .refused) →
        (sent ≠ [] ∨ own = .accepted → ∃ t qs, exec (.issue offpeak) s = .next t ∧ qs.length = sent.length
          ∧ t = { s with pins := { s.pins with offpeak := offpeak }, store := t.store, air := t.air, bus := t.bus,
                         exchange := t.exchange }
          ∧ t.store = { s.store with
              issue := rest,
              slots := s.store.slots.set k.val { gen := (s.store.slots[k.val]).gen, held := some { d with
                issued := true, state := .airPending,
                attempt := some { number := a, ackDue := none, outcome := none, zones := zones.map (opened own) } } } }
          ∧ t.exchange.table = s.exchange.table ++ (sent.zip qs).map (fun x =>
              { key := { peer := x.1, seq := x.2, kind := .airRequest }, owner := .zone k x.1, phase := .queued,
                due := some (s.tick + BitVec.ofNat 32 (cfg s).replyTimeout) })
          ∧ t.bus = { s.bus with requests := s.bus.requests ++ (sent.zip qs).map (fun x =>
              { kind := .airRequest, dest := BitVec.ofNat 8 x.1, src := BitVec.ofNat 8 (ownNumber s), seq := x.2,
                payload := tagBytes ask.tag ++ be3 r.address ++ classChar d.cls :: BitVec.ofNat 8 d.cells :: d.body }) }
          ∧ (own = .accepted → findAir s ask.tag = none →
            t.air = { s.air with
              regular := if d.cls.priority then s.air.regular else s.air.regular ++ [newAirEntry ask],
              priority := if d.cls.priority then s.air.priority ++ [newAirEntry ask] else s.air.priority,
              counts := { s.air.counts with requestsAccepted := min (s.air.counts.requestsAccepted + 1) 65535 } })
          ∧ (own = .refused → t.air = { s.air with counts := t.air.counts }))
        ∧ (sent = [] → own = .refused → d.expiry = false → d.counted ≠ p.maxAttempts →
          ∃ t, exec (.issue offpeak) s = .next t
            ∧ t = { s with pins := { s.pins with offpeak := offpeak }, store := t.store,
                           air := { s.air with counts := t.air.counts } }
            ∧ t.store.issue = rest ∧ k ∈ t.store.retry ∧ ∃ x, (t.store.slots[k.val]).held = some x ∧ waits x))
    ∧ ((∃ z, z ∈ sent) → (∀ z ∈ zones, isOwn s z = true → zoneAirs s z = false) →
        s.exchange.table.length + sent.length ≤ 96 →
        s.bus.requests.length + s.bus.waiting.length + sent.length ≤ 32 →
        ∃ t qs, exec (.issue offpeak) s = .next t ∧ qs.length = sent.length
          ∧ t = { s with pins := { s.pins with offpeak := offpeak }, store := t.store, bus := t.bus,
                         exchange := t.exchange }
          ∧ t.store = { s.store with
              issue := rest,
              slots := s.store.slots.set k.val { gen := (s.store.slots[k.val]).gen, held := some { d with
                issued := true, state := .airPending,
                attempt := some { number := a, ackDue := none, outcome := none, zones := zones.map (opened .sent) } } } }
          ∧ t.exchange.table = s.exchange.table ++ (sent.zip qs).map (fun x =>
              { key := { peer := x.1, seq := x.2, kind := .airRequest }, owner := .zone k x.1, phase := .queued,
                due := some (s.tick + BitVec.ofNat 32 (cfg s).replyTimeout) })
          ∧ t.bus = { s.bus with requests := s.bus.requests ++ (sent.zip qs).map (fun x =>
              { kind := .airRequest, dest := BitVec.ofNat 8 x.1, src := BitVec.ofNat 8 (ownNumber s), seq := x.2,
                payload := tagBytes ask.tag ++ be3 r.address ++ classChar d.cls :: BitVec.ofNat 8 d.cells :: d.body }) })

/-- R46, R64, R123, R60, R61, R115: a lifetime that has run out ends a delivery in ISSUING or RETRY-WAIT as EXPIRED,
with the missed count raised and the retry charges credited by the plan's refund; in AIR-PENDING and AWAIT-ACK it sets
the expiry mark and closes the attempt MISSED, with the zones in ACCEPTED withdrawn (`ClosesAttempt`), and with none
left unresolved the attempt is counted and charged, or void, and the delivery EXPIRED at the same event (`Settles`); in
SETTLING it only sets the expiry mark. Before its tick nothing happens.
The model's choice: notes/assumptions/4.md, notes/assumptions/15.md, notes/assumptions/17.md. -/
def Obligations.LifetimeExpires : Prop :=
  ∀ (offpeak : Bool) (k : Fin 256) (d : Delivery) (r : Subscriber) (credit : Nat) (s : State),
    (s.store.slots[k.val]).held = some d → s.directory[d.subscriber]? = some r →
    credit = d.retryCharges * (s.plans[r.plan.val]).missRefund / 100 →
    ((s.tick - d.lifetimeDue).toInt < 0 → exec (.lifetimeExpiry offpeak k) s = .next s)
    ∧ (0 ≤ (s.tick - d.lifetimeDue).toInt → d.state = .settling →
      exec (.lifetimeExpiry offpeak k) s = .next { s with
        pins := { s.pins with offpeak := offpeak },
        store := { s.store with
          slots := s.store.slots.set k.val (Slot.mk (s.store.slots[k.val]).gen (some { d with expiry := true })) } })
    ∧ (∀ a, 0 ≤ (s.tick - d.lifetimeDue).toInt → d.state = .airPending ∨ d.state = .awaitAck → d.attempt = some a →
      (CloseWaits k a s → ∃ t, exec (.lifetimeExpiry offpeak k) s = .next t
        ∧ ClosesAttempt k { d with expiry := true } a .missed { s with pins := { s.pins with offpeak := offpeak } } t)
      ∧ (CloseSettles k d a s → ∃ t, exec (.lifetimeExpiry offpeak k) s = .next t
        ∧ Settles k { d with expiry := true } a .missed
          { s with pins := { s.pins with offpeak := offpeak }, air := closedAir k a s } t))
    ∧ (0 ≤ (s.tick - d.lifetimeDue).toInt → d.state = .issuing ∨ d.state = .retryWait → s.billing.queue.length < 128 →
      exec (.lifetimeExpiry offpeak k) s = .next { s with
        pins := { s.pins with offpeak := offpeak },
        directory := s.directory.set d.subscriber { r with
          periodTotal := r.periodTotal - credit, live := r.live - 1, missed := min (r.missed + 1) 65535 },
        store := slotEnded k s.store,
        billing := if credit = 0 then s.billing else { s.billing with
          seq := s.billing.seq + 1,
          queue := s.billing.queue ++ [
            { seq := s.billing.seq, kind := .missCredit, number := r.number,
              delivery := some (BitVec.ofFin k, (s.store.slots[k.val]).gen), attempt := none, cells := none,
              watchHigh := none, amount := credit, credit := true, offpeak := offpeak,
              totalAfter := r.periodTotal - credit, usageAfter := r.usage, tallies := none }] } })

/-- R58, R60, R61, R54, R105, R115: the ack wait that runs out in AWAIT-ACK closes the attempt MISSED. With an entry
unresolved the delivery waits in SETTLING, the zones in ACCEPTED withdrawn (`ClosesAttempt`); with none it settles, counted
and charged, into RETRY-WAIT with the capped doubling wait and the stagger of its slot, or ends EXPIRED at the last attempt
(`Settles`).
The model's choice: notes/assumptions/4.md, notes/assumptions/15.md, notes/assumptions/17.md. -/
def Obligations.AckWaitExpiryCloses : Prop :=
  ∀ (offpeak : Bool) (k : Fin 256) (d : Delivery) (a : Attempt) (due : Tick) (r : Subscriber) (p : Plan) (s : State),
    (s.store.slots[k.val]).held = some d → d.state = .awaitAck → d.attempt = some a → a.ackDue = some due →
    0 ≤ (s.tick - due).toInt → s.directory[d.subscriber]? = some r → p = s.plans[r.plan.val] →
    (CloseWaits k a s → ∃ t, exec (.ackWaitExpiry offpeak k) s = .next t
      ∧ ClosesAttempt k d a .missed { s with pins := { s.pins with offpeak := offpeak } } t)
    ∧ ((∀ z ∈ a.zones, z.state ≠ .accepted) → (∃ z ∈ a.zones, z.state = .sent) →
      exec (.ackWaitExpiry offpeak k) s = .next { s with
        pins := { s.pins with offpeak := offpeak },
        store := { s.store with slots := s.store.slots.set k.val { gen := (s.store.slots[k.val]).gen, held := some { d with
          state := .settling, attempt := some { a with outcome := some .missed, ackDue := none } } } } })
    ∧ (CloseSettles k d a s → ∃ t, exec (.ackWaitExpiry offpeak k) s = .next t
      ∧ Settles k d a .missed { s with pins := { s.pins with offpeak := offpeak }, air := closedAir k a s } t
      ∧ ((∃ z ∈ a.zones, z.state = .aired) → d.expiry = false →
        (d.counted + 1 ≠ p.maxAttempts → k ∈ t.store.retry ∧ t.store.issue = s.store.issue
          ∧ t.store.scheduled = min (s.store.scheduled + 1) 65535
          ∧ ∃ x, (t.store.slots[k.val]).held = some x ∧ x.counted = d.counted + 1 ∧ x.attempt = none
            ∧ x.state = .retryWait ∧ x.due = some (s.tick + BitVec.ofNat 32
                (100 * (min (p.backoffBase * 2 ^ d.counted) p.backoffCap + k.val % 4))))
        ∧ (d.counted + 1 = p.maxAttempts → t.store = slotEnded k s.store
          ∧ ∃ x, t.directory[d.subscriber]? = some x ∧ x.live = r.live - 1 ∧ x.missed = min (r.missed + 1) 65535)))

/-- R35, R37, R55, R59, R61, R62, R162: a reply timer that runs out raises REPLY-TIMEOUTS. A CANCEL is freed and counted
CANCEL-UNANSWERED. The zone of an AIR-REQUEST or a WITHDRAW becomes LOST and its entry is freed: the delivery stays in
AIR-PENDING while another zone can still air, in AWAIT-ACK in any case, and in SETTLING while another is unresolved; with
none left the attempt settles, one in AIR-PENDING closed MISSED, void into RETRY-WAIT when no zone is AIRED (`Settles`). A
FORWARD's line gives UNREACHABLE and its entry becomes a CANCEL.
The model's choice: notes/assumptions/4.md. -/
def Obligations.ReplyTimeoutCompletesEntry : Prop :=
  ∀ (offpeak : Bool) (e : Outstanding) (due : Tick) (s : State), findEntry s e.key = some e →
    e.phase = .queued ∨ e.phase = .sent → e.due = some due → 0 ≤ (s.tick - due).toInt →
    ∃ t, exec (.replyTimeout offpeak e.key) s = .next t
      ∧ t.exchange.counts.replyTimeouts = min (s.exchange.counts.replyTimeouts + 1) 65535
      ∧ (e.key.kind = .cancel → t = { s with pins := { s.pins with offpeak := offpeak }, intake := t.intake, bus := t.bus,
                                             exchange := t.exchange }
          ∧ t.intake = { s.intake with counts := { s.intake.counts with
              cancelUnanswered := min (s.intake.counts.cancelUnanswered + 1) 65535 } }
          ∧ ∀ x ∈ t.exchange.table, x.key ≠ e.key)
      ∧ (∀ (k : Fin 256) (z : Nat) (d : Delivery) (a : Attempt) (y : ZoneEntry), e.owner = .zone k z →
          (s.store.slots[k.val]).held = some d → d.attempt = some a → a.zones.find? (fun x => x.zone == z) = some y →
          e.key.kind = .airRequest ∨ e.key.kind = .withdraw → unresolved y.state = true →
          (∀ x ∈ t.exchange.table, x.key ≠ e.key)
          ∧ ∀ (lost : Attempt) (freed : State),
            lost = { a with zones := a.zones.map fun x => if x.zone = z then { x with state := .lost } else x } →
            freed = { s with pins := { s.pins with offpeak := offpeak }, bus := t.bus, exchange := t.exchange } →
            (d.state = .awaitAck
                ∨ (d.state = .airPending ∧ ∃ x ∈ a.zones, x.zone ≠ z ∧ couldAir x.state = true)
                ∨ (d.state = .settling ∧ ∃ x ∈ a.zones, x.zone ≠ z ∧ unresolved x.state = true) →
              t = { freed with store := { s.store with
                slots := s.store.slots.set k.val (Slot.mk (s.store.slots[k.val]).gen (some { d with attempt := some lost })) } })
            ∧ ((s.directory[d.subscriber]?).isSome = true →
              (∀ x ∈ a.zones, x.zone ≠ z → unresolved x.state = false) →
              (d.state = .airPending → Settles k d lost .missed freed t)
              ∧ ∀ o, d.state = .settling → a.outcome = some o → Settles k d lost o freed t))
      ∧ (∀ k : Fin 8, e.key.kind = .forward → e.owner = .line k → (s.intake.lines[k.val]).state = .lookup →
          (s.intake.lines[k.val]).lookup = some e.key → (s.intake.lines[k.val]).fifo = [] →
          TableSound s.exchange.table →
          (t.intake.lines[k.val]).txBuffer = some { byte := 0x48, rate := (s.intake.lines[k.val]).rate }
          ∧ (t.intake.lines[k.val]).lookup = none
          ∧ (t.intake.lines[k.val]).state = (if (s.intake.lines[k.val]).overrun then .halted else .awaitOpen)
          ∧ ∃ x ∈ t.exchange.table, x.key.peer = e.key.peer ∧ x.key.kind = .cancel ∧ x.owner = e.owner ∧ x.due = none
            ∧ ∃ f ∈ t.bus.requests ++ t.bus.waiting, f.kind = .cancel ∧ f.payload = [e.key.seq] ∧ f.seq = x.key.seq)

/-- R108, R47, R110: the deliveries at the head of the Retry Queue whose due ticks are reached are released, within the one
event and in queue order, to the tail of the issue queue, in ISSUING with nothing else of them changed; the first whose due
tick is not reached stays, with all after it. -/
def Obligations.RetryReleaseIssuesDueHeads : Prop :=
  ∀ (ks rest : List (Fin 256)) (s : State), member s = true → s.store.retry = ks ++ rest → ks ≠ [] →
    s.store.retry.Nodup →
    (∀ k ∈ ks, ∃ d due, (s.store.slots[k.val]).held = some d ∧ d.due = some due ∧ 0 ≤ (s.tick - due).toInt) →
    (∀ j, rest.head? = some j → ∃ x y, (s.store.slots[j.val]).held = some x ∧ x.due = some y
      ∧ (s.tick - y).toInt < 0) →
    ∃ t, exec .retryRelease s = .next t
      ∧ t = { s with store := { s.store with
          retry := rest, issue := s.store.issue ++ ks, released := min (s.store.released + ks.length) 65535,
          slots := t.store.slots } }
      ∧ (∀ k ∈ ks, ∀ d, (s.store.slots[k.val]).held = some d → t.store.slots[k.val] =
          Slot.mk (s.store.slots[k.val]).gen (some { d with due := none, state := .issuing }))
      ∧ ∀ k, k ∉ ks → t.store.slots[k.val] = s.store.slots[k.val]

/-! ## The Air Scheduler -/

/-- R72, R73, R74, R89: in FREE mode a keyed cycle starts when an entry is QUEUED. In ALIGNED mode the cycle timer sets
the pending mark and runs again; with a mark still pending it starts an unmarked cycle, which is counted; in LEAVING
with both queues empty it only removes the pending mark and stops. -/
def Obligations.CyclesStart : Prop :=
  (∀ s : State, member s = true → (cfg s).mode = .free → s.air.cycle = none →
    (∃ e ∈ s.air.regular ++ s.air.priority, e.state = .queued) →
    ∃ y, exec .freeCycleStart s = .next { s with air := { s.air with
        cycle := some y, key := true, lastCell := some 0xB4E61D } }
      ∧ y.start = s.tick ∧ y.keyed = true ∧ y.cells = [] ∧ y.continuing = none ∧ y.report = [] ∧ y.stopped = false
      ∧ y.nextSlot = 0)
  ∧ ∀ (due : Tick) (s : State), (cfg s).mode = .aligned → s.air.cycle = none → s.air.timer = some due →
    0 ≤ (s.tick - due).toInt →
    (s.life.state = .leaving → s.air.regular = [] → s.air.priority = [] → exec .cycleTimerExpiry s = .next { s with
        bus := { s.bus with pendingMark := false }, air := { s.air with timer := none } })
    ∧ (s.life.state = .onBus ∨ (s.life.state = .leaving ∧ (s.air.regular ≠ [] ∨ s.air.priority ≠ [])) →
      (s.bus.pendingMark = false → exec .cycleTimerExpiry s = .next { s with
        bus := { s.bus with pendingMark := true },
        air := { s.air with timer := some (s.tick + BitVec.ofNat 32 (19 * (cfg s).slotTime)) } })
      ∧ (s.bus.pendingMark = true → ∃ t y, exec .cycleTimerExpiry s = .next t
        ∧ t = { s with bus := { s.bus with pendingMark := false }, air := t.air }
        ∧ t.air.cycle = some y ∧ y.start = s.tick ∧ t.air.key = y.keyed
        ∧ t.air.regular = s.air.regular ∧ t.air.priority = s.air.priority
        ∧ t.air.counts = { s.air.counts with unmarkedCycles := min (s.air.counts.unmarkedCycles + 1) 65535 }
        ∧ t.air.timer = some (s.tick + BitVec.ofNat 32 (19 * (cfg s).slotTime))))

/-- R76, R77, R78: an enabled slot of a keyed cycle whose time has come. READY low skips it and returns a continuing
page to QUEUED with its returned mark set. READY high assigns its 8 cells: the continuing page first, then the head of
the priority queue before the head of the regular one when it fits what the cycle has left and was not returned, else
the starting of pages stops. A page started is PACKED and on the report list; one of more than 8 cells fills the slot with
its first 8 and continues.
The model's choice: notes/assumptions/4.md, notes/assumptions/20.md. -/
def Obligations.SlotIsFilledOrSkipped : Prop :=
  ∀ (slot room : Nat) (y : Cycle) (s : State), s.air.cycle = some y → y.keyed = true → y.cells = [] →
    nextEnabled (cfg s) y = some slot → instantReached s.tick y.start (slotOffset (cfg s) slot) = true →
    room = 8 + 8 * ((enabledSlots (cfg s)).filter fun j => decide (slot < j)).length →
    (∃ t z, exec (.slotStart false) s = .next t ∧ t.air.cycle = some z
      ∧ t = { s with pins := { s.pins with ready := false }, air := t.air }
      ∧ z.nextSlot = slot + 1 ∧ z.cells = [] ∧ z.continuing = none ∧ z.skipped = y.skipped + 1
      ∧ (∀ c, y.continuing = some c → ∀ q : AirEntry → AirEntry,
          q = (fun e => if e.tag = c.tag then { e with state := .queued, returned := true } else e) →
          t.air.regular = s.air.regular.map q ∧ t.air.priority = s.air.priority.map q)
      ∧ (y.continuing = none → t.air.regular = s.air.regular ∧ t.air.priority = s.air.priority))
    ∧ ∃ t z, exec (.slotStart true) s = .next t ∧ t.air.cycle = some z
      ∧ t = { s with pins := { s.pins with ready := true }, air := t.air }
      ∧ z.nextSlot = slot + 1 ∧ z.cells.length = 8
      ∧ t.air.regular.map (·.tag) = s.air.regular.map (·.tag) ∧ t.air.priority.map (·.tag) = s.air.priority.map (·.tag)
      ∧ (∀ c, y.continuing = some c →
          (z.cells.take (min 8 c.cells.length)).map (fun x => (x.bits, x.page)) =
            (c.cells.take 8).map fun b => (b, some c.tag))
      ∧ (∀ e, y.continuing = none → y.stopped = false →
          (s.air.priority ++ s.air.regular).find? (fun x => x.state == .queued) = some e →
          (e.returned = true ∨ room < e.cells →
            z.stopped = true ∧ z.report = y.report ∧ t.air.regular = s.air.regular ∧ t.air.priority = s.air.priority
            ∧ ∀ x ∈ z.cells, x.bits = 0xAAAAAA ∧ x.page = none)
          ∧ (e.returned = false → 2 ≤ e.cells → e.cells ≤ room → ∀ item : ReportItem,
            item = { tag := e.tag, priority := s.air.priority.any (fun x => x.state == .queued), outcome := .started } →
            item ∈ z.report
            ∧ (∀ x ∈ t.air.regular ++ t.air.priority, x.tag = e.tag → x.state = .packed)
            ∧ (z.cells.take e.cells).map (fun x => (x.bits, x.page)) = ((pageCells e).take 8).map (fun b => (b, some e.tag))
            ∧ (8 < e.cells → z.continuing = some { tag := e.tag, cells := (pageCells e).drop 8 } ∧ z.stopped = false
              ∧ z.report = y.report ++ [item] ∧ ∀ x ∈ z.cells, x.last = false)))

/-- R79, R80: the next cell of the slot is handed when its instant has come; a page cell and an idle cell are counted
apart, and the last cell of a page makes it DONE-IN-CYCLE.
The model's choice: notes/assumptions/20.md. -/
def Obligations.CellIsHanded : Prop :=
  ∀ (y : Cycle) (c : SlotCell) (rest : List SlotCell) (s : State), s.air.cycle = some y → y.cells = c :: rest →
    instantReached s.tick y.start (y.slotBegin + (7 - rest.length) * (cfg s).slotTime) = true →
    (c.page = none → exec .cellHanded s = .next { s with air := { s.air with
      lastCell := some c.bits, cycle := some { y with cells := rest, idleCells := y.idleCells + 1 } } })
    ∧ (∀ g, c.page = some g → c.last = false → exec .cellHanded s = .next { s with air := { s.air with
      lastCell := some c.bits, cycle := some { y with cells := rest, pageCells := y.pageCells + 1 } } })
    ∧ (∀ (g : Tag) (done : AirEntry → AirEntry), c.page = some g → c.last = true →
      done = (fun e => if e.tag = g then { e with state := .done } else e) →
      exec .cellHanded s = .next { s with air := { s.air with
        lastCell := some c.bits, regular := s.air.regular.map done, priority := s.air.priority.map done,
        cycle := some { y with
          cells := rest, pageCells := y.pageCells + 1,
          report := y.report.map fun i =>
            if i.tag = g ∧ i.outcome = .started then { i with outcome := .done } else i } } })

/-- R82, R83, R85, R86, R72, R73, R53, R54: at cycle end the pages that reached DONE-IN-CYCLE leave the queues, the
returned marks are cleared, and the counts are published; KEY is deasserted and no cycle is in progress, unless FREE
mode starts the next keyed cycle at this event for an entry still QUEUED, with KEY asserted across the boundary. The
tags of the peers' pages go to them in AIRED frames of up to 24 tags, in ascending order of home station and in list
order within one, and after them a returned entry with a withdraw pending is answered WITHDRAWN and leaves; a page of
this station goes to its own Page Store as an AIRED report from the own zone, and its returned entry with a withdraw
pending as WITHDRAWN.
The model's choice: notes/assumptions/4.md, notes/assumptions/9.md, notes/assumptions/15.md, notes/assumptions/20.md. -/
def Obligations.CycleEndReportsPages : Prop :=
  ∀ (offpeak : Bool) (y : Cycle) (tags : List Tag) (owed : List AirEntry) (s : State), s.air.cycle = some y →
    y.cells = [] → (y.keyed = true → nextEnabled (cfg s) y = none) →
    instantReached s.tick y.start (endOffset (cfg s)) = true →
    tags = (y.report.filter fun i => i.outcome == .done).map (·.tag) →
    owed = (s.air.regular ++ s.air.priority).filter (fun e => e.returned && e.withdraw.isSome) →
    ∃ t, exec (.cycleEnd offpeak) s = .next t
      ∧ t.air.timer = s.air.timer
      ∧ (∀ restarts : Prop, (restarts ↔ member s = true ∧ (cfg s).mode = .free
          ∧ ∃ e ∈ t.air.regular ++ t.air.priority, e.state = .queued) →
        (¬ restarts → t.air.cycle = none ∧ t.air.key = false ∧ t.air.lastCell = s.air.lastCell)
        ∧ (restarts → t.air.key = true ∧ t.air.lastCell = some 0xB4E61D
          ∧ ∃ x, t.air.cycle = some x ∧ x.start = s.tick ∧ x.keyed = true ∧ x.cells = [] ∧ x.continuing = none
            ∧ x.report = [] ∧ x.stopped = false ∧ x.nextSlot = 0))
      ∧ (∀ keep : List AirEntry → List AirEntry, keep = (fun q =>
          (q.filter fun e => !(e.state == .done || (e.returned && e.withdraw.isSome))).map fun e =>
            { e with returned := false }) →
        (∀ g ∈ tags, isOwn s g.home.toNat = false) →
        (∀ e ∈ s.air.regular ++ s.air.priority, ∀ w, e.withdraw = some w → isOwn s w.station = false) →
          t.air.regular = keep s.air.regular ∧ t.air.priority = keep s.air.priority)
      ∧ t.air.cycleCounts = {
          cycles := s.air.cycleCounts.cycles + 1,
          pagesAired := s.air.cycleCounts.pagesAired + BitVec.ofNat 32 tags.length,
          cellsAired := s.air.cycleCounts.cellsAired + BitVec.ofNat 32 y.pageCells,
          idleCells := s.air.cycleCounts.idleCells + BitVec.ofNat 32 y.idleCells,
          slotsSkipped := s.air.cycleCounts.slotsSkipped + BitVec.ofNat 32 y.skipped,
          priorityPages := s.air.cycleCounts.priorityPages
            + BitVec.ofNat 32 (y.report.filter fun i => i.outcome == .done && i.priority).length }
      ∧ (∀ (homes : List Byte) (cut : List Tag → List (List Tag)) (aired answers : List Frame),
          homes.Pairwise (fun x y => x.toNat < y.toNat) → (∀ h, h ∈ homes ↔ ∃ g ∈ tags, g.home = h) →
          cut = (fun gs => (List.range ((gs.length + 23) / 24)).map fun i => (gs.drop (24 * i)).take 24) →
          (∀ h ∈ homes, isOwn s h.toNat = false) → owed.length ≤ 1 →
          (∀ e ∈ owed, ∀ w, e.withdraw = some w → isOwn s w.station = false) →
          aired = (homes.flatMap fun h => (cut (tags.filter fun g => g.home = h)).map fun gs =>
            { kind := .aired, dest := h, src := BitVec.ofNat 8 (ownNumber s), seq := Config.airedSequence s.tick,
              payload := gs.flatMap fun g => [g.home, g.slot, g.gen, g.attempt] }) →
          answers = (owed.filterMap (·.withdraw)).map (fun w =>
            { kind := .withdrawn, dest := BitVec.ofNat 8 w.station, src := BitVec.ofNat 8 (ownNumber s), seq := w.seq,
              payload := [0] }) →
          s.bus.answers.length + aired.length + answers.length ≤ 24 →
          t = { s with pins := { s.pins with offpeak := offpeak }, air := t.air, bus := { s.bus with
            answers := s.bus.answers ++ aired ++ answers } })
      ∧ (∀ (g : Tag) (d : Delivery) (a : Attempt) (z : ZoneEntry), isOwn s g.home.toNat = true →
          s.store.slots[g.slot.toNat] = { gen := g.gen, held := some d } → d.attempt = some a →
          a.number = g.attempt.toNat → a.zones.find? (fun e => e.zone == ownNumber s) = some z →
          entryOfZone s (tagSlot g) (ownNumber s) = none →
          ∀ zoneNow : Delivery → ZoneState → State, zoneNow = (fun x st => { s with
            pins := { s.pins with offpeak := offpeak }, air := t.air,
            store := { s.store with slots := s.store.slots.set g.slot.toNat (Slot.mk g.gen (some { x with
              attempt := x.attempt.map fun b => { b with
                zones := a.zones.map fun e => if e.zone = ownNumber s then { e with state := st } else e } })) } }) →
          (tags = [g] → owed = [] → unresolved z.state = true →
            (d.state = .airPending → t = zoneNow { d with
              state := .awaitAck, attempt := some { a with
                ackDue := some (s.tick + BitVec.ofNat 32 (100 * (planAt s d.subscriber).ackWait)) } } .aired)
            ∧ (d.state = .awaitAck → t = zoneNow d .aired))
          ∧ (∀ (e : AirEntry) (w : PendingWithdraw), tags = [] → owed = [e] → e.tag = g → e.withdraw = some w →
            isOwn s w.station = true → z.state = .withdrawing → d.state = .settling →
            (∃ x ∈ a.zones, x.zone ≠ ownNumber s ∧ unresolved x.state = true) → t = zoneNow d .withdrawn))

/-! ## The reverse port and the Matcher -/

/-- R91, R92: characters are gathered to five, and the sixth completes the report, which the first test it fails
discards: a framing mark, a field out of range or a check sum that is not 0 gives BAD-REPORT, a quality below the
minimum LOW-QUALITY, a station outside JOINING, ON-BUS and LEAVING IGNORED, a FIFO of 8 FIFO-FULL; otherwise it joins the
FIFO. A report cut short, and the first character after a complete one, raise BAD-REPORT. -/
def Obligations.ReportsAreGatheredAndJudged : Prop :=
  ∀ (char : Byte) (framing : Bool) (c : RxChar) (n : MatcherCounts) (s : State), running s = true →
    c = { byte := char, framing := framing } → n = s.matcher.counts →
    (s.matcher.run = .idle ∨ (∃ b, s.matcher.run = .complete b) → exec (.reportCharacterReceived char framing) s =
      .next { s with matcher := { s.matcher with run := .gathering [c] } })
    ∧ (∀ cs, s.matcher.run = .gathering cs → cs.length < 5 → exec (.reportCharacterReceived char framing) s =
      .next { s with matcher := { s.matcher with run := .gathering (cs ++ [c]) } })
    ∧ (∀ cs, s.matcher.run = .gathering cs → exec .shortReport s = .next { s with matcher := { s.matcher with
        run := .idle, counts := { n with badReport := min (n.badReport + 1) 65535 } } })
    ∧ (s.matcher.run = .complete false → exec .extraReportCharacter s = .next { s with matcher := { s.matcher with
        run := .complete true, counts := { n with badReport := min (n.badReport + 1) 65535 } } })
    ∧ (∀ c1 c2 c3 c4 c5 : RxChar, s.matcher.run = .gathering [c1, c2, c3, c4, c5] →
      ∀ (marked bad : Prop) (done : List Report → MatcherCounts → Prop),
      (marked ↔ ∃ x ∈ [c1, c2, c3, c4, c5, c], x.framing = true) →
      (bad ↔ ¬ (1 ≤ c1.byte.toNat ∧ c1.byte.toNat ≤ 24) ∨ ¬ (1 ≤ c4.byte.toNat ∧ c4.byte.toNat ≤ 7)
        ∨ 15 < c5.byte.toNat ∨ c1.byte + c2.byte + c3.byte + c4.byte + c5.byte + c.byte ≠ 0) →
      done = (fun q m => exec (.reverseReport char framing) s = .next { s with
        matcher := { fifo := q, run := .complete false, counts := m } }) →
      (marked ∨ bad → done s.matcher.fifo { n with badReport := min (n.badReport + 1) 65535 })
      ∧ (¬ marked → ¬ bad →
        (c5.byte.toNat < (cfg s).minQuality →
          done s.matcher.fifo { n with lowQuality := min (n.lowQuality + 1) 65535 })
        ∧ ((cfg s).minQuality ≤ c5.byte.toNat →
          (s.life.state = .configured → done s.matcher.fifo { n with ignored := min (n.ignored + 1) 65535 })
          ∧ (s.life.state ≠ .configured → 8 ≤ s.matcher.fifo.length →
            done s.matcher.fifo { n with fifoFull := min (n.fifoFull + 1) 65535 })
          ∧ (s.life.state ≠ .configured → s.matcher.fifo.length < 8 →
            done (s.matcher.fifo ++ [
              { tag := { home := c1.byte, slot := c2.byte, gen := c3.byte, attempt := c4.byte }, quality := c5.byte }])
              { n with reportsTaken := min (n.reportsTaken + 1) 65535 }))))

/-- R94, R95, R96, R98, R99, R57, R60, R61: the head of the reverse FIFO for a present peer is relayed as a HEARD notice
when the answer queue has room and waits otherwise; for an absent peer it is dropped and counted; for this station it
leaves the FIFO and is matched, STALE, DIRECT, TURNED, DUPLICATE or CLOSED (`ReportMatched`).
The model's choice: notes/assumptions/4.md, notes/assumptions/15.md, notes/assumptions/17.md. -/
def Obligations.MatcherRoutesHead : Prop :=
  ∀ (offpeak : Bool) (r : Report) (rest : List Report) (n : MatcherCounts) (s : State), member s = true →
    s.matcher.fifo = r :: rest → n = s.matcher.counts →
    (isOwn s r.tag.home.toNat = false → (presenceAt s r.tag.home.toNat).present = true →
      (s.bus.answers.length < 24 → exec (.matcherTakeHead offpeak) s = .next { s with
        pins := { s.pins with offpeak := offpeak },
        matcher := { s.matcher with fifo := rest, counts := { n with relayed := min (n.relayed + 1) 65535 } },
        bus := { s.bus with answers := s.bus.answers ++ [
          { kind := .heard, dest := r.tag.home, src := BitVec.ofNat 8 (ownNumber s), seq := 0,
            payload := [r.tag.home, r.tag.slot, r.tag.gen, r.tag.attempt, r.quality] }] } })
      ∧ (24 ≤ s.bus.answers.length → exec (.matcherTakeHead offpeak) s =
        .next { s with pins := { s.pins with offpeak := offpeak } }))
    ∧ (isOwn s r.tag.home.toNat = false → (presenceAt s r.tag.home.toNat).present = false →
      exec (.matcherTakeHead offpeak) s = .next { s with
        pins := { s.pins with offpeak := offpeak },
        matcher := { s.matcher with fifo := rest, counts := { n with homeAbsent := min (n.homeAbsent + 1) 65535 } } })
    ∧ (isOwn s r.tag.home.toNat = true → ReportMatched r.tag n
      (fun c => { s with
        pins := { s.pins with offpeak := offpeak }, matcher := { s.matcher with fifo := rest, counts := c } })
      s (exec (.matcherTakeHead offpeak) s))

/-! ## Presence, joining and leaving -/

/-- R164, R165, R167, R168: the absence due tick makes a peer ABSENT and is counted; the presence interval makes an
ordinary PRESENCE; the listen timer makes the fresh one; the drain makes the leaving one, once. The frame joins the
request queue, or waits for room. While a PRESENCE waits or is queued the interval makes no second one, and the leaving one
of the drain replaces an ordinary one, which leaves at that event; one in transmission stays, marked for removal, until it is
sent or withdraws.
The model's choice: notes/assumptions/15.md, notes/assumptions/16.md. -/
def Obligations.PresenceTimersAct : Prop :=
  (∀ (peer : Nat) (due : Tick) (s : State), 1 ≤ peer → peer ≤ 24 → (presenceAt s peer).present = true →
    (presenceAt s peer).absenceDue = some due → 0 ≤ (s.tick - due).toInt →
    ∃ t, exec (.presenceTimeout peer) s = .next t
      ∧ t = { s with exchange := { s.exchange with
          presence := t.exchange.presence,
          counts := { s.exchange.counts with
            peersTimedOut := min (s.exchange.counts.peersTimedOut + 1) 65535 } } }
      ∧ presenceAt t peer = { presenceAt s peer with present := false, absenceDue := none }
      ∧ ∀ n, n ≠ peer → presenceAt t n = presenceAt s n)
  ∧ (∀ (s : State) (made : Byte → Byte → Exchange → State), (∀ f ∈ s.bus.requests ++ s.bus.waiting, f.kind ≠ .presence) →
    made = (fun st fl x => { s with
      exchange := x,
      bus := if s.bus.requests.length + s.bus.waiting.length < 32
        then { s.bus with requests := s.bus.requests ++ [
          { kind := .presence, dest := 0, src := BitVec.ofNat 8 (ownNumber s), seq := 0, payload := [st, fl] }] }
        else { s.bus with waiting := s.bus.waiting ++ [
          { kind := .presence, dest := 0, src := BitVec.ofNat 8 (ownNumber s), seq := 0, payload := [st, fl] }] } }) →
    (∀ due, member s = true → s.exchange.intervalDue = some due → 0 ≤ (s.tick - due).toInt →
      exec .presenceInterval s = .next (made (if s.life.state = .leaving then 2 else 1)
        (if (cfg s).airing then 1 else 0) { s.exchange with intervalDue := none }))
    ∧ (∀ due, s.life.state = .joining → s.exchange.listenDue = some due → 0 ≤ (s.tick - due).toInt →
      exec .listenTimer s = .next (made 1 (if (cfg s).airing then 3 else 2) { s.exchange with listenDue := none }))
    ∧ (s.life.state = .leaving → s.exchange.leaveMade = false → (∀ k : Fin 256, (s.store.slots[k.val]).held = none) →
      s.air.regular = [] → s.air.priority = [] → s.exchange.table = [] →
      exec .drain s = .next (made 2 (if (cfg s).airing then 5 else 4) { s.exchange with leaveMade := true })))
  ∧ ∀ (s : State) (old : Frame), old ∈ keptRequests s → old.kind = .presence →
    (∀ due, member s = true → s.exchange.intervalDue = some due → 0 ≤ (s.tick - due).toInt →
      exec .presenceInterval s = .next { s with exchange := { s.exchange with intervalDue := none } })
    ∧ (s.life.state = .leaving → s.exchange.leaveMade = false → (∀ k : Fin 256, (s.store.slots[k.val]).held = none) →
      s.air.regular = [] → s.air.priority = [] → s.exchange.table = [] →
      (∀ x ∈ s.bus.requests ++ s.bus.waiting, x.kind = .presence → x.payload = [2, 0] ∨ x.payload = [2, 1]) →
      ∃ t f, exec .drain s = .next t
        ∧ t = { s with bus := t.bus, exchange := { s.exchange with leaveMade := true } }
        ∧ t.bus.answers = s.bus.answers
        ∧ (∀ sending : List Frame,
            sending = (match s.bus.tx with | .request _ _ => s.bus.requests.take 1 | _ => []) →
            (t.bus.requests ++ t.bus.waiting).filter (fun x => x.kind == .presence) =
              sending.filter (fun x => x.kind == .presence) ++ [f]
            ∧ ∀ cs removed x, s.bus.tx = .request cs removed → x ∈ sending → x.kind = .presence →
              t.bus.tx = .request cs true)
        ∧ f = { kind := .presence, dest := 0, src := BitVec.ofNat 8 (ownNumber s), seq := 0,
                payload := [2, if (cfg s).airing then 5 else 4] }
        ∧ (t.bus.requests ++ t.bus.waiting).filter (fun x => x.kind != .presence) =
            (s.bus.requests ++ s.bus.waiting).filter (fun x => x.kind != .presence))

/-- R167, R168, R165: JOIN enters JOINING and starts the listen timer; LEAVE enters LEAVING with an ordinary PRESENCE of
state LEAVING in place of any waiting or queued, or with the leaving one when the station is drained already. -/
def Obligations.JoinAndLeaveAnnounce : Prop :=
  (∀ s : State, portActs s → s.life.state = .configured → exec (.join []) s =
    .next (answered (.code 0x05) .done [] { s with
      life := { s.life with state := .joining },
      exchange := { s.exchange with
        listenDue := some (s.tick + BitVec.ofNat 32 (100 * (cfg s).presenceTimeout)) } }))
  ∧ ∀ (s : State) (fl : Byte), portActs s → s.life.state = .onBus → s.bus.tx = .idle →
    (∀ f ∈ s.bus.requests ++ s.bus.waiting, f.kind = .presence → f.payload = [1, 0] ∨ f.payload = [1, 1]) →
    fl = (if (cfg s).airing then 1 else 0) + (if (∀ k : Fin 256, (s.store.slots[k.val]).held = none)
      ∧ s.air.regular = [] ∧ s.air.priority = [] ∧ s.exchange.table = [] then 4 else 0) →
    ∃ t f, exec (.leave []) s = .next (answered (.code 0x06) .done [] t)
      ∧ t = { s with life := { s.life with state := .leaving }, bus := t.bus, exchange := t.exchange }
      ∧ t.bus.answers = s.bus.answers ∧ t.exchange.presence = s.exchange.presence
      ∧ (t.bus.requests ++ t.bus.waiting).filter (fun x => x.kind == .presence) = [f]
      ∧ f = { kind := .presence, dest := 0, src := BitVec.ofNat 8 (ownNumber s), seq := 0, payload := [2, fl] }
      ∧ (t.bus.requests ++ t.bus.waiting).filter (fun x => x.kind != .presence) =
          (s.bus.requests ++ s.bus.waiting).filter (fun x => x.kind != .presence)

/-! ## What every step keeps -/

/-- R2, R5, R26, R28, R47, R67, R91, R93, R106, R128, R138, R151, R152, R159: every queue, table and buffer, the issue and
Retry Queues, the receivers and the frame under reception included, keeps within its size at every step. R47, R106, R15: the
issue queue goes on holding exactly the deliveries in ISSUING and the Retry Queue exactly those in RETRY-WAIT, each once;
the live count of each record goes on being the number of its deliveries held; and the Retry Queue stays in order of due
tick, then of slot number, while its due ticks lie near enough to now for signed differences to order them (R106). -/
def Obligations.StepKeepsSizes : Prop :=
  ∀ s t : State, Fits s → StoreSound s → step s = .next t →
    Fits t ∧ StoreSound t
    ∧ ((∀ k : Fin 16, (s.plans[k.val]).backoffCap ≤ 3600) → DuesNear s → RetryOrdered s → RetryOrdered t)

/-- The invariants hold after power-on (R188). -/
def Obligations.ResetFits : Prop :=
  Fits State.reset ∧ StoreSound State.reset ∧ RetryOrdered State.reset ∧ DuesNear State.reset
    ∧ DirectorySound State.reset.directory ∧ MapSound State.reset.ranges ∧ TableSound State.reset.exchange.table
    ∧ LifeSound State.reset.life ∧ ∀ k : Fin 16, PlanValid State.reset.plans[k.val]

/-- R2, R3, R4, R5, R15, R111, R112: at every step the directory stays in ascending order with no number twice and every
field of every record within its values, the live-delivery count within 0 to 8, the home map stays ordered with no number
in two ranges, and the plans stay within their values. -/
def Obligations.StepKeepsDirectoryAndMapSound : Prop :=
  ∀ s t : State, DirectorySound s.directory → MapSound s.ranges → (∀ k : Fin 16, PlanValid s.plans[k.val]) →
    step s = .next t →
    DirectorySound t.directory ∧ MapSound t.ranges ∧ ∀ k : Fin 16, PlanValid t.plans[k.val]

/-- R158, R159: at every step, no entry of the outstanding table holds the same peer, sequence and kind as another. -/
def Obligations.StepKeepsTableKeysDistinct : Prop :=
  ∀ s t : State, TableSound s.exchange.table → step s = .next t → TableSound t.exchange.table

/-- R185, R186: a command changes the station state only as the table of transitions gives; a configuration is held in every
state but UNCONFIGURED, and the station is held while the recognised level of RESET_N is low, after every command and tick. -/
def Obligations.StateChangesOnlyAtTransitions : Prop :=
  (∀ (c : Instr) (s t : State), LifeSound s.life → exec c s = .next t →
    LifeSound t.life ∧ (t.life.state ≠ s.life.state → Transition c s.life.state t.life.state))
  ∧ ∀ s t : State, LifeSound s.life → step s = .next t → LifeSound t.life

/-- R127, R128, R129: whatever is done but POWER-ON and TAKE-RECORDS, the billing sequence counter advances by one for
each record produced: the records stored and lost account for its advance, modulo 65,536. -/
def Obligations.BillingSequenceCountsRecords : Prop :=
  ∀ (c : Instr) (s t : State), (∀ low, c ≠ .powerOn low) → (∀ p, c ≠ .takeRecords p) → exec c s = .next t →
    t.billing.lost < 65535 → s.billing.queue.length ≤ t.billing.queue.length ∧ s.billing.lost ≤ t.billing.lost
      ∧ t.billing.seq = s.billing.seq
        + BitVec.ofNat 16 (t.billing.queue.length - s.billing.queue.length + (t.billing.lost - s.billing.lost))
      ∧ ∃ new, t.billing.queue = s.billing.queue ++ new

/-- No command stops the station, and none touches the queue of waiting commands.
The model's choice: notes/assumptions/1.md. -/
def Obligations.EveryCommandAnswersNext : Prop :=
  ∀ (c : Instr) (s : State), ∃ t, exec c s = .next t ∧ t.pending = s.pending
end

