-- ==== Sys2Proof/Laws/State.lean ====
section
/-! SUPPORT. One lemma for each field of the state under each update, so that no proof unfolds a record update. -/

namespace Sys2Proof.Machine

variable (s : State)

@[simp] theorem State.setTick_tick (t : Tick) : (s.setTick t).tick = t := rfl
@[simp] theorem State.setTick_pins (t : Tick) : (s.setTick t).pins = s.pins := rfl
@[simp] theorem State.setTick_life (t : Tick) : (s.setTick t).life = s.life := rfl
@[simp] theorem State.setTick_plans (t : Tick) : (s.setTick t).plans = s.plans := rfl
@[simp] theorem State.setTick_ranges (t : Tick) : (s.setTick t).ranges = s.ranges := rfl
@[simp] theorem State.setTick_directory (t : Tick) : (s.setTick t).directory = s.directory := rfl
@[simp] theorem State.setTick_intake (t : Tick) : (s.setTick t).intake = s.intake := rfl
@[simp] theorem State.setTick_store (t : Tick) : (s.setTick t).store = s.store := rfl
@[simp] theorem State.setTick_air (t : Tick) : (s.setTick t).air = s.air := rfl
@[simp] theorem State.setTick_matcher (t : Tick) : (s.setTick t).matcher = s.matcher := rfl
@[simp] theorem State.setTick_billing (t : Tick) : (s.setTick t).billing = s.billing := rfl
@[simp] theorem State.setTick_bus (t : Tick) : (s.setTick t).bus = s.bus := rfl
@[simp] theorem State.setTick_exchange (t : Tick) : (s.setTick t).exchange = s.exchange := rfl
@[simp] theorem State.setTick_port (t : Tick) : (s.setTick t).port = s.port := rfl
@[simp] theorem State.setTick_pending (t : Tick) : (s.setTick t).pending = s.pending := rfl

@[simp] theorem State.mapPins_tick (f : Pins → Pins) : (s.mapPins f).tick = s.tick := rfl
@[simp] theorem State.mapPins_pins (f : Pins → Pins) : (s.mapPins f).pins = f s.pins := rfl
@[simp] theorem State.mapPins_life (f : Pins → Pins) : (s.mapPins f).life = s.life := rfl
@[simp] theorem State.mapPins_plans (f : Pins → Pins) : (s.mapPins f).plans = s.plans := rfl
@[simp] theorem State.mapPins_ranges (f : Pins → Pins) : (s.mapPins f).ranges = s.ranges := rfl
@[simp] theorem State.mapPins_directory (f : Pins → Pins) : (s.mapPins f).directory = s.directory := rfl
@[simp] theorem State.mapPins_intake (f : Pins → Pins) : (s.mapPins f).intake = s.intake := rfl
@[simp] theorem State.mapPins_store (f : Pins → Pins) : (s.mapPins f).store = s.store := rfl
@[simp] theorem State.mapPins_air (f : Pins → Pins) : (s.mapPins f).air = s.air := rfl
@[simp] theorem State.mapPins_matcher (f : Pins → Pins) : (s.mapPins f).matcher = s.matcher := rfl
@[simp] theorem State.mapPins_billing (f : Pins → Pins) : (s.mapPins f).billing = s.billing := rfl
@[simp] theorem State.mapPins_bus (f : Pins → Pins) : (s.mapPins f).bus = s.bus := rfl
@[simp] theorem State.mapPins_exchange (f : Pins → Pins) : (s.mapPins f).exchange = s.exchange := rfl
@[simp] theorem State.mapPins_port (f : Pins → Pins) : (s.mapPins f).port = s.port := rfl
@[simp] theorem State.mapPins_pending (f : Pins → Pins) : (s.mapPins f).pending = s.pending := rfl

@[simp] theorem State.mapLife_tick (f : Life → Life) : (s.mapLife f).tick = s.tick := rfl
@[simp] theorem State.mapLife_pins (f : Life → Life) : (s.mapLife f).pins = s.pins := rfl
@[simp] theorem State.mapLife_life (f : Life → Life) : (s.mapLife f).life = f s.life := rfl
@[simp] theorem State.mapLife_plans (f : Life → Life) : (s.mapLife f).plans = s.plans := rfl
@[simp] theorem State.mapLife_ranges (f : Life → Life) : (s.mapLife f).ranges = s.ranges := rfl
@[simp] theorem State.mapLife_directory (f : Life → Life) : (s.mapLife f).directory = s.directory := rfl
@[simp] theorem State.mapLife_intake (f : Life → Life) : (s.mapLife f).intake = s.intake := rfl
@[simp] theorem State.mapLife_store (f : Life → Life) : (s.mapLife f).store = s.store := rfl
@[simp] theorem State.mapLife_air (f : Life → Life) : (s.mapLife f).air = s.air := rfl
@[simp] theorem State.mapLife_matcher (f : Life → Life) : (s.mapLife f).matcher = s.matcher := rfl
@[simp] theorem State.mapLife_billing (f : Life → Life) : (s.mapLife f).billing = s.billing := rfl
@[simp] theorem State.mapLife_bus (f : Life → Life) : (s.mapLife f).bus = s.bus := rfl
@[simp] theorem State.mapLife_exchange (f : Life → Life) : (s.mapLife f).exchange = s.exchange := rfl
@[simp] theorem State.mapLife_port (f : Life → Life) : (s.mapLife f).port = s.port := rfl
@[simp] theorem State.mapLife_pending (f : Life → Life) : (s.mapLife f).pending = s.pending := rfl

@[simp] theorem State.mapPlans_tick (f : Vector Plan 16 → Vector Plan 16) : (s.mapPlans f).tick = s.tick := rfl
@[simp] theorem State.mapPlans_pins (f : Vector Plan 16 → Vector Plan 16) : (s.mapPlans f).pins = s.pins := rfl
@[simp] theorem State.mapPlans_life (f : Vector Plan 16 → Vector Plan 16) : (s.mapPlans f).life = s.life := rfl
@[simp] theorem State.mapPlans_plans (f : Vector Plan 16 → Vector Plan 16) : (s.mapPlans f).plans = f s.plans := rfl
@[simp] theorem State.mapPlans_ranges (f : Vector Plan 16 → Vector Plan 16) : (s.mapPlans f).ranges = s.ranges := rfl
@[simp] theorem State.mapPlans_directory (f : Vector Plan 16 → Vector Plan 16) : (s.mapPlans f).directory = s.directory := rfl
@[simp] theorem State.mapPlans_intake (f : Vector Plan 16 → Vector Plan 16) : (s.mapPlans f).intake = s.intake := rfl
@[simp] theorem State.mapPlans_store (f : Vector Plan 16 → Vector Plan 16) : (s.mapPlans f).store = s.store := rfl
@[simp] theorem State.mapPlans_air (f : Vector Plan 16 → Vector Plan 16) : (s.mapPlans f).air = s.air := rfl
@[simp] theorem State.mapPlans_matcher (f : Vector Plan 16 → Vector Plan 16) : (s.mapPlans f).matcher = s.matcher := rfl
@[simp] theorem State.mapPlans_billing (f : Vector Plan 16 → Vector Plan 16) : (s.mapPlans f).billing = s.billing := rfl
@[simp] theorem State.mapPlans_bus (f : Vector Plan 16 → Vector Plan 16) : (s.mapPlans f).bus = s.bus := rfl
@[simp] theorem State.mapPlans_exchange (f : Vector Plan 16 → Vector Plan 16) : (s.mapPlans f).exchange = s.exchange := rfl
@[simp] theorem State.mapPlans_port (f : Vector Plan 16 → Vector Plan 16) : (s.mapPlans f).port = s.port := rfl
@[simp] theorem State.mapPlans_pending (f : Vector Plan 16 → Vector Plan 16) : (s.mapPlans f).pending = s.pending := rfl

@[simp] theorem State.mapRanges_tick (f : List Range → List Range) : (s.mapRanges f).tick = s.tick := rfl
@[simp] theorem State.mapRanges_pins (f : List Range → List Range) : (s.mapRanges f).pins = s.pins := rfl
@[simp] theorem State.mapRanges_life (f : List Range → List Range) : (s.mapRanges f).life = s.life := rfl
@[simp] theorem State.mapRanges_plans (f : List Range → List Range) : (s.mapRanges f).plans = s.plans := rfl
@[simp] theorem State.mapRanges_ranges (f : List Range → List Range) : (s.mapRanges f).ranges = f s.ranges := rfl
@[simp] theorem State.mapRanges_directory (f : List Range → List Range) : (s.mapRanges f).directory = s.directory := rfl
@[simp] theorem State.mapRanges_intake (f : List Range → List Range) : (s.mapRanges f).intake = s.intake := rfl
@[simp] theorem State.mapRanges_store (f : List Range → List Range) : (s.mapRanges f).store = s.store := rfl
@[simp] theorem State.mapRanges_air (f : List Range → List Range) : (s.mapRanges f).air = s.air := rfl
@[simp] theorem State.mapRanges_matcher (f : List Range → List Range) : (s.mapRanges f).matcher = s.matcher := rfl
@[simp] theorem State.mapRanges_billing (f : List Range → List Range) : (s.mapRanges f).billing = s.billing := rfl
@[simp] theorem State.mapRanges_bus (f : List Range → List Range) : (s.mapRanges f).bus = s.bus := rfl
@[simp] theorem State.mapRanges_exchange (f : List Range → List Range) : (s.mapRanges f).exchange = s.exchange := rfl
@[simp] theorem State.mapRanges_port (f : List Range → List Range) : (s.mapRanges f).port = s.port := rfl
@[simp] theorem State.mapRanges_pending (f : List Range → List Range) : (s.mapRanges f).pending = s.pending := rfl

@[simp] theorem State.mapDirectory_tick (f : List Subscriber → List Subscriber) : (s.mapDirectory f).tick = s.tick := rfl
@[simp] theorem State.mapDirectory_pins (f : List Subscriber → List Subscriber) : (s.mapDirectory f).pins = s.pins := rfl
@[simp] theorem State.mapDirectory_life (f : List Subscriber → List Subscriber) : (s.mapDirectory f).life = s.life := rfl
@[simp] theorem State.mapDirectory_plans (f : List Subscriber → List Subscriber) : (s.mapDirectory f).plans = s.plans := rfl
@[simp] theorem State.mapDirectory_ranges (f : List Subscriber → List Subscriber) : (s.mapDirectory f).ranges = s.ranges := rfl
@[simp] theorem State.mapDirectory_directory (f : List Subscriber → List Subscriber) : (s.mapDirectory f).directory = f s.directory := rfl
@[simp] theorem State.mapDirectory_intake (f : List Subscriber → List Subscriber) : (s.mapDirectory f).intake = s.intake := rfl
@[simp] theorem State.mapDirectory_store (f : List Subscriber → List Subscriber) : (s.mapDirectory f).store = s.store := rfl
@[simp] theorem State.mapDirectory_air (f : List Subscriber → List Subscriber) : (s.mapDirectory f).air = s.air := rfl
@[simp] theorem State.mapDirectory_matcher (f : List Subscriber → List Subscriber) : (s.mapDirectory f).matcher = s.matcher := rfl
@[simp] theorem State.mapDirectory_billing (f : List Subscriber → List Subscriber) : (s.mapDirectory f).billing = s.billing := rfl
@[simp] theorem State.mapDirectory_bus (f : List Subscriber → List Subscriber) : (s.mapDirectory f).bus = s.bus := rfl
@[simp] theorem State.mapDirectory_exchange (f : List Subscriber → List Subscriber) : (s.mapDirectory f).exchange = s.exchange := rfl
@[simp] theorem State.mapDirectory_port (f : List Subscriber → List Subscriber) : (s.mapDirectory f).port = s.port := rfl
@[simp] theorem State.mapDirectory_pending (f : List Subscriber → List Subscriber) : (s.mapDirectory f).pending = s.pending := rfl

@[simp] theorem State.mapIntake_tick (f : Intake → Intake) : (s.mapIntake f).tick = s.tick := rfl
@[simp] theorem State.mapIntake_pins (f : Intake → Intake) : (s.mapIntake f).pins = s.pins := rfl
@[simp] theorem State.mapIntake_life (f : Intake → Intake) : (s.mapIntake f).life = s.life := rfl
@[simp] theorem State.mapIntake_plans (f : Intake → Intake) : (s.mapIntake f).plans = s.plans := rfl
@[simp] theorem State.mapIntake_ranges (f : Intake → Intake) : (s.mapIntake f).ranges = s.ranges := rfl
@[simp] theorem State.mapIntake_directory (f : Intake → Intake) : (s.mapIntake f).directory = s.directory := rfl
@[simp] theorem State.mapIntake_intake (f : Intake → Intake) : (s.mapIntake f).intake = f s.intake := rfl
@[simp] theorem State.mapIntake_store (f : Intake → Intake) : (s.mapIntake f).store = s.store := rfl
@[simp] theorem State.mapIntake_air (f : Intake → Intake) : (s.mapIntake f).air = s.air := rfl
@[simp] theorem State.mapIntake_matcher (f : Intake → Intake) : (s.mapIntake f).matcher = s.matcher := rfl
@[simp] theorem State.mapIntake_billing (f : Intake → Intake) : (s.mapIntake f).billing = s.billing := rfl
@[simp] theorem State.mapIntake_bus (f : Intake → Intake) : (s.mapIntake f).bus = s.bus := rfl
@[simp] theorem State.mapIntake_exchange (f : Intake → Intake) : (s.mapIntake f).exchange = s.exchange := rfl
@[simp] theorem State.mapIntake_port (f : Intake → Intake) : (s.mapIntake f).port = s.port := rfl
@[simp] theorem State.mapIntake_pending (f : Intake → Intake) : (s.mapIntake f).pending = s.pending := rfl

@[simp] theorem State.mapStore_tick (f : PageStore → PageStore) : (s.mapStore f).tick = s.tick := rfl
@[simp] theorem State.mapStore_pins (f : PageStore → PageStore) : (s.mapStore f).pins = s.pins := rfl
@[simp] theorem State.mapStore_life (f : PageStore → PageStore) : (s.mapStore f).life = s.life := rfl
@[simp] theorem State.mapStore_plans (f : PageStore → PageStore) : (s.mapStore f).plans = s.plans := rfl
@[simp] theorem State.mapStore_ranges (f : PageStore → PageStore) : (s.mapStore f).ranges = s.ranges := rfl
@[simp] theorem State.mapStore_directory (f : PageStore → PageStore) : (s.mapStore f).directory = s.directory := rfl
@[simp] theorem State.mapStore_intake (f : PageStore → PageStore) : (s.mapStore f).intake = s.intake := rfl
@[simp] theorem State.mapStore_store (f : PageStore → PageStore) : (s.mapStore f).store = f s.store := rfl
@[simp] theorem State.mapStore_air (f : PageStore → PageStore) : (s.mapStore f).air = s.air := rfl
@[simp] theorem State.mapStore_matcher (f : PageStore → PageStore) : (s.mapStore f).matcher = s.matcher := rfl
@[simp] theorem State.mapStore_billing (f : PageStore → PageStore) : (s.mapStore f).billing = s.billing := rfl
@[simp] theorem State.mapStore_bus (f : PageStore → PageStore) : (s.mapStore f).bus = s.bus := rfl
@[simp] theorem State.mapStore_exchange (f : PageStore → PageStore) : (s.mapStore f).exchange = s.exchange := rfl
@[simp] theorem State.mapStore_port (f : PageStore → PageStore) : (s.mapStore f).port = s.port := rfl
@[simp] theorem State.mapStore_pending (f : PageStore → PageStore) : (s.mapStore f).pending = s.pending := rfl

@[simp] theorem State.mapAir_tick (f : Air → Air) : (s.mapAir f).tick = s.tick := rfl
@[simp] theorem State.mapAir_pins (f : Air → Air) : (s.mapAir f).pins = s.pins := rfl
@[simp] theorem State.mapAir_life (f : Air → Air) : (s.mapAir f).life = s.life := rfl
@[simp] theorem State.mapAir_plans (f : Air → Air) : (s.mapAir f).plans = s.plans := rfl
@[simp] theorem State.mapAir_ranges (f : Air → Air) : (s.mapAir f).ranges = s.ranges := rfl
@[simp] theorem State.mapAir_directory (f : Air → Air) : (s.mapAir f).directory = s.directory := rfl
@[simp] theorem State.mapAir_intake (f : Air → Air) : (s.mapAir f).intake = s.intake := rfl
@[simp] theorem State.mapAir_store (f : Air → Air) : (s.mapAir f).store = s.store := rfl
@[simp] theorem State.mapAir_air (f : Air → Air) : (s.mapAir f).air = f s.air := rfl
@[simp] theorem State.mapAir_matcher (f : Air → Air) : (s.mapAir f).matcher = s.matcher := rfl
@[simp] theorem State.mapAir_billing (f : Air → Air) : (s.mapAir f).billing = s.billing := rfl
@[simp] theorem State.mapAir_bus (f : Air → Air) : (s.mapAir f).bus = s.bus := rfl
@[simp] theorem State.mapAir_exchange (f : Air → Air) : (s.mapAir f).exchange = s.exchange := rfl
@[simp] theorem State.mapAir_port (f : Air → Air) : (s.mapAir f).port = s.port := rfl
@[simp] theorem State.mapAir_pending (f : Air → Air) : (s.mapAir f).pending = s.pending := rfl

@[simp] theorem State.mapMatcher_tick (f : Matcher → Matcher) : (s.mapMatcher f).tick = s.tick := rfl
@[simp] theorem State.mapMatcher_pins (f : Matcher → Matcher) : (s.mapMatcher f).pins = s.pins := rfl
@[simp] theorem State.mapMatcher_life (f : Matcher → Matcher) : (s.mapMatcher f).life = s.life := rfl
@[simp] theorem State.mapMatcher_plans (f : Matcher → Matcher) : (s.mapMatcher f).plans = s.plans := rfl
@[simp] theorem State.mapMatcher_ranges (f : Matcher → Matcher) : (s.mapMatcher f).ranges = s.ranges := rfl
@[simp] theorem State.mapMatcher_directory (f : Matcher → Matcher) : (s.mapMatcher f).directory = s.directory := rfl
@[simp] theorem State.mapMatcher_intake (f : Matcher → Matcher) : (s.mapMatcher f).intake = s.intake := rfl
@[simp] theorem State.mapMatcher_store (f : Matcher → Matcher) : (s.mapMatcher f).store = s.store := rfl
@[simp] theorem State.mapMatcher_air (f : Matcher → Matcher) : (s.mapMatcher f).air = s.air := rfl
@[simp] theorem State.mapMatcher_matcher (f : Matcher → Matcher) : (s.mapMatcher f).matcher = f s.matcher := rfl
@[simp] theorem State.mapMatcher_billing (f : Matcher → Matcher) : (s.mapMatcher f).billing = s.billing := rfl
@[simp] theorem State.mapMatcher_bus (f : Matcher → Matcher) : (s.mapMatcher f).bus = s.bus := rfl
@[simp] theorem State.mapMatcher_exchange (f : Matcher → Matcher) : (s.mapMatcher f).exchange = s.exchange := rfl
@[simp] theorem State.mapMatcher_port (f : Matcher → Matcher) : (s.mapMatcher f).port = s.port := rfl
@[simp] theorem State.mapMatcher_pending (f : Matcher → Matcher) : (s.mapMatcher f).pending = s.pending := rfl

@[simp] theorem State.mapBilling_tick (f : Billing → Billing) : (s.mapBilling f).tick = s.tick := rfl
@[simp] theorem State.mapBilling_pins (f : Billing → Billing) : (s.mapBilling f).pins = s.pins := rfl
@[simp] theorem State.mapBilling_life (f : Billing → Billing) : (s.mapBilling f).life = s.life := rfl
@[simp] theorem State.mapBilling_plans (f : Billing → Billing) : (s.mapBilling f).plans = s.plans := rfl
@[simp] theorem State.mapBilling_ranges (f : Billing → Billing) : (s.mapBilling f).ranges = s.ranges := rfl
@[simp] theorem State.mapBilling_directory (f : Billing → Billing) : (s.mapBilling f).directory = s.directory := rfl
@[simp] theorem State.mapBilling_intake (f : Billing → Billing) : (s.mapBilling f).intake = s.intake := rfl
@[simp] theorem State.mapBilling_store (f : Billing → Billing) : (s.mapBilling f).store = s.store := rfl
@[simp] theorem State.mapBilling_air (f : Billing → Billing) : (s.mapBilling f).air = s.air := rfl
@[simp] theorem State.mapBilling_matcher (f : Billing → Billing) : (s.mapBilling f).matcher = s.matcher := rfl
@[simp] theorem State.mapBilling_billing (f : Billing → Billing) : (s.mapBilling f).billing = f s.billing := rfl
@[simp] theorem State.mapBilling_bus (f : Billing → Billing) : (s.mapBilling f).bus = s.bus := rfl
@[simp] theorem State.mapBilling_exchange (f : Billing → Billing) : (s.mapBilling f).exchange = s.exchange := rfl
@[simp] theorem State.mapBilling_port (f : Billing → Billing) : (s.mapBilling f).port = s.port := rfl
@[simp] theorem State.mapBilling_pending (f : Billing → Billing) : (s.mapBilling f).pending = s.pending := rfl

@[simp] theorem State.mapBus_tick (f : Bus → Bus) : (s.mapBus f).tick = s.tick := rfl
@[simp] theorem State.mapBus_pins (f : Bus → Bus) : (s.mapBus f).pins = s.pins := rfl
@[simp] theorem State.mapBus_life (f : Bus → Bus) : (s.mapBus f).life = s.life := rfl
@[simp] theorem State.mapBus_plans (f : Bus → Bus) : (s.mapBus f).plans = s.plans := rfl
@[simp] theorem State.mapBus_ranges (f : Bus → Bus) : (s.mapBus f).ranges = s.ranges := rfl
@[simp] theorem State.mapBus_directory (f : Bus → Bus) : (s.mapBus f).directory = s.directory := rfl
@[simp] theorem State.mapBus_intake (f : Bus → Bus) : (s.mapBus f).intake = s.intake := rfl
@[simp] theorem State.mapBus_store (f : Bus → Bus) : (s.mapBus f).store = s.store := rfl
@[simp] theorem State.mapBus_air (f : Bus → Bus) : (s.mapBus f).air = s.air := rfl
@[simp] theorem State.mapBus_matcher (f : Bus → Bus) : (s.mapBus f).matcher = s.matcher := rfl
@[simp] theorem State.mapBus_billing (f : Bus → Bus) : (s.mapBus f).billing = s.billing := rfl
@[simp] theorem State.mapBus_bus (f : Bus → Bus) : (s.mapBus f).bus = f s.bus := rfl
@[simp] theorem State.mapBus_exchange (f : Bus → Bus) : (s.mapBus f).exchange = s.exchange := rfl
@[simp] theorem State.mapBus_port (f : Bus → Bus) : (s.mapBus f).port = s.port := rfl
@[simp] theorem State.mapBus_pending (f : Bus → Bus) : (s.mapBus f).pending = s.pending := rfl

@[simp] theorem State.mapExchange_tick (f : Exchange → Exchange) : (s.mapExchange f).tick = s.tick := rfl
@[simp] theorem State.mapExchange_pins (f : Exchange → Exchange) : (s.mapExchange f).pins = s.pins := rfl
@[simp] theorem State.mapExchange_life (f : Exchange → Exchange) : (s.mapExchange f).life = s.life := rfl
@[simp] theorem State.mapExchange_plans (f : Exchange → Exchange) : (s.mapExchange f).plans = s.plans := rfl
@[simp] theorem State.mapExchange_ranges (f : Exchange → Exchange) : (s.mapExchange f).ranges = s.ranges := rfl
@[simp] theorem State.mapExchange_directory (f : Exchange → Exchange) : (s.mapExchange f).directory = s.directory := rfl
@[simp] theorem State.mapExchange_intake (f : Exchange → Exchange) : (s.mapExchange f).intake = s.intake := rfl
@[simp] theorem State.mapExchange_store (f : Exchange → Exchange) : (s.mapExchange f).store = s.store := rfl
@[simp] theorem State.mapExchange_air (f : Exchange → Exchange) : (s.mapExchange f).air = s.air := rfl
@[simp] theorem State.mapExchange_matcher (f : Exchange → Exchange) : (s.mapExchange f).matcher = s.matcher := rfl
@[simp] theorem State.mapExchange_billing (f : Exchange → Exchange) : (s.mapExchange f).billing = s.billing := rfl
@[simp] theorem State.mapExchange_bus (f : Exchange → Exchange) : (s.mapExchange f).bus = s.bus := rfl
@[simp] theorem State.mapExchange_exchange (f : Exchange → Exchange) : (s.mapExchange f).exchange = f s.exchange := rfl
@[simp] theorem State.mapExchange_port (f : Exchange → Exchange) : (s.mapExchange f).port = s.port := rfl
@[simp] theorem State.mapExchange_pending (f : Exchange → Exchange) : (s.mapExchange f).pending = s.pending := rfl

@[simp] theorem State.mapPort_tick (f : Port → Port) : (s.mapPort f).tick = s.tick := rfl
@[simp] theorem State.mapPort_pins (f : Port → Port) : (s.mapPort f).pins = s.pins := rfl
@[simp] theorem State.mapPort_life (f : Port → Port) : (s.mapPort f).life = s.life := rfl
@[simp] theorem State.mapPort_plans (f : Port → Port) : (s.mapPort f).plans = s.plans := rfl
@[simp] theorem State.mapPort_ranges (f : Port → Port) : (s.mapPort f).ranges = s.ranges := rfl
@[simp] theorem State.mapPort_directory (f : Port → Port) : (s.mapPort f).directory = s.directory := rfl
@[simp] theorem State.mapPort_intake (f : Port → Port) : (s.mapPort f).intake = s.intake := rfl
@[simp] theorem State.mapPort_store (f : Port → Port) : (s.mapPort f).store = s.store := rfl
@[simp] theorem State.mapPort_air (f : Port → Port) : (s.mapPort f).air = s.air := rfl
@[simp] theorem State.mapPort_matcher (f : Port → Port) : (s.mapPort f).matcher = s.matcher := rfl
@[simp] theorem State.mapPort_billing (f : Port → Port) : (s.mapPort f).billing = s.billing := rfl
@[simp] theorem State.mapPort_bus (f : Port → Port) : (s.mapPort f).bus = s.bus := rfl
@[simp] theorem State.mapPort_exchange (f : Port → Port) : (s.mapPort f).exchange = s.exchange := rfl
@[simp] theorem State.mapPort_port (f : Port → Port) : (s.mapPort f).port = f s.port := rfl
@[simp] theorem State.mapPort_pending (f : Port → Port) : (s.mapPort f).pending = s.pending := rfl

@[simp] theorem State.setPending_tick (cs : List Instr) : (s.setPending cs).tick = s.tick := rfl
@[simp] theorem State.setPending_pins (cs : List Instr) : (s.setPending cs).pins = s.pins := rfl
@[simp] theorem State.setPending_life (cs : List Instr) : (s.setPending cs).life = s.life := rfl
@[simp] theorem State.setPending_plans (cs : List Instr) : (s.setPending cs).plans = s.plans := rfl
@[simp] theorem State.setPending_ranges (cs : List Instr) : (s.setPending cs).ranges = s.ranges := rfl
@[simp] theorem State.setPending_directory (cs : List Instr) : (s.setPending cs).directory = s.directory := rfl
@[simp] theorem State.setPending_intake (cs : List Instr) : (s.setPending cs).intake = s.intake := rfl
@[simp] theorem State.setPending_store (cs : List Instr) : (s.setPending cs).store = s.store := rfl
@[simp] theorem State.setPending_air (cs : List Instr) : (s.setPending cs).air = s.air := rfl
@[simp] theorem State.setPending_matcher (cs : List Instr) : (s.setPending cs).matcher = s.matcher := rfl
@[simp] theorem State.setPending_billing (cs : List Instr) : (s.setPending cs).billing = s.billing := rfl
@[simp] theorem State.setPending_bus (cs : List Instr) : (s.setPending cs).bus = s.bus := rfl
@[simp] theorem State.setPending_exchange (cs : List Instr) : (s.setPending cs).exchange = s.exchange := rfl
@[simp] theorem State.setPending_port (cs : List Instr) : (s.setPending cs).port = s.port := rfl
@[simp] theorem State.setPending_pending (cs : List Instr) : (s.setPending cs).pending = cs := rfl

end Sys2Proof.Machine
end

