-- ==== Sys2Proof/Laws/Ops.lean ====
section
/-! SUPPORT. What the named reads and writes do: a read after a write of the same place gives what was written, a write
leaves every other place alone, and the comparison of ticks. -/

namespace Sys2Proof.Machine

/-! ## Time -/

/-- R1: a due time is reached when the signed difference is not negative. -/
theorem reached_iff (now due : Tick) : reached now due = true ↔ 0 ≤ (now - due).toInt := by
  simp only [reached, Bool.not_eq_true', BitVec.msb_eq_toInt]
  constructor <;> intro h <;> simp at * <;> omega

/-- A timer that is not running is not reached. -/
@[simp] theorem timerReached_none (now : Tick) : timerReached now none = false := rfl

/-- A running timer is reached at its due tick. -/
@[simp] theorem timerReached_some (now due : Tick) : timerReached now (some due) = reached now due := rfl

/-! ## Intake lines -/

/-- Reading the line just written. -/
@[simp] theorem lineAt_setLine (k : Fin 8) (l : Line) (s : State) : lineAt (setLine k l s) k = l := by
  simp [lineAt, setLine]

/-- Reading another line. -/
theorem lineAt_setLine_ne {j k : Fin 8} (h : j ≠ k) (l : Line) (s : State) : lineAt (setLine k l s) j = lineAt s j := by
  have : k.val ≠ j.val := fun e => h (Fin.ext e.symm)
  simp [lineAt, setLine, this]

/-- Changing a line is writing what the change makes of it. -/
theorem mapLine_eq (k : Fin 8) (f : Line → Line) (s : State) : mapLine k f s = setLine k (f (lineAt s k)) s := rfl

/-- The second of two writes of a line stands. -/
@[simp] theorem setLine_setLine (k : Fin 8) (l m : Line) (s : State) : setLine k m (setLine k l s) = setLine k m s := by
  simp [setLine, State.mapIntake]

/-! ## Delivery slots -/

/-- Reading the slot just written. -/
@[simp] theorem slotAt_setSlot (k : Fin 256) (x : Slot) (s : State) : slotAt (setSlot k x s) k = x := by
  simp [slotAt, setSlot]

/-- Reading another slot. -/
theorem slotAt_setSlot_ne {j k : Fin 256} (h : j ≠ k) (x : Slot) (s : State) :
    slotAt (setSlot k x s) j = slotAt s j := by
  have : k.val ≠ j.val := fun e => h (Fin.ext e.symm)
  simp [slotAt, setSlot, this]

/-- The delivery after a change of it. -/
@[simp] theorem deliveryAt_mapDelivery (k : Fin 256) (f : Delivery → Delivery) (s : State) :
    deliveryAt (mapDelivery k f s) k = (deliveryAt s k).map f := by
  simp [deliveryAt, mapDelivery]

/-- Another delivery after the change. -/
theorem deliveryAt_mapDelivery_ne {j k : Fin 256} (h : j ≠ k) (f : Delivery → Delivery) (s : State) :
    deliveryAt (mapDelivery k f s) j = deliveryAt s j := by
  simp [deliveryAt, mapDelivery, slotAt_setSlot_ne h]

/-- A change of a delivery keeps every generation. -/
@[simp] theorem gen_mapDelivery (j k : Fin 256) (f : Delivery → Delivery) (s : State) :
    (slotAt (mapDelivery k f s) j).gen = (slotAt s j).gen := by
  by_cases h : j = k
  · subst h; simp [mapDelivery]
  · simp [mapDelivery, slotAt_setSlot_ne h]

/-- The second of two writes of a slot stands. -/
@[simp] theorem setSlot_setSlot (k : Fin 256) (x y : Slot) (s : State) : setSlot k y (setSlot k x s) = setSlot k y s := by
  simp [setSlot, State.mapStore]

/-- Two changes of one delivery are one. -/
theorem mapDelivery_mapDelivery (k : Fin 256) (f g : Delivery → Delivery) (s : State) :
    mapDelivery k g (mapDelivery k f s) = mapDelivery k (fun d => g (f d)) s := by
  simp only [mapDelivery, slotAt_setSlot, setSlot_setSlot, deliveryAt, Option.map_map]
  rfl

/-! ## The presence table -/

/-- Reading the entry just written. -/
theorem presenceAt_setPresence {n : Nat} (h : 1 ≤ n ∧ n ≤ 24) (p : Presence) (s : State) :
    presenceAt (setPresence n p s) n = p := by
  simp [presenceAt, setPresence, h]

/-- Reading another entry. -/
theorem presenceAt_setPresence_ne {m n : Nat} (h : m ≠ n) (p : Presence) (s : State) :
    presenceAt (setPresence n p s) m = presenceAt s m := by
  unfold presenceAt setPresence
  split
  · split
    · have : n - 1 ≠ m - 1 := by omega
      simp [this]
    · rfl
  · rfl

/-! ## The queues of the bus -/

/-- R151: an answer made while the queue has room joins its tail. -/
theorem pushAnswer_room {f : Frame} {s : State} (h : s.bus.answers.length < 24) :
    pushAnswer f s = { s with bus := { s.bus with answers := s.bus.answers ++ [f] } } := by
  simp [pushAnswer, Config.answerQueueSize, h, State.mapBus]

/-- R151: an answer made while the queue is full is discarded and counted. -/
theorem pushAnswer_full {f : Frame} {s : State} (h : 24 ≤ s.bus.answers.length) :
    pushAnswer f s = { s with bus := { s.bus with
      counts := { s.bus.counts with answersDropped := min (s.bus.counts.answersDropped + 1) 65535 } } } := by
  simp [pushAnswer, Config.answerQueueSize, Nat.not_lt.mpr h, mapBusCounts, State.mapBus, raise]

/-- R152: a frame joins the request queue, or waits. -/
theorem joinRequests_eq (f : Frame) (s : State) :
    joinRequests f s = if s.bus.requests.length + s.bus.waiting.length < 32
      then { s with bus := { s.bus with requests := s.bus.requests ++ [f] } }
      else { s with bus := { s.bus with waiting := s.bus.waiting ++ [f] } } := by
  have : (0 < requestRoom s) ↔ s.bus.requests.length + s.bus.waiting.length < 32 := by
    simp only [requestRoom, Config.requestQueueSize]; omega
  simp only [joinRequests, this]
  rfl

/-- R152: with no frame waiting there is nothing to refill. -/
theorem refill_of_none_waiting {s : State} (h : s.bus.waiting = []) : refill s = s := by
  simp only [refill, h, List.take_nil, List.drop_nil, List.append_nil, List.any_nil, Bool.and_false, Bool.false_eq_true,
    if_false, State.mapBus, State.mapExchange, List.map_id']
  rw [← h]

/-- R152: a refill keeps the frames and their order. -/
theorem refill_frames (s : State) :
    (refill s).bus.requests ++ (refill s).bus.waiting = s.bus.requests ++ s.bus.waiting := by
  simp [refill]

/-! ## The outstanding request table -/

/-- What is found under a key has that key and is in the table. -/
theorem findEntry_some {s : State} {key : EntryKey} {e : Outstanding} (h : findEntry s key = some e) :
    e ∈ s.exchange.table ∧ e.key = key := by
  unfold findEntry at h
  exact ⟨List.mem_of_find?_eq_some h, by simpa using List.find?_some h⟩

/-- R158: with distinct keys, an entry of the table is the one found under its key. -/
theorem findEntry_of_mem {s : State} {e : Outstanding} (n : (s.exchange.table.map (·.key)).Nodup)
    (h : e ∈ s.exchange.table) : findEntry s e.key = some e := by
  unfold findEntry
  generalize s.exchange.table = t at *
  induction t with
  | nil => cases h
  | cons a t ih =>
    simp only [List.map_cons, List.nodup_cons] at n
    rcases List.mem_cons.mp h with rfl | m
    · simp
    · have : a.key ≠ e.key := fun q => n.1 (q ▸ List.mem_map_of_mem m)
      simp [this, ih n.2 m]

/-- R162: a freed key is not in the table. -/
theorem freeEntry_table (key : EntryKey) (s : State) : ∀ x ∈ (freeEntry key s).exchange.table, x.key ≠ key := by
  intro x hx
  simp only [freeEntry, removeRequests, refill, State.mapExchange_exchange, State.mapBus_exchange, List.mem_map] at hx
  obtain ⟨y, hy, rfl⟩ := hx
  have : y.key ≠ key := by simpa using (List.mem_filter.mp hy).2
  split
  · exact this
  · exact this

end Sys2Proof.Machine
end

