-- ==== Sys2Proof/Laws/Blocks.lean ====
section
/-! SUPPORT. What the shared operations leave alone, block by block. -/

namespace Sys2Proof.Machine

/-! ## The parts of the state that an operation of a block keeps -/

/-- All but the bus controller and the Exchange Unit. -/
def outsideBus (s : State) : Tick × Pins × Life × Vector Plan 16 × List Range × List Subscriber × Intake × PageStore × Air
    × Matcher × Billing × Port × List Instr :=
  (s.tick, s.pins, s.life, s.plans, s.ranges, s.directory, s.intake, s.store, s.air, s.matcher, s.billing, s.port,
    s.pending)

/-- All that no operation of the Page Store touches. -/
def outsideStore (s : State) : Tick × Pins × Life × Vector Plan 16 × List Range × Intake × Matcher × List Instr :=
  (s.tick, s.pins, s.life, s.plans, s.ranges, s.intake, s.matcher, s.pending)

/-- All that no event but a load, a tick, a pin or a reset touches. -/
def loaded (s : State) : Tick × Pins × Life × Vector Plan 16 × List Range × List Instr :=
  (s.tick, s.pins, s.life, s.plans, s.ranges, s.pending)

/-- What an operation of the bus keeps, one of the Page Store keeps. -/
theorem outsideStore_of_outsideBus {s t : State} (h : outsideBus t = outsideBus s) : outsideStore t = outsideStore s := by
  simp only [outsideBus, Prod.mk.injEq] at h
  simp [outsideStore, h]

/-- What an operation of the Page Store keeps holds of the loaded parts. -/
theorem loaded_of_outsideStore {s t : State} (h : outsideStore t = outsideStore s) : loaded t = loaded s := by
  simp only [outsideStore, Prod.mk.injEq] at h
  simp [loaded, h]

/-- A fold of operations that keep a part keeps it. -/
theorem foldl_keeps {α β : Type} (P : State → β) (f : State → α → State) (h : ∀ s a, P (f s a) = P s) (xs : List α)
    (s : State) : P (xs.foldl f s) = P s := by
  induction xs generalizing s with
  | nil => rfl
  | cons a xs ih => exact (ih (f s a)).trans (h s a)

/-! ## The bus -/

@[simp] theorem outsideBus_pushAnswer (f : Frame) (s : State) : outsideBus (pushAnswer f s) = outsideBus s := by
  unfold pushAnswer; split <;> rfl

@[simp] theorem outsideBus_answerTo (k : FrameKind) (d : Nat) (q : Byte) (p : List Byte) (s : State) :
    outsideBus (answerTo k d q p s) = outsideBus s := outsideBus_pushAnswer _ _

@[simp] theorem outsideBus_removeAnswers (f : Frame → Bool) (s : State) :
    outsideBus (removeAnswers f s) = outsideBus s := rfl

@[simp] theorem outsideBus_refill (s : State) : outsideBus (refill s) = outsideBus s := rfl

@[simp] theorem outsideBus_joinRequests (f : Frame) (s : State) : outsideBus (joinRequests f s) = outsideBus s := by
  unfold joinRequests; split <;> rfl

@[simp] theorem outsideBus_removeRequests (f : Frame → Bool) (s : State) :
    outsideBus (removeRequests f s) = outsideBus s := rfl

@[simp] theorem outsideBus_mapEntry (k : EntryKey) (f : Outstanding → Outstanding) (s : State) :
    outsideBus (mapEntry k f s) = outsideBus s := rfl

@[simp] theorem outsideBus_takeSequence (p : Nat) (k : EntryKind) (s : State) :
    outsideBus (takeSequence p k s) = outsideBus s := rfl

@[simp] theorem outsideBus_claimEntry (p : Nat) (k : EntryKind) (o : Owner) (c : List Byte) (s : State) :
    outsideBus (claimEntry p k o c s) = outsideBus s := rfl

@[simp] theorem outsideBus_freeEntry (k : EntryKey) (s : State) : outsideBus (freeEntry k s) = outsideBus s := rfl

@[simp] theorem outsideBus_convertEntry (k : EntryKey) (j : EntryKind) (c : List Byte) (s : State) :
    outsideBus (convertEntry k j c s) = outsideBus s := by
  unfold convertEntry
  split
  · rfl
  · simp

@[simp] theorem outsideBus_freeZoneEntry (k : Fin 256) (z : Nat) (s : State) :
    outsideBus (freeZoneEntry k z s) = outsideBus s := by
  unfold freeZoneEntry; split <;> simp

/-! ## The Billing Meter -/

@[simp] theorem outsideStore_produceRecord (r : BillingRecord) (s : State) :
    outsideStore (produceRecord r s) = outsideStore s := by
  unfold produceRecord; dsimp only; split <;> rfl

@[simp] theorem outsideStore_produceFor (i : Nat) (f : Subscriber → BillingRecord) (s : State) :
    outsideStore (produceFor i f s) = outsideStore s := by
  unfold produceFor; split <;> simp

@[simp] theorem outsideStore_modifyRecord (i : Nat) (f : Subscriber → Subscriber) (s : State) :
    outsideStore (modifyRecord i f s) = outsideStore s := rfl

@[simp] theorem outsideStore_mapDelivery (k : Fin 256) (f : Delivery → Delivery) (s : State) :
    outsideStore (mapDelivery k f s) = outsideStore s := rfl

@[simp] theorem outsideStore_acceptCharge (k : Fin 256) (i : Nat) (s : State) :
    outsideStore (acceptCharge k i s) = outsideStore s := by
  simp [acceptCharge]

@[simp] theorem outsideStore_quotaWatch (i b a : Nat) (s : State) :
    outsideStore (quotaWatch i b a s) = outsideStore s := by
  unfold quotaWatch; dsimp only; split <;> split <;> simp

@[simp] theorem outsideStore_attemptCharge (k : Fin 256) (d : Delivery) (a z : Nat) (s : State) :
    outsideStore (attemptCharge k d a z s) = outsideStore s := by
  unfold attemptCharge; split <;> simp

@[simp] theorem outsideStore_cancelCredit (k : Fin 256) (d : Delivery) (s : State) :
    outsideStore (cancelCredit k d s) = outsideStore s := by
  simp [cancelCredit]

@[simp] theorem outsideStore_missCredit (k : Fin 256) (d : Delivery) (s : State) :
    outsideStore (missCredit k d s) = outsideStore s := by
  unfold missCredit; dsimp only; split <;> simp

/-! ## The Page Store -/

@[simp] theorem outsideStore_terminalCredit (k : Fin 256) (d : Delivery) (o : Terminal) (s : State) :
    outsideStore (terminalCredit k d o s) = outsideStore s := by
  cases o <;> simp [terminalCredit]

@[simp] theorem outsideStore_freeSlot (k : Fin 256) (s : State) : outsideStore (freeSlot k s) = outsideStore s := rfl

@[simp] theorem outsideStore_endDelivery (k : Fin 256) (o : Terminal) (s : State) :
    outsideStore (endDelivery k o s) = outsideStore s := by
  unfold endDelivery; split <;> simp

@[simp] theorem outsideStore_enterRetry (k : Fin 256) (s : State) : outsideStore (enterRetry k s) = outsideStore s := by
  unfold enterRetry; split <;> rfl

@[simp] theorem outsideStore_countAttempt (k : Fin 256) (d : Delivery) (a : Attempt) (s : State) :
    outsideStore (countAttempt k d a s) = outsideStore s := by
  unfold countAttempt; split <;> simp

@[simp] theorem outsideStore_nextStep (k : Fin 256) (o : AttemptOutcome) (s : State) :
    outsideStore (nextStep k o s) = outsideStore s := by
  unfold nextStep
  split
  · rfl
  · cases o
    · simp
    · dsimp only; split <;> simp

@[simp] theorem outsideStore_settle (k : Fin 256) (s : State) : outsideStore (settle k s) = outsideStore s := by
  unfold settle
  repeat' split
  all_goals simp

@[simp] theorem outsideStore_settleIfResolved (k : Fin 256) (s : State) :
    outsideStore (settleIfResolved k s) = outsideStore s := by
  unfold settleIfResolved
  repeat' split
  all_goals simp

@[simp] theorem outsideStore_setZone (k : Fin 256) (z : Nat) (st : ZoneState) (s : State) :
    outsideStore (setZone k z st s) = outsideStore s := rfl

@[simp] theorem outsideStore_withdrawAir (t : Tag) (w : PendingWithdraw) (s : State) :
    outsideStore (withdrawAir t w s) = outsideStore s := by
  unfold withdrawAir; split <;> rfl

@[simp] theorem outsideStore_admit (a : AirAsk) (s : State) : outsideStore (admitAsk a s) = outsideStore s := by
  unfold admitAsk
  repeat' split
  all_goals rfl

@[simp] theorem outsideStore_convertEntry (k : EntryKey) (j : EntryKind) (c : List Byte) (s : State) :
    outsideStore (convertEntry k j c s) = outsideStore s := outsideStore_of_outsideBus (outsideBus_convertEntry k j c s)

@[simp] theorem outsideStore_freeZoneEntry (k : Fin 256) (z : Nat) (s : State) :
    outsideStore (freeZoneEntry k z s) = outsideStore s := outsideStore_of_outsideBus (outsideBus_freeZoneEntry k z s)

@[simp] theorem outsideStore_freeEntry (k : EntryKey) (s : State) : outsideStore (freeEntry k s) = outsideStore s := rfl

@[simp] theorem outsideStore_answerTo (k : FrameKind) (d : Nat) (q : Byte) (p : List Byte) (s : State) :
    outsideStore (answerTo k d q p s) = outsideStore s := outsideStore_of_outsideBus (outsideBus_answerTo k d q p s)

@[simp] theorem outsideStore_withdrawZone (k : Fin 256) (t : Tag) (z : Nat) (s : State) :
    outsideStore (withdrawZone k t z s) = outsideStore s := by
  unfold withdrawZone
  split
  · simp [withdrawOwn]
  · unfold withdrawRemote
    dsimp only
    split <;> simp

@[simp] theorem outsideStore_closeAttempt (k : Fin 256) (o : AttemptOutcome) (s : State) :
    outsideStore (closeAttempt k o s) = outsideStore s := by
  unfold closeAttempt
  split
  · rfl
  · rw [outsideStore_settleIfResolved, foldl_keeps outsideStore _ (fun _ _ => by simp)]
    rfl

@[simp] theorem outsideStore_closeIfExhausted (k : Fin 256) (s : State) :
    outsideStore (closeIfExhausted k s) = outsideStore s := by
  unfold closeIfExhausted
  repeat' split
  all_goals simp

@[simp] theorem outsideStore_afterResolved (k : Fin 256) (s : State) :
    outsideStore (afterResolved k s) = outsideStore s := by simp [afterResolved]

@[simp] theorem outsideStore_resolveZone (k : Fin 256) (z : Nat) (st : ZoneState) (s : State) :
    outsideStore (resolveZone k z st s) = outsideStore s := by simp [resolveZone]

@[simp] theorem outsideStore_loseZone (k : Fin 256) (z : Nat) (s : State) :
    outsideStore (loseZone k z s) = outsideStore s := by
  unfold loseZone
  repeat' split
  all_goals simp

@[simp] theorem outsideStore_startAckWait (k : Fin 256) (s : State) :
    outsideStore (startAckWait k s) = outsideStore s := by
  unfold startAckWait
  repeat' split
  all_goals rfl

@[simp] theorem outsideStore_takeAired (z : Nat) (s : State) (t : Tag) :
    outsideStore (takeAired z s t) = outsideStore s := by
  unfold takeAired; split <;> simp

@[simp] theorem outsideStore_accept (k : Fin 256) (i : Nat) (c : MessageClass) (b : List Byte) (o : Option Origin)
    (s : State) : outsideStore (accept k i c b o s) = outsideStore s := by
  simp only [accept, outsideStore_acceptCharge, outsideStore_modifyRecord]
  rfl

@[simp] theorem outsideStore_decideEntry (n : Nat) (c : MessageClass) (b : List Byte) (o : Option Origin) (s : State) :
    outsideStore (decideEntry n c b o s) = outsideStore s := by
  unfold decideEntry; split <;> simp

/-! ## The Matcher and the frames taken -/

/-- An acknowledgement of any class keeps what the Page Store keeps. -/
@[simp] theorem outsideStore_acknowledge (k : Fin 256) (a : AckClass) (s : State) :
    outsideStore (acknowledge k a s) = outsideStore s := by
  cases a <;> simp [acknowledge]; rfl

/-- A matched report touches no loaded part. -/
@[simp] theorem loaded_matchReport (t : Tag) (s : State) : loaded (matchReport t s) = loaded s := by
  rw [matchReport, loaded_of_outsideStore (outsideStore_acknowledge _ _ _)]
  rfl

/-- R140: characters heard touch no loaded part. -/
theorem loaded_listen {heard : List BusChar} {s t : State} {e : RxEvent} (h : listen heard s = some (t, e)) :
    loaded t = loaded s := by
  induction heard generalizing s with
  | nil => simp only [listen, Option.some.injEq, Prod.mk.injEq] at h; rw [← h.1]
  | cons c rest ih =>
    have k : loaded (hearChar c s).1 = loaded s := by unfold hearChar; split <;> rfl
    unfold listen at h
    split at h
    · simp only [Option.some.injEq] at h
      rw [← k, h]
    · split at h
      · exact (ih h).trans k
      · simp at h

/-- R140, R142, R163: taking a frame touches no loaded part when what is done with it does not. -/
theorem loaded_takeFrame (kind : Byte → Bool) (heard : List BusChar) (act : Received → State → State)
    (h : ∀ f s, loaded (act f s) = loaded s) (s : State) : loaded (takeFrame kind heard act s) = loaded s := by
  unfold takeFrame
  split
  · rename_i t bytes l
    dsimp only
    split
    · rw [h, ← loaded_listen l]
      unfold refreshPeer setPresence
      split <;> rfl
    · rfl
  · rfl

end Sys2Proof.Machine
end

