-- ==== Sys2Proof/Laws/Frames.lean ====
section
/-! SUPPORT. The reception of characters, the taking of a frame and the execution of a host's command, said once. -/

namespace Sys2Proof.Machine

/-! ## Reception -/

/-- R140: what the receiver takes is for this station, or its own state alone changes. -/
theorem hearChar_state (c : BusChar) (s : State) :
    (hearChar c s).1 = if receives s then
      { s with bus := { s.bus with rx := (receiveChar (forThis s) s.bus.rx c).1, run := 0 } } else s := by
  unfold hearChar
  split <;> rfl

/-- R140: a frame is completed by a character that ends its reception. -/
theorem receiveChar_complete {mine : Byte → Bool} {rx : Option (List Byte)} {c : BusChar} {bytes : List Byte}
    (h : (receiveChar mine rx c).2 = .complete bytes) : (receiveChar mine rx c).1 = none := by
  unfold receiveChar at *
  split
  · rename_i noise; simp [noise, RxEvent.silent] at h
  · rename_i noise
    rw [if_neg noise] at h
    split
    · rename_i address
      rw [if_pos address] at h
      unfold openFrame at *
      dsimp only at *
      split
      · rfl
      · rename_i own
        rw [if_neg own] at h
        split <;> simp_all
    · rename_i address
      rw [if_neg address] at h
      cases rx with
      | none => rfl
      | some b =>
        unfold joinFrame RxEvent.silent at *
        dsimp only at *
        split
        · rfl
        · rename_i f
          rw [if_neg f] at h
          split
          · rfl
          · rename_i n
            rw [if_neg n] at h
            split
            · rename_i e; rw [if_pos e] at h; simp at h
            · rename_i e
              rw [if_neg e] at h
              split <;> rfl

/-- R140: characters heard that complete a frame leave none under reception and change nothing else; the station takes
characters. -/
theorem listen_complete {heard : List BusChar} {s t : State} {bytes : List Byte}
    (h : listen heard s = some (t, .complete bytes)) :
    receives s = true ∧ t = { s with bus := { s.bus with rx := none, run := 0 } } := by
  induction heard generalizing s with
  | nil => simp [listen, RxEvent.silent] at h
  | cons c rest ih =>
    unfold listen at h
    have heq := hearChar_state c s
    by_cases r : receives s = true
    · rw [if_pos r] at heq
      split at h
      · simp only [Option.some.injEq] at h
        refine ⟨r, ?_⟩
        have e : (hearChar c s).1 = t := by rw [h]
        have v : (receiveChar (forThis s) s.bus.rx c).2 = .complete bytes := by
          have : (hearChar c s).2 = .complete bytes := by rw [h]
          simpa [hearChar, r] using this
        rw [← e, heq, receiveChar_complete v]
      · split at h
        · obtain ⟨_, rfl⟩ := ih h
          exact ⟨r, by rw [heq]⟩
        · simp at h
    · rw [if_neg r] at heq
      split at h
      · have : (hearChar c s).2 = .silent := by simp [hearChar, r]
        simp only [Option.some.injEq] at h
        rw [h] at this
        simp [RxEvent.silent] at this
      · split at h
        · rw [heq] at h
          exact absurd (ih h).1 r
        · simp at h

/-! ## Taking a frame -/

/-- R163: noting a frame is ending its reception, counting it and refreshing its source. -/
theorem noted_eq {f : Received} {s : State} (h : 1 ≤ f.src.toNat ∧ f.src.toNat ≤ 24) :
    refreshPeer f.src.toNat (countTaken { s with bus := { s.bus with rx := none, run := 0 } }) = noted f s := by
  generalize w : countTaken { s with bus := { s.bus with rx := none, run := 0 } } = n
  have v : n.exchange.presence.set (f.src.toNat - 1) (refreshed n (presenceAt n f.src.toNat)) (by omega) =
      (noted f s).exchange.presence := by
    subst w
    apply Vector.ext
    intro i hi
    simp only [noted, Vector.getElem_set, Vector.getElem_mapFinIdx]
    by_cases e : f.src.toNat - 1 = i
    · subst e
      have q : f.src.toNat - 1 + 1 = f.src.toNat := by omega
      simp only [q, if_true, presenceAt, dif_pos h]
      rfl
    · have q : ¬ i + 1 = f.src.toNat := by omega
      simp only [e, q, if_false]
      rfl
  unfold refreshPeer setPresence
  rw [dif_pos h]
  simp only [State.mapExchange, v]
  subst w
  rfl

/-- R140, R142, R163: a frame that the station hears is noted and handed on. -/
theorem takeFrame_of_hears {heard : List BusChar} {f : Received} {s : State} (h : hears heard f s)
    {kind : Byte → Bool} (k : kind f.kind = true) (act : Received → State → State) :
    takeFrame kind heard act s = act f (noted f s) := by
  obtain ⟨⟨t, bytes, l, rfl⟩, lo, hi, own⟩ := h
  have j : judgeSource bytes t = .valid := by
    have n : ¬ ((readFrame bytes).src.toNat = 0 ∨ 24 < (readFrame bytes).src.toNat) := by omega
    have o : isOwn t (readFrame bytes).src.toNat = false := by
      rw [(listen_complete l).2]
      exact own
    simp only [readFrame] at n o
    simp [judgeSource, n, o]
  unfold takeFrame
  rw [l]
  dsimp only
  rw [if_pos ⟨k, j⟩, (listen_complete l).2, noted_eq ⟨lo, hi⟩]

/-! ## The host's commands -/

/-- R173, R178: the fate of a host's command, by the first check it fails. -/
theorem supervise_eq (code : Byte) (accepted : Bool) (count : Nat) (params : List Byte) (rule : State → Ruling) (s : State)
    (acts : portActs s) :
    supervise code accepted count params rule s =
      if accepted = false then answered (.code code) .refusedState [] s
      else if params.length ≠ count then answered (.code code) .badParam [] s
      else
        match rule s with
        | .badParam => answered (.code code) .badParam [] s
        | .notNow => answered (.code code) .notNow [] s
        | .done data after => answered (.code code) .done data after := by
  simp only [supervise, frameEnds, acts.1, acts.2, Bool.false_eq_true, if_false]
  rfl

/-- R186: a frame that a hold of RESET_N met ends with nothing executed. -/
theorem supervise_ignored (code : Byte) (accepted : Bool) (count : Nat) (params : List Byte) (rule : State → Ruling)
    (s : State) (h : s.port.frame = .ignored) : supervise code accepted count params rule s = endFrame s := by
  simp [supervise, frameEnds, h]

end Sys2Proof.Machine
end

