-- ==== Sys2Proof/Laws/Issue.lean ====
section
/-! SUPPORT. What an issue can do (R47 to R50), what a run of issues can (R166), and when a verdict character goes (R38). -/

namespace Sys2Proof.Machine

/-- R47, R48: a delivery that can be issued stands at the head of the issue queue and meets the conditions. -/
theorem issuable_some {s : State} {k : Fin 256} {d : Delivery} (h : issuable s = some (k, d)) :
    (∃ rest, s.store.issue = k :: rest) ∧ deliveryAt s k = some d ∧ canIssue s d = true := by
  unfold issuable at h
  split at h
  · simp at h
  · rename_i j rest eq
    split at h
    · simp at h
    · rename_i x held
      split at h
      · rename_i can
        simp only [Option.some.injEq, Prod.mk.injEq] at h
        obtain ⟨rfl, rfl⟩ := h
        exact ⟨⟨rest, eq⟩, held, can⟩
      · simp at h

/-- An empty issue queue issues nothing. -/
@[simp] theorem issuable_of_empty {s : State} (h : s.store.issue = []) : issuable s = none := by simp [issuable, h]

/-- R48: a head that cannot go stays, and all behind it. -/
@[simp] theorem issueHeads_of_none {s : State} (h : issuable s = none) (fuel : Nat) : issueHeads fuel s = s := by
  cases fuel <;> simp [issueHeads, h]

/-- A run of issues keeps whatever each issue keeps. -/
theorem issueHeads_keeps {β : Type} (P : State → β) (h : ∀ k d s, P (issueHead k d s) = P s) (fuel : Nat) (s : State) :
    P (issueHeads fuel s) = P s := by
  induction fuel generalizing s with
  | zero => rfl
  | succ n ih =>
    unfold issueHeads
    split
    · rfl
    · exact (ih _).trans (h _ _ _)

/-- R50: the request to the own zone keeps what the Page Store keeps. -/
@[simp] theorem outsideStore_requestOwn (k : Fin 256) (ask : AirAsk) (z : Nat) (s : State) :
    outsideStore (requestOwn k ask z s) = outsideStore s := by simp [requestOwn]

/-- R50: the request to a remote zone keeps what the Page Store keeps. -/
@[simp] theorem outsideStore_requestZone (k : Fin 256) (ask : AirAsk) (s : State) (z : Nat) :
    outsideStore (requestZone k ask s z) = outsideStore s :=
  outsideStore_of_outsideBus (outsideBus_claimEntry _ _ _ _ _)

/-- R50: an issue keeps what the Page Store keeps. -/
@[simp] theorem outsideStore_issueHead (k : Fin 256) (d : Delivery) (s : State) :
    outsideStore (issueHead k d s) = outsideStore s := by
  unfold issueHead
  dsimp only
  split
  · rw [outsideStore_afterResolved,
      foldl_keeps outsideStore (fun t (e : ZoneEntry) => requestOwn k _ e.zone t) (fun _ _ => outsideStore_requestOwn ..),
      foldl_keeps outsideStore (requestZone k _) (fun _ _ => outsideStore_requestZone ..),
      outsideStore_mapDelivery, outsideStore_mapDelivery]
    rfl
  · rw [outsideStore_enterRetry, outsideStore_mapDelivery]
    rfl

/-- R166: a run of issues keeps what the Page Store keeps. -/
@[simp] theorem outsideStore_issueHeads (fuel : Nat) (s : State) : outsideStore (issueHeads fuel s) = outsideStore s :=
  issueHeads_keeps outsideStore outsideStore_issueHead fuel s

/-- R166 step 4: with no entry of the station held, nothing is completed and nothing is issued. -/
@[simp] theorem completeKeys_nil (s : State) : completeKeys [] s = s := rfl

/-- R38: while a character is in the shift stage, the next verdict waits in the transmit buffer. -/
theorem execVerdictTransmission_busy {k : Fin 8} {s : State} (h : (lineAt s k).txShift ≠ none) :
    execVerdictTransmission k s = .next s := by
  simp [execVerdictTransmission, h]

end Sys2Proof.Machine
end

