-- ==== Sys2Proof/Laws/PerInstr.lean ====
section
/-! SUPPORT. What holds of every command as syntax: what the ports can carry of it. -/

namespace Sys2Proof.Laws

open Sys2Proof Sys2Proof.Machine

/-- R172, R173, R137: a well-formed command of the host has a code below 0x0E, and it and the number of parameters it wants
fit a supervisory frame; the characters that a well-formed command brings from the bus begin with a start bit. -/
def PortBounds.Statement (i : Instr) : Prop :=
  (∀ code n p, hostCommand i = some (code, n, p) → code.toNat < 0x0E ∧ n ≤ 32 ∧ (i.wellFormed = true → p.length ≤ 32))
    ∧ ∀ cs, charsHeard i = some cs → i.wellFormed = true → ∀ c ∈ cs, isNoise c = false

/-- A command that is neither the host's nor brings characters from the bus. -/
theorem portBounds_other {i : Instr} (h : hostCommand i = none) (b : charsHeard i = none) : PortBounds.Statement i := by
  constructor
  · intro code n p e; rw [h] at e; cases e
  · intro cs e; rw [b] at e; cases e

/-- A command of the host. -/
theorem portBounds_host {i : Instr} {c : Byte} {m : Nat} {q : List Byte} (h : hostCommand i = some (c, m, q))
    (b : charsHeard i = none) (hc : c.toNat < 0x0E) (hm : m ≤ 32) (hw : i.wellFormed = true → q.length ≤ 32) :
    PortBounds.Statement i := by
  constructor
  · intro code n p e
    rw [h] at e
    cases e
    exact ⟨hc, hm, hw⟩
  · intro cs e; rw [b] at e; cases e

/-- A command that brings characters from the bus. -/
theorem portBounds_bus {i : Instr} {g : List BusChar} (h : hostCommand i = none) (b : charsHeard i = some g)
    (hw : i.wellFormed = heardWellFormed g) : PortBounds.Statement i := by
  constructor
  · intro code n p e; rw [h] at e; cases e
  · intro cs e w
    rw [b] at e
    cases e
    rw [hw] at w
    simpa [heardWellFormed, isNoise] using w

theorem PortBounds.powerOn (resetLow : Bool) : PortBounds.Statement (.powerOn resetLow) :=
  portBounds_other rfl rfl
theorem PortBounds.resetNFall : PortBounds.Statement .resetNFall :=
  portBounds_other rfl rfl
theorem PortBounds.resetNRise : PortBounds.Statement .resetNRise :=
  portBounds_other rfl rfl
theorem PortBounds.frameStart : PortBounds.Statement (.frameStart) :=
  portBounds_other rfl rfl
theorem PortBounds.transferFaultFrame (bits : List Bool) : PortBounds.Statement (.transferFaultFrame bits) :=
  portBounds_other rfl rfl
theorem PortBounds.unknownCommand (code : Byte) (params : List Byte) : PortBounds.Statement (.unknownCommand code params) :=
  portBounds_other rfl rfl
theorem PortBounds.poll (params : List Byte) : PortBounds.Statement (.poll params) :=
  portBounds_host rfl rfl (by decide) (by decide) fun h => by simpa [Instr.wellFormed, paramsWellFormed] using h
theorem PortBounds.loadConfig (params : List Byte) : PortBounds.Statement (.loadConfig params) :=
  portBounds_host rfl rfl (by decide) (by decide) fun h => by simpa [Instr.wellFormed, paramsWellFormed] using h
theorem PortBounds.loadPlan (params : List Byte) : PortBounds.Statement (.loadPlan params) :=
  portBounds_host rfl rfl (by decide) (by decide) fun h => by simpa [Instr.wellFormed, paramsWellFormed] using h
theorem PortBounds.loadRange (params : List Byte) : PortBounds.Statement (.loadRange params) :=
  portBounds_host rfl rfl (by decide) (by decide) fun h => by simpa [Instr.wellFormed, paramsWellFormed] using h
theorem PortBounds.loadSubscriber (params : List Byte) : PortBounds.Statement (.loadSubscriber params) :=
  portBounds_host rfl rfl (by decide) (by decide) fun h => by simpa [Instr.wellFormed, paramsWellFormed] using h
theorem PortBounds.join (params : List Byte) : PortBounds.Statement (.join params) :=
  portBounds_host rfl rfl (by decide) (by decide) fun h => by simpa [Instr.wellFormed, paramsWellFormed] using h
theorem PortBounds.leave (params : List Byte) : PortBounds.Statement (.leave params) :=
  portBounds_host rfl rfl (by decide) (by decide) fun h => by simpa [Instr.wellFormed, paramsWellFormed] using h
theorem PortBounds.restart (params : List Byte) : PortBounds.Statement (.restart params) :=
  portBounds_host rfl rfl (by decide) (by decide) fun h => by simpa [Instr.wellFormed, paramsWellFormed] using h
theorem PortBounds.setState (params : List Byte) : PortBounds.Statement (.setState params) :=
  portBounds_host rfl rfl (by decide) (by decide) fun h => by simpa [Instr.wellFormed, paramsWellFormed] using h
theorem PortBounds.readSubscriber (params : List Byte) : PortBounds.Statement (.readSubscriber params) :=
  portBounds_host rfl rfl (by decide) (by decide) fun h => by simpa [Instr.wellFormed, paramsWellFormed] using h
theorem PortBounds.takeRecords (params : List Byte) : PortBounds.Statement (.takeRecords params) :=
  portBounds_host rfl rfl (by decide) (by decide) fun h => by simpa [Instr.wellFormed, paramsWellFormed] using h
theorem PortBounds.closePeriod (params : List Byte) : PortBounds.Statement (.closePeriod params) :=
  portBounds_host rfl rfl (by decide) (by decide) fun h => by simpa [Instr.wellFormed, paramsWellFormed] using h
theorem PortBounds.readCounts (params : List Byte) (seen : LineSeen) : PortBounds.Statement (.readCounts params seen) :=
  by
  constructor
  · intro code n p e
    cases e
    exact ⟨by decide, by decide, fun w => by simp [Instr.wellFormed, paramsWellFormed] at w; exact w.1⟩
  · intro cs e w
    cases e
    simp [Instr.wellFormed, heardWellFormed] at w
    simpa [isNoise] using w.2
theorem PortBounds.clearFaults (params : List Byte) : PortBounds.Statement (.clearFaults params) :=
  portBounds_host rfl rfl (by decide) (by decide) fun h => by simpa [Instr.wellFormed, paramsWellFormed] using h
theorem PortBounds.seizeRecognised (line : Fin 8) : PortBounds.Statement (.seizeRecognised line) :=
  portBounds_other rfl rfl
theorem PortBounds.releaseRecognised (line : Fin 8) : PortBounds.Statement (.releaseRecognised line) :=
  portBounds_other rfl rfl
theorem PortBounds.rateChosen (line : Fin 8) (micros : Nat) : PortBounds.Statement (.rateChosen line micros) :=
  portBounds_other rfl rfl
theorem PortBounds.measurementOverflow (line : Fin 8) : PortBounds.Statement (.measurementOverflow line) :=
  portBounds_other rfl rfl
theorem PortBounds.calibrationTimeout (line : Fin 8) : PortBounds.Statement (.calibrationTimeout line) :=
  portBounds_other rfl rfl
theorem PortBounds.characterReceived (offpeak : Bool) (line : Fin 8) (char : Byte) (framing : Bool) : PortBounds.Statement (.characterReceived offpeak line char framing) :=
  portBounds_other rfl rfl
theorem PortBounds.entryTimeout (line : Fin 8) : PortBounds.Statement (.entryTimeout line) :=
  portBounds_other rfl rfl
theorem PortBounds.verdictTransmission (line : Fin 8) : PortBounds.Statement (.verdictTransmission line) :=
  portBounds_other rfl rfl
theorem PortBounds.forward (offpeak : Bool) (heard : List BusChar) : PortBounds.Statement (.forward offpeak heard) :=
  portBounds_bus rfl rfl rfl
theorem PortBounds.cancel (offpeak : Bool) (heard : List BusChar) : PortBounds.Statement (.cancel offpeak heard) :=
  portBounds_bus rfl rfl rfl
theorem PortBounds.airRequest (heard : List BusChar) : PortBounds.Statement (.airRequest heard) :=
  portBounds_bus rfl rfl rfl
theorem PortBounds.withdraw (heard : List BusChar) : PortBounds.Statement (.withdraw heard) :=
  portBounds_bus rfl rfl rfl
theorem PortBounds.aired (offpeak : Bool) (heard : List BusChar) : PortBounds.Statement (.aired offpeak heard) :=
  portBounds_bus rfl rfl rfl
theorem PortBounds.heard (offpeak : Bool) (heard : List BusChar) : PortBounds.Statement (.heard offpeak heard) :=
  portBounds_bus rfl rfl rfl
theorem PortBounds.taken (heard : List BusChar) : PortBounds.Statement (.taken heard) :=
  portBounds_bus rfl rfl rfl
theorem PortBounds.cancelAnswer (heard : List BusChar) : PortBounds.Statement (.cancelAnswer heard) :=
  portBounds_bus rfl rfl rfl
theorem PortBounds.airAnswer (offpeak : Bool) (heard : List BusChar) : PortBounds.Statement (.airAnswer offpeak heard) :=
  portBounds_bus rfl rfl rfl
theorem PortBounds.withdrawn (offpeak : Bool) (heard : List BusChar) : PortBounds.Statement (.withdrawn offpeak heard) :=
  portBounds_bus rfl rfl rfl
theorem PortBounds.presence (offpeak : Bool) (heard : List BusChar) : PortBounds.Statement (.presence offpeak heard) :=
  portBounds_bus rfl rfl rfl
theorem PortBounds.badKindFrame (kind : Byte) (heard : List BusChar) : PortBounds.Statement (.badKindFrame kind heard) :=
  by
  constructor
  · intro code n p e; cases e
  · intro cs e w
    cases e
    simp only [Instr.wellFormed, Bool.and_eq_true] at w
    simpa [heardWellFormed, isNoise] using w.2
theorem PortBounds.frameDroppedBySource (src : Byte) (heard : List BusChar) : PortBounds.Statement (.frameDroppedBySource src heard) :=
  portBounds_bus rfl rfl rfl
theorem PortBounds.frameDiscard (heard : List BusChar) : PortBounds.Statement (.frameDiscard heard) :=
  portBounds_bus rfl rfl rfl
theorem PortBounds.breakHeard (bits : Nat) : PortBounds.Statement (.breakHeard bits) :=
  portBounds_other rfl rfl
theorem PortBounds.shortBreak (bits : Nat) : PortBounds.Statement (.shortBreak bits) :=
  portBounds_other rfl rfl
theorem PortBounds.stuckLine : PortBounds.Statement (.stuckLine) :=
  portBounds_other rfl rfl
theorem PortBounds.stoppedConditionEnd (quiet : Nat) : PortBounds.Statement (.stoppedConditionEnd quiet) :=
  portBounds_other rfl rfl
theorem PortBounds.breakStart (gap : Nat) : PortBounds.Statement (.breakStart gap) :=
  portBounds_other rfl rfl
theorem PortBounds.transmissionStart (gap : Nat) : PortBounds.Statement (.transmissionStart gap) :=
  portBounds_other rfl rfl
theorem PortBounds.frameSent : PortBounds.Statement (.frameSent) :=
  portBounds_other rfl rfl
theorem PortBounds.lostArbitration (txFault : Bool) : PortBounds.Statement (.lostArbitration txFault) :=
  portBounds_other rfl rfl
theorem PortBounds.issue (offpeak : Bool) : PortBounds.Statement (.issue offpeak) :=
  portBounds_other rfl rfl
theorem PortBounds.lifetimeExpiry (offpeak : Bool) (slot : Fin 256) : PortBounds.Statement (.lifetimeExpiry offpeak slot) :=
  portBounds_other rfl rfl
theorem PortBounds.ackWaitExpiry (offpeak : Bool) (slot : Fin 256) : PortBounds.Statement (.ackWaitExpiry offpeak slot) :=
  portBounds_other rfl rfl
theorem PortBounds.replyTimeout (offpeak : Bool) (key : EntryKey) : PortBounds.Statement (.replyTimeout offpeak key) :=
  portBounds_other rfl rfl
theorem PortBounds.retryRelease : PortBounds.Statement (.retryRelease) :=
  portBounds_other rfl rfl
theorem PortBounds.freeCycleStart : PortBounds.Statement (.freeCycleStart) :=
  portBounds_other rfl rfl
theorem PortBounds.cycleTimerExpiry : PortBounds.Statement (.cycleTimerExpiry) :=
  portBounds_other rfl rfl
theorem PortBounds.slotStart (ready : Bool) : PortBounds.Statement (.slotStart ready) :=
  portBounds_other rfl rfl
theorem PortBounds.cellHanded : PortBounds.Statement (.cellHanded) :=
  portBounds_other rfl rfl
theorem PortBounds.cycleEnd (offpeak : Bool) : PortBounds.Statement (.cycleEnd offpeak) :=
  portBounds_other rfl rfl
theorem PortBounds.reverseReport (char : Byte) (framing : Bool) : PortBounds.Statement (.reverseReport char framing) :=
  portBounds_other rfl rfl
theorem PortBounds.shortReport : PortBounds.Statement (.shortReport) :=
  portBounds_other rfl rfl
theorem PortBounds.extraReportCharacter : PortBounds.Statement (.extraReportCharacter) :=
  portBounds_other rfl rfl
theorem PortBounds.matcherTakeHead (offpeak : Bool) : PortBounds.Statement (.matcherTakeHead offpeak) :=
  portBounds_other rfl rfl
theorem PortBounds.presenceTimeout (peer : Nat) : PortBounds.Statement (.presenceTimeout peer) :=
  portBounds_other rfl rfl
theorem PortBounds.presenceInterval : PortBounds.Statement (.presenceInterval) :=
  portBounds_other rfl rfl
theorem PortBounds.listenTimer : PortBounds.Statement (.listenTimer) :=
  portBounds_other rfl rfl
theorem PortBounds.drain : PortBounds.Statement (.drain) :=
  portBounds_other rfl rfl
theorem PortBounds.periodCloseStep (offpeak : Bool) : PortBounds.Statement (.periodCloseStep offpeak) :=
  portBounds_other rfl rfl
theorem PortBounds.seizeSample (line : Fin 8) (high : Bool) : PortBounds.Statement (.seizeSample line high) :=
  portBounds_other rfl rfl
theorem PortBounds.calibrationFirstEdge (line : Fin 8) : PortBounds.Statement (.calibrationFirstEdge line) :=
  portBounds_other rfl rfl
theorem PortBounds.reportCharacterReceived (char : Byte) (framing : Bool) : PortBounds.Statement (.reportCharacterReceived char framing) :=
  portBounds_other rfl rfl

end Sys2Proof.Laws
end

