-- ==== Sys2Proof/Laws/Reset.lean ====
section
/-! SUPPORT. What one sample of RESET_N can do (R186), and the bytes that the bits of the supervisory port make (R171). -/

namespace Sys2Proof.Machine

/-! ## The supervisory port -/

/-- R171: no bytes have no bits. -/
@[simp] theorem portBits_nil : portBits [] = [] := rfl

/-- R171: a byte has eight bits. -/
@[simp] theorem length_portBits (bytes : List Byte) : (portBits bytes).length = 8 * bytes.length := by
  induction bytes with
  | nil => rfl
  | cons b rest ih => simp [portBits] at *; omega

/-- R171: the eight bits of a byte make the byte again. -/
theorem wholeBytes_cons (b : Byte) (bits : List Bool) : wholeBytes (portBits [b] ++ bits) = b :: wholeBytes bits := by
  have h : ∀ b : Byte, wholeBytes (portBits [b]) = [b] := by decide +kernel
  have e := h b
  simp only [portBits, List.flatMap_cons, List.flatMap_nil, List.append_nil, List.range, List.range.loop, List.map,
    wholeBytes, List.cons.injEq, and_true, List.cons_append, List.nil_append] at e ⊢
  exact e

/-- R171: the bytes of a frame come first of the whole bytes received, whatever is clocked after them. -/
theorem wholeBytes_portBits (bytes : List Byte) (bits : List Bool) :
    wholeBytes (portBits bytes ++ bits) = bytes ++ wholeBytes bits := by
  induction bytes with
  | nil => rfl
  | cons b rest ih =>
    have split : portBits (b :: rest) = portBits [b] ++ portBits rest := by simp [portBits]
    rw [split, List.append_assoc, wholeBytes_cons, ih, List.cons_append]

/-- R171: fewer than eight bits are a partial byte. -/
theorem wholeBytes_partial {bits : List Bool} (h : bits.length < 8) : wholeBytes bits = [] := by
  unfold wholeBytes
  split
  · simp at h; omega
  · rfl

/-! ## RESET_N -/

/-- R186: what a sample recognises. -/
theorem recognises_iff (high : Bool) (s : State) :
    recognises high s = true ↔ s.life.sample = some high ∧ s.life.recognised ≠ some high := by
  simp [recognises]

/-- R186: a sample that recognises nothing is held as the last one, and does nothing else. -/
theorem sampleReset_steady {s : State} {high : Bool} (h : recognises high s = false) :
    sampleReset s high = takeSample high s := by simp [sampleReset, h]

/-- R186: the second high sample ends the hold, and does nothing else. -/
theorem sampleReset_high {s : State} (h : recognises true s = true) :
    sampleReset s true = recogniseHigh (takeSample true s) := by simp [sampleReset, h]

/-- R186, R187: the second low sample holds the station. -/
theorem sampleReset_low {s : State} (h : recognises false s = true) :
    sampleReset s false = recogniseLow (takeSample false s) := by simp [sampleReset, h]

/-- R186: a level that has been recognised is not recognised again. -/
theorem recognises_recognised {s : State} {high : Bool} (h : s.life.recognised = some high) : recognises high s = false := by
  simp [recognises, h]

/-- R186: one more sample recognises its level when it is the second, and nothing otherwise. -/
@[simp] theorem recognised_sampleReset (s : State) (high : Bool) :
    (sampleReset s high).life.recognised = if recognises high s then some high else s.life.recognised := by
  unfold sampleReset
  cases recognises high s <;> cases high <;> rfl

/-- R186: the sample taken is the last one. -/
@[simp] theorem sample_sampleReset (s : State) (high : Bool) : (sampleReset s high).life.sample = some high := by
  unfold sampleReset recogniseLow pinReset
  cases recognises high s <;> cases high <;> simp only [Bool.false_eq_true, if_false, if_true] <;> try rfl
  split <;> rfl

/-- R186: the samples that are still to come are of the level that comes, and at most two. -/
theorem samplesToCome_eq (high : Bool) (s : State) :
    ∃ n ≤ 2, samplesToCome high s = List.replicate n high := by
  unfold samplesToCome
  split
  · exact ⟨0, by omega, rfl⟩
  · split
    · exact ⟨1, by omega, rfl⟩
    · exact ⟨2, by omega, rfl⟩

/-- R186: a level that is the recognised one only comes to stand at the pin. -/
theorem levelComes_recognised {s : State} {high : Bool} (h : s.life.recognised = some high) :
    levelComes high s = s.mapPins fun p => { p with resetN := high } := by
  simp [levelComes, samplesToCome, h]

/-- R186: whichever level comes, it is the recognised one in the end. -/
@[simp] theorem recognised_levelComes (high : Bool) (s : State) : (levelComes high s).life.recognised = some high := by
  by_cases h : s.life.recognised = some high
  · rw [levelComes_recognised h]; exact h
  · by_cases e : s.life.sample = some high <;> simp [levelComes, samplesToCome, h, e, recognises]

end Sys2Proof.Machine
end

