-- ==== Sys2Proof/Tests/Slice0.lean ====
section
/-! SUPPORT. Tests: an ill-formed term for each check of WellFormed; the worked examples of the manual, each one event on
a small state; and for every statement of Obligations.lean with hypotheses a state and operands that meet them, clause
by clause, at the ends of their ranges. -/

namespace Sys2Proof.Machine.Tests

-- One theorem at a time: the tests are many small kernel evaluations, and a thread for each takes too much memory.
set_option Elab.async false

open Sys2Proof Sys2Proof.Machine

/-! ## Small states -/

/-- Station 7 of an office, ALIGNED, four air slots, as in 10_worked_sequences.md. -/
def demoConfig : StationConfig :=
  { station := 7, airing := true, mode := .aligned, slotMask := 0x000F, slotTime := 8, busRate := .b250000,
    presenceTimeout := 10, replyTimeout := 50, entryTimeout := 5,
    lines := Vector.replicate 8 { defaultRate := .r1200, activeHigh := true }, minQuality := 6 }

/-- Plan 2 of 10_worked_sequences.md, Sequence 1, with the backoff of R105's example. -/
def demoPlan : Plan :=
  { acceptFee := 20, cellFee := 3, retryPercent := 100, discount := 25, allowance := 1000, lowWatch := 1000,
    highWatch := 1500, policy := .soft, messageCap := 0, missRefund := 0, maxAttempts := 3, ackWait := 30,
    backoffBase := 30, backoffCap := 300, lifetime := 60, widening := true, finalSweep := false,
    priorityAllowed := false }

/-- The subscriber of Sequence 1: home zones 7 and 12, wide zones 12, 15 and 20. -/
def demoSubscriber : Subscriber :=
  { number := 7104006, address := 4660, plan := 2, state := .active, homeZones := 0x000840, wideZones := 0x084800,
    periodTotal := 500, saturated := false, usage := 990, accepted := 0, missed := 0, warnLow := false,
    warnHigh := false, live := 0 }

/-- A present peer that airs. -/
def herePeer : Presence :=
  { present := true, lastHeard := 0, absenceDue := some 1000, airing := true, reported := .onBus }

/-- Station 7 in a state of its life, with a map, one subscriber, plan 2, and stations 5 and 12 present. -/
def stationIn (st : StationState) : State :=
  { State.reset with
    life := { state := st, lastReset := .powerOn, held := false, sample := some true, recognised := some true,
              config := some demoConfig }
    plans := State.reset.plans.set 2 demoPlan
    ranges := [{ first := 7000000, last := 7999999, station := 7 }, { first := 9000000, last := 9999999, station := 12 }]
    directory := [demoSubscriber]
    exchange := { State.reset.exchange with
      presence := (State.reset.exchange.presence.set 11 herePeer).set 4 herePeer } }

/-- Station 7 ON-BUS. -/
def onBus : State := stationIn .onBus

/-- A delivery of the subscriber, 40 text characters, never issued. -/
def demoDelivery : Delivery :=
  { subscriber := 0, cls := { medium := .text, priority := false }, body := List.replicate 40 0x61, cells := 14,
    origin := some { station := 3, seq := 118 }, lifetimeDue := 360000, counted := 0, issued := false, expiry := false,
    attempt := none, charged := 20, retryCharges := 0, due := none, state := .issuing }

/-- A delivery put into slot 19 under generation 5, the subscriber's live count 1. -/
def holding (d : Delivery) (s : State) : State :=
  { s with
    directory := [{ demoSubscriber with live := 1, accepted := 1, periodTotal := 520 }]
    store := { s.store with slots := s.store.slots.set 19 { gen := 5, held := some d } } }

/-- The tag of its first attempt. -/
def demoTag : Tag := { home := 7, slot := 19, gen := 5, attempt := 1 }

/-- An attempt in zones 7 and 12. -/
def demoAttempt (own peer : ZoneState) : Attempt :=
  { number := 1, zones := [{ zone := 7, state := own }, { zone := 12, state := peer }], ackDue := none, outcome := none }

/-- An attempt closed ACKED, zone 12 still to answer its WITHDRAW. -/
def ackedAttempt : Attempt := { (demoAttempt .aired .withdrawing) with outcome := some .acked }

/-- An attempt under way for the delivery. -/
def underWay (st : DeliveryState) (a : Attempt) : Delivery :=
  { demoDelivery with issued := true, state := st, attempt := some a }

/-- An air entry of a home station, QUEUED. -/
def airEntry (home slot : Byte) (cells : Nat) (priority : Bool) : AirEntry :=
  { tag := { home := home, slot := slot, gen := 0, attempt := 1 }, address := 1,
    cls := { medium := .tone, priority := priority }, cells := cells, body := [], state := .queued, returned := false,
    withdraw := none }

/-- A frame of a kind from a station to this one. -/
def sentBy (kind : FrameKind) (src seq : Byte) (payload : List Byte) : Frame :=
  { kind := kind, dest := 7, src := src, seq := seq, payload := payload }

/-- A frame of a kind from station 12 to this one. -/
def fromTwelve (kind : FrameKind) (seq : Byte) (payload : List Byte) : Frame := sentBy kind 12 seq payload

/-- A PRESENCE of station 12. -/
def presenceOf (payload : List Byte) : Frame :=
  { kind := .presence, dest := 0, src := 12, seq := 0, payload := payload }

/-- The parts of a frame as a receiver reads them. -/
def partsOf (f : Frame) : Received :=
  { dest := f.dest, src := f.src, kind := kindCode f.kind, seq := f.seq, payload := f.payload }

/-- Characters complete a frame with these parts, from another station. -/
def completes (heard : List BusChar) (f : Received) (s : State) : Bool :=
  (match listen heard s with
    | some (_, .complete bytes) => decide (readFrame bytes = f)
    | _ => false)
    && decide (1 ≤ f.src.toNat) && decide (f.src.toNat ≤ 24) && !isOwn s f.src.toNat

/-- Line 5 in a state, at 2,400 bit/s. -/
def lineIn (st : LineState) : Line := { Line.fresh with seized := true, state := st, rate := some .r2400 }

/-- Line 5 of the station in a context. -/
def lineOn (l : Line) : State := setLine 4 l onBus

/-- A request frame of the FORWARD of line 5. -/
def forwardFrame : Frame := { kind := .forward, dest := 12, src := 7, seq := 200, payload := [] }

/-- The station with one request queued, or with waiting ones. -/
def withRequests (n : Nat) (tx : Transmission) : State :=
  onBus.mapBus fun b =>
    { b with requests := List.replicate n forwardFrame, waiting := List.replicate n forwardFrame, tx := tx }

/-- The station with BUS_TX at something, and a pending mark or none. -/
def sending (tx : Transmission) (mark : Bool) : State :=
  { onBus with bus := { onBus.bus with tx := tx, pendingMark := mark } }

/-- Line 5 with a verdict character in its shift stage and another in its transmit buffer. -/
def shifting (r : LineRate) : State :=
  lineOn { lineIn .awaitOpen with
    txBuffer := some { byte := 0x41, rate := some r }
    txShift := some { bits := 0x282, rate := some r, since := 0 } }

/-- An entry under assembly with characters taken. -/
def openEntry (n : Nat) : EntryAssembly :=
  { chars := List.replicate n 0x30, sum := 0, framing := false, tooLong := false, awaitingCheck := false }

/-- The state after an outcome, or the one before it. -/
def after (s : State) (o : Host.Outcome State Fault Refusal) : State :=
  match o with
  | .next t => t
  | _ => s

/-- The state after a command. -/
def run (c : Instr) (s : State) : State := after s (exec c s)

/-! ## WellFormed: each check refuses an ill-formed term -/

/-- R137: a recessive start bit is noise, in a frame's characters and at READ-COUNTS. -/
theorem test_wellFormed_noise : (Instr.heard false [0#11]).wellFormed = true
    ∧ (Instr.heard false [0#11, 1#11]).wellFormed = false
    ∧ (Instr.readCounts [0] { heard := [1#11], run := 0 }).wellFormed = false := by decide

/-- R172: 33 parameter bytes. -/
theorem test_wellFormed_long_params : (Instr.poll (List.replicate 33 0)).wellFormed = false := by decide

/-- R173: CLEAR-FAULTS as an unknown command; R143: TAKEN as an unknown kind. -/
theorem test_wellFormed_named_codes : (Instr.unknownCommand 0x0D []).wellFormed = false
    ∧ (Instr.badKindFrame 0x11 []).wellFormed = false := by decide

/-- R24: a measurement of 65,535 is an overflow. -/
theorem test_wellFormed_measurement : (Instr.rateChosen 0 65535).wellFormed = false := by decide

/-- R148, R150, R144: durations that are not those of the event. -/
theorem test_wellFormed_durations : (Instr.breakHeard 45).wellFormed = false ∧ (Instr.shortBreak 22).wellFormed = false
    ∧ (Instr.stoppedConditionEnd 10).wellFormed = false ∧ (Instr.breakStart 21).wellFormed = false
    ∧ (Instr.transmissionStart 32).wellFormed = false := by decide

/-- Station numbers are 1 to 24. -/
theorem test_wellFormed_stations : (Instr.presenceTimeout 25).wellFormed = false
    ∧ (Instr.replyTimeout false { peer := 0, seq := 1, kind := .forward }).wellFormed = false := by decide

/-- The table gives no row bits: a word spells no command. -/
theorem test_decode_none : decodeTableWord 8 0 = none := by decide

/-! ## Values of the manual -/

/-- R139, worked by hand: the CRC of no byte, of one zero byte and of "123456789". -/
theorem test_crc : crc [] = 0xFFFF ∧ crc [0x00] = 0xAAB3
    ∧ crc [0x31, 0x32, 0x33, 0x34, 0x35, 0x36, 0x37, 0x38, 0x39] = 0x8E3C := by decide +kernel

/-- R137, worked by hand: 0x0C as an address character: start 0, data 00110000 in time order, mark 1, stop 1. -/
theorem test_bus_char : busChar true 0x0C = 0b11_00001100_0#11 ∧ dataOf 0b11_00001100_0#11 = 0x0C
    ∧ isAddress (busChar false 0xFF) = false ∧ framingError 0b01_00001100_0#11 = true := by decide

/-- R38, R25, worked by hand: the verdict character 'A' on TX: start low, data from the least significant bit, stop high. -/
theorem test_serial_bits : serialBits 0x41 = 0b1_01000001_0#10 := by decide

/-- R44's table of cell counts. -/
theorem test_cellCount : cellCount .tone 0 = 2 ∧ cellCount .numeric 7 = 4 ∧ cellCount .numeric 32 = 8
    ∧ cellCount .text 24 = 9 ∧ cellCount .text 40 = 14 ∧ cellCount .text 80 = 26 := by decide

/-- R105's example: the waits in seconds of slot 6. -/
theorem test_backoff : (List.range 5).map (fun i => backoffSeconds demoPlan (i + 1) 6) = [32, 62, 122, 242, 302] := by
  decide

/-- R23's examples and boundaries. -/
theorem test_rates : rateFor 26400 = .r300 ∧ rateFor 16667 = .r300 ∧ rateFor 16666 = .r1200 ∧ rateFor 5000 = .r1200
    ∧ rateFor 4999 = .r2400 ∧ rateFor 3310 = .r2400 ∧ rateFor 2082 = .r9600 ∧ rateFor 840 = .r9600 := by decide

/-- R120's table: attempt 2 at P = 150 for a gross of 1 and of 3; off-peak at D = 30 for a gross of 1. -/
theorem test_charge_stages : retryAmount { demoPlan with retryPercent := 150 } 2 1 = 2
    ∧ retryAmount { demoPlan with retryPercent := 150 } 2 3 = 5
    ∧ netAmount { demoPlan with discount := 30 } true 1 = 0 ∧ netAmount { demoPlan with discount := 0 } true 9 = 9 := by
  decide

/-- The fixed cells and the tag (7, 19, 5, 1) by 11_formats.md: 00111 00010011 00000101 001. -/
theorem test_cells : syncCell = 0xB4E61D ∧ idleCell = 0xAAAAAA ∧ tagCell demoTag = 0b001110001001100000101001#24
    ∧ addressCell { medium := .text, priority := true } 5 = 0b101000000000000000000101#24 := by decide

/-- 11_formats.md: "12" fills the top byte of its content cell with 0001 0010. -/
theorem test_content : contentCell .numeric [0x31, 0x32] 0 = 0x120000 := by decide

/-- R1: a due time just past the wrap of the counter is not reached before it, and is at it. -/
theorem test_reached : reached 0xFFFFFFFF 0 = false ∧ reached 0 0 = true ∧ reached 0x7FFFFFFF 0 = true := by decide

/-! ## Sequence 1 of 10_worked_sequences.md -/

/-- Step 1: station 7 takes the FORWARD: ACCEPT, period total 520, ACCEPT-FEE of 20, TAKEN with sequence 118. -/
theorem test_forward_accepted :
    let s := run (.forward false (frameChars (sentBy .forward 3 118 ([0x6C, 0x66, 0x06, 0x41] ++ List.replicate 40 0x61))))
      onBus
    s.directory.map (fun r => (r.periodTotal, r.live, r.accepted)) = [(520, 1, 1)]
      ∧ (deliveryAt s 0).map (fun d => (d.cells, d.lifetimeDue, d.charged)) = some (14, 360000, 20)
      ∧ s.billing.queue.map (fun b => (b.kind, b.amount)) = [(.acceptFee, 20)] ∧ attention s = true
      ∧ s.bus.answers.map (fun f => (f.kind, f.dest, f.seq, f.payload)) = [(.taken, 3, 118, [0])] := by decide +kernel

/-- Step 2: the issue asks station 12 and hands the own zone its request. -/
theorem test_issue :
    let s := run (.issue false) ((holding demoDelivery onBus).mapStore fun p => { p with issue := [19] })
    (attemptAt s 19).map (·.zones) = some [{ zone := 7, state := .accepted }, { zone := 12, state := .sent }]
      ∧ s.air.regular.map (·.tag) = [demoTag] ∧ s.bus.requests.map (fun f => (f.kind, f.dest)) = [(.airRequest, 12)]
      ∧ s.exchange.table.map (fun e => (e.phase, e.due)) = [(.queued, some 50)] := by decide

/-- Step 11: the AIRED report of zone 12 settles the attempt: 28 cell-zones, 18 billable, 54 t.u., WARN-LOW, and the
delivery ends DELIVERED. -/
theorem test_settle :
    let s := run (.aired false (frameChars (fromTwelve .aired 9 [7, 19, 5, 1])))
      (holding (underWay .settling ackedAttempt) onBus)
    s.directory.map (fun r => (r.periodTotal, r.usage, r.live, r.warnLow, r.warnHigh)) = [(574, 1018, 0, true, false)]
      ∧ s.billing.queue.map (fun b => (b.kind, b.amount, b.cells)) =
        [(.quotaNotice, 0, none), (.attempt, 54, some (14, 2))]
      ∧ slotAt s 19 = { gen := 6, held := none } := by decide +kernel

/-! ## Sequence 2: the packing of a cycle -/

/-- The cycle of station 12's first four slots, at an air slot, a page's last cells continuing into it. -/
def packing (slot : Nat) (tick : Tick) (continuing : Option Continuing) (report : List ReportItem) : State :=
  { onBus with
    tick := tick
    air := { onBus.air with
      cycle := some { start := 0, keyed := true, nextSlot := slot, slotBegin := 0, cells := [], continuing := continuing,
                      stopped := false, report := report, pageCells := 14, idleCells := 0, skipped := 0 }
      key := true } }

/-- Slot 1: 6 cells of R2, then 2 of the priority page P1. -/
theorem test_slot_filled :
    let r2 : AirEntry := { airEntry 3 0 14 false with state := .packed }
    let s := run (.slotStart true) ((packing 1 16 (some { tag := r2.tag, cells := List.replicate 6 0 })
      [{ tag := r2.tag, priority := false, outcome := .started }]).mapAir fun a =>
        { a with regular := [r2, airEntry 7 1 9 false], priority := [airEntry 7 2 4 true] })
    s.air.cycle.map (fun y => y.cells.map (·.page)) = some (List.replicate 6 (some r2.tag) ++
        List.replicate 2 (some (airEntry 7 2 4 true).tag))
      ∧ s.air.priority.map (·.state) = [.packed] ∧ s.air.regular.map (·.state) = [.packed, .queued] := by decide

/-- Slot 2: READY low returns P1, which was continuing. -/
theorem test_slot_skipped :
    let p1 : AirEntry := { airEntry 7 2 4 true with state := .packed }
    let s := run (.slotStart false) ((packing 2 24 (some { tag := p1.tag, cells := [0, 0] })
      [{ tag := p1.tag, priority := true, outcome := .started }]).mapAir fun a => { a with priority := [p1] })
    s.air.priority.map (fun e => (e.state, e.returned)) = [(.queued, true)]
      ∧ s.air.cycle.map (fun y => (y.skipped, y.cells)) = some (1, []) := by decide

/-- Slot 3: the returned P1 stops the starting of pages: 8 idle cells. -/
theorem test_slot_stopped :
    let s := run (.slotStart true) ((packing 3 32 none []).mapAir fun a =>
      { a with regular := [airEntry 7 1 9 false], priority := [{ airEntry 7 2 4 true with returned := true }] })
    s.air.cycle.map (fun y => (y.stopped, y.cells.map (·.page))) = some (true, List.replicate 8 none)
      ∧ s.air.regular.map (·.state) = [.queued] := by decide

/-- Cycle end: R2 is reported to station 3 and leaves; P1 stays, its returned mark cleared; the counts grow. -/
theorem test_cycle_end :
    let r2 : AirEntry := { airEntry 3 0 14 false with state := .done }
    let p1 : AirEntry := { airEntry 7 2 4 true with returned := true }
    let s := run (.cycleEnd false) ((packing 16 136 none [{ tag := r2.tag, priority := false, outcome := .done },
      { tag := p1.tag, priority := true, outcome := .returned }]).mapAir fun a =>
        { a with regular := [r2, airEntry 7 1 9 false], priority := [p1] })
    s.air.regular.map (·.tag) = [(airEntry 7 1 9 false).tag] ∧ s.air.priority.map (·.returned) = [false]
      ∧ s.bus.answers.map (fun f => (f.kind, f.dest, f.payload)) = [(.aired, 3, [3, 0, 0, 1])]
      ∧ s.air.key = false ∧ s.air.cycleCounts.pagesAired = 1 ∧ s.air.cycleCounts.priorityPages = 0 := by decide

/-! ## Sequence 3 and the intake's own example -/

/-- The FORWARD entry of line 5 to station 12. -/
def forwardEntry (due : Option Tick) : Outstanding :=
  { key := { peer := 12, seq := 200, kind := .forward }, owner := .line 4, phase := .sent, due := due }

/-- Line 5 waiting in LOOKUP with characters in its FIFO. -/
def waitingLine (fifo : List RxChar) : State :=
  setLine 4 { lineIn .lookup with lookup := some { peer := 12, seq := 200, kind := .forward }, fifo := fifo }
    { onBus with exchange := { onBus.exchange with table := [forwardEntry (some 10)], seq := 200 } }

/-- The station with outstanding entries. -/
def withTable (t : List Outstanding) (s : State) : State := { s with exchange := { s.exchange with table := t } }

/-- The station's air queues with entries. -/
def withAir (regular priority : List AirEntry) (s : State) : State :=
  { s with air := { s.air with regular := regular, priority := priority } }

/-- The station in FREE mode. -/
def freeMode : State := { onBus with life := { onBus.life with config := some { demoConfig with mode := .free } } }

/-- Tick T + 10: UNREACHABLE on the line, and the entry becomes a CANCEL with sequence 201. -/
theorem test_reply_timeout :
    let s := run (.replyTimeout false { peer := 12, seq := 200, kind := .forward }) { waitingLine [] with tick := 10 }
    (lineAt s 4).txBuffer = some { byte := 0x48, rate := some .r2400 } ∧ (lineAt s 4).state = .awaitOpen
      ∧ s.exchange.table.map (fun e => (e.key.seq, e.key.kind, e.due)) = [(201, .cancel, none)]
      ∧ s.bus.requests.map (fun f => (f.kind, f.payload)) = [(.cancel, [200])] := by decide

/-- Tick T + 14 at the home: the CANCEL ends the delivery with the credit of its accept charge. -/
theorem test_cancel :
    let s := run (.cancel false (frameChars (sentBy .cancel 3 201 [118])))
      ((holding demoDelivery onBus).mapStore fun p => { p with issue := [19] })
    s.directory.map (fun r => (r.periodTotal, r.live, r.accepted)) = [(500, 0, 1)] ∧ slotAt s 19 = { gen := 6, held := none }
      ∧ s.billing.queue.map (fun b => (b.kind, b.amount, b.credit)) = [(.cancelCredit, 20, true)]
      ∧ s.bus.answers.map (fun f => (f.kind, f.seq, f.payload)) = [(.cancelAnswer, 201, [0])] := by decide +kernel

/-- 02_message_intake.md, step 3: the TAKEN gives ACCEPT, and the waiting OPEN and '4' begin the next entry. -/
theorem test_taken_drains_fifo :
    let s := run (.taken (frameChars (fromTwelve .taken 200 [0])))
      (waitingLine [{ byte := 0x02, framing := false }, { byte := 0x34, framing := false }])
    (lineAt s 4).txBuffer = some { byte := 0x41, rate := some .r2400 } ∧ (lineAt s 4).state = .collect
      ∧ (lineAt s 4).fifo = [] ∧ (lineAt s 4).entry.map (fun e => (e.chars, e.sum)) = some ([0x34], 0x34)
      ∧ s.exchange.table = [] := by decide +kernel

/-- Step 3a: a third character overruns the line, which stays in LOOKUP. -/
theorem test_overrun :
    let s := run (.characterReceived false 4 0x35 false)
      (waitingLine [{ byte := 0x02, framing := false }, { byte := 0x34, framing := false }])
    (lineAt s 4).fifo = [] ∧ (lineAt s 4).overrun = true ∧ (lineAt s 4).state = .lookup
      ∧ (lineAt s 4).counts.overruns = 1 := by decide

/-- R38: a character taken at 300 bit/s is in the shift stage for three ticks and gone at the fourth; while it is there the
next verdict waits in the transmit buffer. -/
theorem test_shift_stage :
    let l : Line := { lineIn .awaitOpen with txBuffer := some { byte := 0x41, rate := some .r300 } }
    let s := run (.verdictTransmission 4) (lineOn l)
    (lineAt s 4).txShift = some { bits := 0x282, rate := some .r300, since := 0 } ∧ (lineAt s 4).txBuffer = none
      ∧ (lineAt (passTick { s with tick := 2 }) 4).txShift.isSome = true
      ∧ (lineAt (passTick { s with tick := 3 }) 4).txShift = none
      ∧ run (.verdictTransmission 4) (shifting .r9600) = shifting .r9600 := by decide +kernel

/-! ## Other examples -/

/-- 01, Two Maps Out of Step: no record here and the map names a peer: NOT-HOME to a FORWARD, UNKNOWN to an own line. -/
theorem test_not_home : decision 9350000 { medium := .tone, priority := false } (some { station := 4, seq := 1 }) onBus
      = .notHome
    ∧ decision 7000001 { medium := .tone, priority := false } (some { station := 4, seq := 1 }) onBus = .unknown := by
  decide

/-- 05, One Acknowledgement, step 1: the station's own report closes the attempt ACKED and withdraws zone 12. -/
theorem test_report_closes :
    let s := run (.matcherTakeHead false) { holding (underWay .awaitAck (demoAttempt .aired .accepted)) onBus with
      matcher := { Matcher.fresh with fifo := [{ tag := demoTag, quality := 11 }] }
      exchange := { onBus.exchange with table :=
        [{ key := { peer := 12, seq := 64, kind := .airRequest }, owner := .zone 19 12, phase := .held, due := none }] } }
    s.matcher.counts.ackClosed = 1 ∧ (deliveryAt s 19).map (·.state) = some .settling
      ∧ (attemptAt s 19).map (·.zones) = some [{ zone := 7, state := .aired }, { zone := 12, state := .withdrawing }]
      ∧ s.bus.requests.map (fun f => (f.kind, f.payload)) = [(.withdraw, [7, 19, 5, 1])] := by decide

/-- 08, A Peer Restarts: the fresh PRESENCE of station 12 frees an entry in HELD, and its attempt, with no zone left,
settles void into RETRY-WAIT; this station makes an ordinary PRESENCE. -/
theorem test_fresh_join :
    let s := run (.presence false (frameChars (presenceOf [1, 3])))
      { holding (underWay .airPending (demoAttempt .refused .accepted)) onBus with
        air := { Air.fresh with regular := [airEntry 12 30 2 false] }
        exchange := { onBus.exchange with table :=
          [{ key := { peer := 12, seq := 203, kind := .airRequest }, owner := .zone 19 12, phase := .held, due := none }] } }
    s.exchange.table = [] ∧ s.air.regular = [] ∧ s.store.retry = [19] ∧ (deliveryAt s 19).map (·.counted) = some 0
      ∧ s.exchange.counts.replyTimeouts = 0 ∧ s.bus.requests.map (fun f => (f.kind, f.payload)) = [(.presence, [1, 1])] := by
  decide +kernel

/-- R186: a frame in progress at the fall of RESET_N is ignored to its end, past the end of the hold. -/
theorem test_frame_abandoned :
    let s := run .resetNRise (run .resetNFall (run .frameStart onBus))
    s.port.frame = .ignored ∧ dataOut s 0 = none ∧ (run (.poll []) s).port.response.previous = .none
      ∧ (run (.poll []) s).port.frame = .closed := by decide +kernel

/-- A station whose RESET_N shows a level. -/
def resetAt (high : Bool) (s : State) : State := { s with pins := { s.pins with resetN := high } }

/-- R186: a low level of one tick is ignored, and the next one begins anew; the second consecutive low sample is the fall;
the recognised level is not recognised again. -/
theorem test_reset_sampled :
    let low := passTick (resetAt false onBus)
    let pulse := passTick (resetAt false (passTick (resetAt true low)))
    low.life.held = false ∧ (passTick low).life.held = true ∧ (passTick low).life.lastReset = .pin
      ∧ pulse.life.held = false ∧ (run .resetNFall pulse).life.state = .configured
      ∧ run .resetNFall (run .resetNFall onBus) = run .resetNFall onBus := by decide +kernel

/-- R186: a low RESET_N at power-on holds the station, with no pin reset, until its second high sample. -/
theorem test_power_on_held :
    let s := passTick (passTick (run (.powerOn true) onBus))
    s.life.held = true ∧ s.life.lastReset = .powerOn ∧ (passTick (resetAt true s)).life.held = true
      ∧ (passTick (passTick (resetAt true s))).life.held = false ∧ (run .resetNRise s).life.held = false := by decide +kernel

/-- R171, worked by hand: the status byte of a station ON-BUS, POWER-ON, is 0x03, the most significant bit first; the
bits 00000001 and three more make one byte. -/
theorem test_port_bits :
    (List.range 8).map (dataOut (run .frameStart onBus)) = [0, 0, 0, 0, 0, 0, 1, 1].map (fun n => some (n == 1))
      ∧ dataOut (run .frameStart onBus) (8 * 7) = some false ∧ dataOut onBus 0 = none
      ∧ wholeBytes [false, false, false, false, false, false, false, true, true, true, true] = [0x01] := by decide +kernel

/-- R140, R141: a frame cut short by the address of another one is INTERRUPTED; that of another station's is not seen. -/
theorem test_frame_discard :
    let cs := frameChars (fromTwelve .taken 200 [0])
    (run (.frameDiscard (cs.take 4 ++ [busChar true 3])) onBus).bus.counts.interrupted = 1
      ∧ (run (.frameDiscard (cs.take 7 ++ [busChar false 0x55])) onBus).bus.counts.crcErrors = 1
      ∧ run (.frameDiscard ((frameChars { fromTwelve .taken 200 [0] with dest := 3 }).take 4)) onBus = onBus := by
  decide +kernel

/-- 07, One Quiet Line: the break at a gap of 2 character times, and not before; its own cycle starts. -/
theorem test_break_start :
    let s := { onBus with bus := { onBus.bus with pendingMark := true } }
    run (.breakStart 21) s = s ∧ (run (.breakStart 22) s).bus.tx = .breaking
      ∧ (run (.breakStart 22) s).air.counts.marksSent = 1 ∧ (run (.breakStart 22) s).air.cycle.isSome = true := by
  decide +kernel

/-- 09, Responses One Frame Behind: JOIN in ON-BUS gives REFUSED-STATE and changes nothing else. -/
theorem test_join_refused :
    run (.join []) onBus = answered (.code 0x05) .refusedState [] onBus := by decide +kernel

/-- R176: the status word after power-on: UNCONFIGURED, POWER-ON, nothing queued, DONE, NONE. -/
theorem test_status_word : statusWord State.reset = [0x00, 0x00, 0x00, 0xFF] := by decide +kernel

/-- R112: the plan loaded with every field zero is the power-on plan of R8; K = 0 and H = 0 clear L. -/
theorem test_load_plan : readPlan (List.replicate 27 0) = Plan.powerOn
    ∧ (readPlan (List.replicate 27 0xFF)).maxAttempts = 7 := ⟨rfl, rfl⟩

/-! ## Witnesses: for each statement with hypotheses, clause by clause, a state and operands that meet them -/

/-- The station held in reset. -/
def heldStation : State :=
  { onBus with life := { onBus.life with held := true, sample := some false, recognised := some false } }

/-- StepRunsFrontCommand: a command waiting and none; a shift stage empty, at 300 bit/s and at 2,400 bit/s, on the tick
before it empties and at it; RESET_N steady, its second low and second high sample, the second low one at power-on, and none
sampled yet. -/
theorem test_witness_step : ({ onBus with pending := [.drain] } : State).pending = .drain :: [] ∧ onBus.pending = []
    ∧ (lineAt onBus 4).txShift = none
    ∧ (lineAt (shifting .r300) 4).txShift = some { bits := 0x282, rate := some .r300, since := 0 }
    ∧ (¬ 4 ≤ ((2 : Tick) + 1 - 0).toNat ∧ 4 ≤ ((3 : Tick) + 1 - 0).toNat)
    ∧ (lineAt (shifting .r2400) 4).txShift = some { bits := 0x282, rate := some .r2400, since := 0 }
    ∧ (¬ 1 ≤ ((0 : Tick) + 1 - 1).toNat ∧ 1 ≤ ((0 : Tick) + 1 - 0).toNat)
    ∧ (onBus.pins.resetN = true ∧ onBus.life.sample = some true ∧ onBus.life.recognised = some true)
    ∧ (let s := passTick (resetAt false onBus)
      s.pending = [] ∧ s.pins.resetN = false ∧ s.life.sample = some false ∧ s.life.recognised = some true)
    ∧ (let s := passTick (resetAt true heldStation)
      s.pending = [] ∧ s.pins.resetN = true ∧ s.life.sample = some true ∧ s.life.recognised = some false)
    ∧ (let s := passTick (run (.powerOn true) onBus)
      s.pending = [] ∧ s.pins.resetN = false ∧ s.life.sample = some false ∧ s.life.recognised = none)
    ∧ (State.reset.pending = [] ∧ State.reset.life.sample = none) := by decide +kernel

/-- PowerOnAndEndOfHold: a frame closed, in progress and ignored, in the hold and past its end. -/
theorem test_witness_hold : heldStation.life.held = true ∧ heldStation.port.frame = .closed
    ∧ heldStation.port.frame ≠ .ignored ∧ hostCommand (.poll []) = some (0x00, 0, [])
    ∧ (run .frameStart heldStation).port.frame = .ignored
    ∧ (let s := run .resetNRise (run .frameStart heldStation)
      s.life.held = false ∧ s.port.frame = .ignored) ∧ (List.replicate 31 false).length < 32
    ∧ heldStation.life.recognised ≠ some true ∧ State.reset.life.recognised ≠ some true
    ∧ onBus.life.recognised = some true ∧ heldStation.life.recognised = some false := by decide +kernel

/-- WarmResetsKeepAndClear: with no frame on the port and with one in progress. -/
theorem test_witness_resets : portActs onBus ∧ onBus.life.state ≠ .unconfigured
    ∧ onBus.port.frame = .closed ∧ (run .frameStart onBus).port.frame ≠ .closed ∧ onBus.life.recognised = some true
    ∧ State.reset.life.recognised = none := by decide +kernel

/-- PortFramesAreAnswered: the response of a POLL, its last byte and the byte past it; a LENGTH fault by 3 bytes, by a
length of 33 and by a byte short, with 7 bits of a further byte; a CRC fault of length 0 and of length 32; a whole frame with
fill. -/
theorem test_witness_port_frames : portActs onBus ∧ onBus.port.frame = .closed
    ∧ ((run .frameStart onBus).port.frame = .shifting (responseBytes onBus)
      ∧ (responseBytes onBus).length = 7 ∧ (responseBytes onBus)[6]?.isSome = true ∧ 7 ≤ 7)
    ∧ (List.replicate 7 true).length < 8
    ∧ (let bytes : List Byte := withCrc [0, 0] ++ [0xFF]
      4 + (byteAt bytes 1).toNat ≤ bytes.length
        ∧ (bytes.drop (2 + 0)).take 2 = be2 (crc (bytes.take (2 + 0))).toNat)
    ∧ ([0, 0, 0] : List Byte).length < 4 ∧ 32 < (byteAt (0 :: 33 :: List.replicate 35 0) 1).toNat
    ∧ ([0, 1, 0, 0] : List Byte).length < 4 + (byteAt [0, 1, 0, 0] 1).toNat
    ∧ ((byteAt [0, 0, 0, 0] 1).toNat = 0 ∧ ([0, 0] : List Byte) ≠ be2 (crc [0, 0]).toNat)
    ∧ ((byteAt (0 :: 32 :: List.replicate 34 0) 1).toNat = 32
      ∧ ([0, 0] : List Byte) ≠ be2 (crc (0 :: 32 :: List.replicate 32 0)).toNat) := by decide +kernel

/-- RefusedCommandChangesNothing: JOIN in ON-BUS, POLL with a parameter, command byte 0x0E. -/
theorem test_witness_refused : portActs onBus
    ∧ (hostCommand (.join []) = some (0x05, 0, []) ∧ acceptedIn 0x05 onBus.life.state = false)
    ∧ (hostCommand (.poll [0]) = some (0x00, 0, [0]) ∧ acceptedIn 0x00 onBus.life.state = true ∧ [(0 : Byte)].length ≠ 0)
    ∧ 0x0E ≤ (0x0E : Byte).toNat := by decide

/-- Parameters of a LOAD-CONFIG. -/
def configBytes (station mode slotTime rate line : Byte) : List Byte :=
  [station, 1, mode, 0, 0x0F, slotTime, rate, 10, 50, 5] ++ List.replicate 8 line ++ [6]

/-- What LoadConfigHoldsRecord asks of the bytes of an accepted record. -/
abbrev GoodConfig (p : List Byte) : Prop :=
  p.length = 19 ∧ 1 ≤ (byteAt p 0).toNat ∧ (byteAt p 0).toNat ≤ 24 ∧ (byteAt p 2).toNat ≤ 1 ∧ 1 ≤ (byteAt p 5).toNat
    ∧ (byteAt p 6).toNat ≤ 3 ∧ ∀ k : Fin 8, (byteAt p (10 + k.val)).toNat / 4 % 32 = 0

/-- LoadConfigHoldsRecord: the ends of each field's values, and a value past each of them. -/
theorem test_witness_load_config : portActs State.reset ∧ acceptedIn 0x01 State.reset.life.state = true
    ∧ GoodConfig (configBytes 1 0 1 0 0) ∧ GoodConfig (configBytes 24 1 255 3 0x83)
    ∧ (byteAt (configBytes 0 0 1 0 0) 0).toNat = 0 ∧ 24 < (byteAt (configBytes 25 0 1 0 0) 0).toNat
    ∧ 1 < (byteAt (configBytes 1 2 1 0 0) 2).toNat ∧ (byteAt (configBytes 1 0 0 0 0) 5).toNat = 0
    ∧ 3 < (byteAt (configBytes 1 0 1 4 0) 6).toNat ∧ (byteAt (configBytes 1 0 1 0 4) (10 + 7)).toNat / 4 % 32 ≠ 0 := by
  decide

/-- LoadPlanReplacesPlan: plans 15 and 16. -/
theorem test_witness_load_plan : portActs State.reset ∧ acceptedIn 0x02 State.reset.life.state = true
    ∧ ((15 : Byte) :: List.replicate 26 0xFF).length = 27 ∧ (byteAt ((15 : Byte) :: List.replicate 26 0xFF) 0).toNat < 16
    ∧ 16 ≤ (byteAt ((16 : Byte) :: List.replicate 26 0) 0).toNat := by decide

/-- A CONFIGURED station 7 with its map and its one subscriber. -/
def configured : State := stationIn .configured

/-- LoadRangeInsertsOrChanges: the last range of all is inserted; the own range is moved with a record in it, which is
refused; the other range is removed. The bounds in the wrong order, bounds of 10,000,000, station 25, station 0 of no held
range, a number shared with a held range, and a map of 16 ranges. -/
theorem test_witness_load_range : portActs configured ∧ acceptedIn 0x03 configured.life.state = true
    ∧ MapSound configured.ranges ∧ configured.ranges.length < 16
    ∧ (let r : Range :=
        { first := field [0x98, 0x96, 0x7F, 0, 0, 0, 0] 0 3, last := 9999999, station := 24 }
      r.first = 9999999 ∧ ∀ x ∈ ({ configured with ranges := [] } : State).ranges, r.last < x.first ∨ x.last < r.first)
    ∧ (let after := configured.ranges.map fun y => if y.first = 7000000 then { y with station := 24 } else y
      ∃ r ∈ configured.directory, inOwnRange configured r.number = true
        ∧ inOwnRange { configured with ranges := after } r.number = false)
    ∧ (let after := configured.ranges.filter fun y => y.first != 9000000
      ∀ r ∈ configured.directory, inOwnRange configured r.number = true →
        inOwnRange { configured with ranges := after } r.number = true)
    ∧ (field [0, 0, 2, 0, 0, 1, 1] 3 3 < field [0, 0, 2, 0, 0, 1, 1] 0 3
      ∧ 9999999 < field [0x98, 0x96, 0x80, 0x98, 0x96, 0x80, 1] 0 3 ∧ 9999999 < field [0, 0, 0, 0x98, 0x96, 0x80, 1] 3 3
      ∧ 24 < (byteAt [0, 0, 0, 0, 0, 0, 25] 6).toNat
      ∧ (∀ x ∈ configured.ranges, ¬ (x.first = 0 ∧ x.last = 0)) ∧ (byteAt [0, 0, 0, 0, 0, 0, 0] 6).toNat = 0
      ∧ (let p : List Byte := [0, 0, 0, 0x6A, 0xCF, 0xC0, 1]
        (field p 0 3 = 0 ∧ field p 3 3 = 7000000) ∧ (∀ x ∈ configured.ranges, ¬ (x.first = 0 ∧ x.last = 7000000))
          ∧ ∃ x ∈ configured.ranges, 0 ≤ x.last ∧ x.first ≤ 7000000)
      ∧ (let full := (List.range 16).map fun i => ({ first := 7000000 + i, last := 7000000 + i, station := 7 } : Range)
        16 ≤ full.length ∧ ∀ x ∈ full, ¬ (x.first = 0 ∧ x.last = 0))) := by decide +kernel

/-- The parameters of a LOAD-SUBSCRIBER: number, air address 2,097,151, plan 15, state, zones. -/
def subscriberBytes (a b c st : Byte) : List Byte := [a, b, c, 0x1F, 0xFF, 0xFF, 15, st, 0, 0, 1, 0xFF, 0xFF, 0xFF]

/-- LoadSubscriberReplacesOrInserts: 7,104,006 has a record, 7,999,999 has none and lies in the own range. The first value
out of range of each field; 0, in no own range; a directory of 1,024 records. -/
theorem test_witness_load_subscriber : portActs configured ∧ acceptedIn 0x04 configured.life.state = true
    ∧ DirectorySound configured.directory
    ∧ ((subscriberBytes 0x6C 0x66 0x06 1).length = 14 ∧ field (subscriberBytes 0x6C 0x66 0x06 1) 0 3 = 7104006
      ∧ field (subscriberBytes 0x6C 0x66 0x06 1) 3 3 ≤ 2097151 ∧ (byteAt (subscriberBytes 0x6C 0x66 0x06 1) 6).toNat < 16
      ∧ field (subscriberBytes 0x6C 0x66 0x06 1) 8 3 ≠ 0 ∧ ∃ r ∈ configured.directory, r.number = 7104006)
    ∧ (field (subscriberBytes 0x7A 0x11 0xFF 0) 0 3 = 7999999 ∧ (∀ r ∈ configured.directory, r.number ≠ 7999999)
      ∧ inOwnRange configured 7999999 = true ∧ configured.directory.length < 1024 ∧ configured.billing.walk = none)
    ∧ ({ configured with billing := { configured.billing with walk := some 0 } } : State).billing.walk ≠ none
    ∧ (9999999 < field (subscriberBytes 0x98 0x96 0x80 0) 0 3
      ∧ 2097151 < field [0, 0, 0, 0x20, 0, 0, 0, 0, 0, 0, 1, 0, 0, 0] 3 3
      ∧ 16 ≤ (byteAt [0, 0, 0, 0, 0, 0, 16, 0, 0, 0, 1, 0, 0, 0] 6).toNat
      ∧ 2 ≤ (byteAt (subscriberBytes 0 0 0 2) 7).toNat ∧ field (List.replicate 14 0) 8 3 = 0
      ∧ (field (subscriberBytes 0 0 0 0) 0 3 = 0 ∧ (∀ r ∈ configured.directory, r.number ≠ 0)
        ∧ inOwnRange configured 0 = false)
      ∧ (let full := (List.range 1024).map fun i => { demoSubscriber with number := 7000000 + i }
        1024 ≤ full.length ∧ full.all (fun r => r.number != 7999999) = true)) := by decide +kernel

/-- SetStateAndReadSubscriber. -/
theorem test_witness_subscriber : portActs onBus ∧ DirectorySound onBus.directory
    ∧ field [0x6C, 0x66, 0x06, 1] 0 3 = 7104006 ∧ onBus.directory[0]? = some demoSubscriber
    ∧ demoSubscriber.number = 7104006 ∧ (∀ r ∈ onBus.directory, r.number ≠ field [0, 0, 0] 0 3) := by decide

/-- TakeRecordsRemovesOldest: counts 0, 1, 4 and 5. -/
theorem test_witness_take_records : portActs onBus ∧ (0 : Byte).toNat = 0 ∧ 1 ≤ (1 : Byte).toNat
    ∧ (4 : Byte).toNat ≤ 4 ∧ 4 < (5 : Byte).toNat := by decide

/-- A billing record. -/
def demoRecord : BillingRecord := recordFor .attempt demoSubscriber

/-- The station with records queued and a walk at index 0. -/
def walking (queued : Nat) : State :=
  { onBus with billing := { queue := List.replicate queued demoRecord, seq := 0xFFFF, lost := 0, walk := some 0 } }

/-- PeriodIsClosed: at 111 and at 112 records queued. -/
theorem test_witness_period : onBus.billing.walk = none ∧ (walking 111).billing.walk = some 0
    ∧ portActs (walking 111) ∧ (walking 111).life.state ≠ .unconfigured
    ∧ (walking 111).directory[0]? = some demoSubscriber ∧ (walking 111).billing.queue.length < 112
    ∧ 112 ≤ (walking 112).billing.queue.length := by decide +kernel

/-- ReadCountsChangesNothing: groups 0 to 6, a character on the line and a run of 12 bit times, with a walk and without. -/
theorem test_witness_read_counts : portActs (walking 0) ∧ (walking 0).billing.walk = some 0 ∧ onBus.billing.walk = none
    ∧ (atReading { heard := [busChar true 7], run := 12 } onBus).bus.rx = some [7]
    ∧ (atReading { heard := [busChar true 7], run := 12 } onBus).bus.run = 12
    ∧ [138, 51, 37, 8, 33, 198][(0 : Byte).toNat]? = some 138 ∧ [138, 51, 37, 8, 33, 198][(5 : Byte).toNat]? = some 198
    ∧ 5 < (6 : Byte).toNat := by decide +kernel

/-- ClearFaultsClearsSelected: 3 and 4. -/
theorem test_witness_clear_faults : portActs onBus ∧ (3 : Byte).toNat < 4 ∧ 4 ≤ (4 : Byte).toNat := by decide

/-- SeizeAndReleaseAreRecognised: 0, 3 and 4 disagreements; a release in LOOKUP with its FORWARD held. -/
theorem test_witness_seize : running onBus = true ∧ running (lineOn Line.fresh) = true
    ∧ (Line.fresh.seized = (false == (cfg onBus).lines[4].activeHigh))
    ∧ (Line.fresh.seized ≠ (true == (cfg onBus).lines[4].activeHigh))
    ∧ ({ Line.fresh with disagree := 3 } : Line).disagree < 4 ∧ 4 ≤ ({ Line.fresh with disagree := 4 } : Line).disagree
    ∧ (let s := setLine 4 { lineAt (waitingLine []) 4 with disagree := 4 } (waitingLine [])
      (lineAt s 4).seized = true ∧ 4 ≤ (lineAt s 4).disagree ∧ (lineAt s 4).state = .lookup
        ∧ (lineAt s 4).lookup = some (forwardEntry (some 10)).key
        ∧ findEntry s (forwardEntry (some 10)).key = some (forwardEntry (some 10)) ∧ TableSound s.exchange.table)
    ∧ (lineIn .collect).state ≠ .lookup := by decide

/-- CalibrationChoosesRate: before and after the first edge; the measurement's ends and thresholds. -/
theorem test_witness_calibration : running (lineOn (lineIn .rate)) = true ∧ (lineIn .rate).state = .rate
    ∧ (lineIn .rate).measuring = none ∧ ({ lineIn .rate with measuring := some 0 } : Line).measuring ≠ none
    ∧ 65534 ≤ 65534 ∧ 16667 ≤ 16667 ∧ (5000 ≤ 16666 ∧ 16666 < 16667) ∧ (2083 ≤ 4999 ∧ 4999 < 5000) ∧ 2082 < 2083
    ∧ 0 ≤ (onBus.tick - (0 : Tick)).toInt := by decide

/-- CharactersAreAssembled: the line states; the 88th and the 89th character; the third waiting character. -/
theorem test_witness_characters : running (lineOn (lineIn .collect)) = true ∧ (0x01 : Byte) ≠ 0x02
    ∧ LineFits (lineIn .awaitOpen) ∧ (lineIn .awaitOpen).overrun = false
    ∧ (∀ n ≤ 88, LineFits { lineIn .collect with entry := some (openEntry n) })
    ∧ (openEntry 87).chars.length < 88 ∧ 88 ≤ (openEntry 88).chars.length
    ∧ LineFits (lineAt (waitingLine [{ byte := 0, framing := false }]) 4)
    ∧ (lineAt (waitingLine [{ byte := 0, framing := false }]) 4).fifo.length < 2
    ∧ LineFits (lineAt (waitingLine (List.replicate 2 { byte := 0, framing := false })) 4)
    ∧ 2 ≤ (lineAt (waitingLine (List.replicate 2 { byte := 0, framing := false })) 4).fifo.length
    ∧ (lineAt (waitingLine []) 4).overrun = false ∧ (lineAt (waitingLine []) 4).state = .lookup
    ∧ LineFits { lineIn .awaitOpen with overrun := true } ∧ LineFits (lineIn .halted) := by decide +kernel

/-- A tone entry for a number, before its CHECK. -/
def toneEntry (digits : List Byte) (sum : Byte) : EntryAssembly :=
  { chars := digits ++ [0x54], sum := sum, framing := false, tooLong := false, awaitingCheck := true }

/-- A complete entry of characters. -/
def entryOf (chars : List Byte) : EntryAssembly :=
  { chars := chars, sum := 1, framing := false, tooLong := false, awaitingCheck := true }

/-- The digits of 9350000 and of 5000000. -/
def peerDigits : List Byte := [0x39, 0x33, 0x35, 0x30, 0x30, 0x30, 0x30]

/-- The digits of a number that no range holds. -/
def noDigits : List Byte := [0x35, 0x30, 0x30, 0x30, 0x30, 0x30, 0x30]

/-- The digits of the subscriber's number. -/
def ownDigits : List Byte := [0x37, 0x31, 0x30, 0x34, 0x30, 0x30, 0x36]

/-- The digits of 7000001, which lies in the own range and has no record. -/
def emptyDigits : List Byte := [0x37, 0x30, 0x30, 0x30, 0x30, 0x30, 0x31]

/-- LineGivesVerdicts and EntryIsForwarded: sum 1 and CHECK 0xFF agree, CHECK 0 does not; each other failure of R30; the
number's home is a peer, present or absent, none, or this station, with a record that takes it and one that does not. -/
theorem test_witness_check : running (lineOn { lineIn .collect with entry := some (toneEntry peerDigits 1) }) = true
    ∧ LineFits { lineIn .collect with entry := some (toneEntry peerDigits 1) }
    ∧ (toneEntry peerDigits 1).sum + 0x00 ≠ 0
    ∧ ((toneEntry (peerDigits.take 6) 1).chars.takeWhile isDigit).length ≠ 7
    ∧ (((entryOf peerDigits).chars[7]?).bind classOf = none ∧ ((entryOf (peerDigits ++ [0x51])).chars[7]?).bind classOf = none)
    ∧ (∃ c, ((entryOf (peerDigits ++ [0x54, 0x30])).chars[7]?).bind classOf = some c
      ∧ maxBody c.medium < (entryOf (peerDigits ++ [0x54, 0x30])).chars.length - 8)
    ∧ (∃ c, ((entryOf (peerDigits ++ [0x41, 0x7F])).chars[7]?).bind classOf = some c
      ∧ ∃ b ∈ (entryOf (peerDigits ++ [0x41, 0x7F])).chars.drop 8, inBodySet c.medium b = false)
    ∧ (let body : List Byte := List.replicate 32 0x30
      classOf 0x4E = some { medium := .numeric, priority := false } ∧ body.length ≤ maxBody .numeric
        ∧ body.all (inBodySet .numeric) = true ∧ peerDigits.length = 7 ∧ peerDigits.all isDigit = true)
    ∧ (∀ x ∈ [(peerDigits, 9350000), (noDigits, 5000000), (ownDigits, 7104006), (emptyDigits, 7000001)],
      validate { toneEntry x.1 1 with sum := 1 + 0xFF } =
        some { number := x.2, cls := { medium := .tone, priority := false }, body := [] })
    ∧ homeLookup onBus 9350000 = .peer 12 ∧ homeLookup onBus 5000000 = .none ∧ (presenceAt onBus 12).present = true
    ∧ homeLookup onBus 7104006 = .own ∧ homeLookup onBus 7000001 = .own
    ∧ (decision 7104006 { medium := .tone, priority := false } none onBus = .accept
      ∧ decision 7000001 { medium := .tone, priority := false } none onBus = .unknown
      ∧ onBus.directory[0]? = some demoSubscriber ∧ DirectorySound onBus.directory
      ∧ (onBus.store.slots[0]).held = none ∧ ∀ m : Fin 256, ¬ m < 0) := by
  refine ⟨by decide, by decide +kernel, by decide, by decide, by decide, ⟨_, rfl, by decide⟩, ⟨_, rfl, by decide⟩,
    by decide, by decide, by decide, by decide, by decide, by decide, by decide, by decide +kernel, by decide +kernel,
    by decide, by decide, by decide, fun m => by omega⟩

/-- LineGivesVerdicts and EntryIsForwarded: the states that give BUSY; a peer in LEAVING, absent, and present with 95 and
96 entries held and 31 and 32 frames queued or waiting; the entry timer; the shift stage empty and in use. -/
theorem test_witness_routing : configured.life.state = .configured ∧ (stationIn .joining).life.state = .joining
    ∧ (stationIn .leaving).life.state = .leaving ∧ onBus.life.state = .onBus
    ∧ homeLookup (stationIn .leaving) 9350000 = .peer 12
    ∧ (let s := { onBus with exchange := { onBus.exchange with presence := Vector.replicate 24 Presence.fresh } }
      homeLookup s 9350000 = .peer 12 ∧ (presenceAt s 12).present = false)
    ∧ (withTable (List.replicate 95 (forwardEntry none)) onBus).exchange.table.length < 96
    ∧ 96 ≤ (withTable (List.replicate 96 (forwardEntry none)) onBus).exchange.table.length
    ∧ (let s := withRequests 16 .idle
      32 ≤ s.bus.requests.length + s.bus.waiting.length)
    ∧ onBus.bus.requests.length + onBus.bus.waiting.length < 32
    ∧ 0 ≤ (onBus.tick - (0 : Tick)).toInt
    ∧ ({ lineIn .collect with timer := some 0 } : Line).timer = some 0
    ∧ ({ lineIn .idle with txBuffer := some { byte := 0x41, rate := some .r2400 } } : Line).txShift = none
    ∧ (lineAt (shifting .r300) 4).txBuffer ≠ none ∧ (lineAt (shifting .r2400) 4).txShift ≠ none := by decide +kernel

/-! ### Frames -/

/-- Characters that complete a frame are heard. -/
theorem hears_of {heard : List BusChar} {f : Received} {s : State} (h : completes heard f s = true) : hears heard f s := by
  unfold completes at h
  split at h
  · rename_i t bytes eq
    simp only [Bool.and_eq_true, decide_eq_true_eq, Bool.not_eq_true'] at h
    exact ⟨⟨t, bytes, eq, h.1.1.1.symm⟩, h.1.1.2, h.1.2, h.2⟩
  · simp at h

/-- A frame from station 12 to this one is heard. -/
theorem hears_fromTwelve {k : FrameKind} {q : Byte} {p : List Byte} {s : State}
    (h : completes (frameChars (fromTwelve k q p)) (partsOf (fromTwelve k q p)) s = true) :
    hearsOwn k (frameChars (fromTwelve k q p)) (partsOf (fromTwelve k q p)) s :=
  ⟨hears_of h, rfl, by simp [partsOf, fromTwelve, sentBy]⟩

/-- A frame of a kind to every station. -/
def broadcast (kind : FrameKind) (payload : List Byte) : Frame :=
  { kind := kind, dest := 0, src := 12, seq := 0, payload := payload }

/-- DiscardedFramesAreCounted: a broadcast TAKEN, an AIR-ANSWER of code 4, a HEARD in CONFIGURED, a TAKEN that answers
nothing. -/
theorem test_witness_discarded :
    (busFrame (.taken (frameChars (broadcast .taken [0]))) = some (.taken, frameChars (broadcast .taken [0]))
      ∧ hears (frameChars (broadcast .taken [0])) (partsOf (broadcast .taken [0])) onBus
      ∧ (partsOf (broadcast .taken [0])).dest = 0)
    ∧ (hearsOwn .airAnswer (frameChars (fromTwelve .airAnswer 0 [4])) (partsOf (fromTwelve .airAnswer 0 [4])) onBus
      ∧ payloadAgrees .airAnswer [4] = false)
    ∧ (hearsOwn .heard (frameChars (fromTwelve .heard 0 [7, 0, 0, 1, 15])) (partsOf (fromTwelve .heard 0 [7, 0, 0, 1, 15]))
        configured
      ∧ payloadAgrees .heard [7, 0, 0, 1, 15] = true ∧ membersKind .heard = true ∧ configured.life.state = .configured)
    ∧ (payloadAgrees .taken [0] = true ∧ answersKind .taken = some .forward ∧ onBus.exchange.table = []) :=
  ⟨⟨rfl, hears_of (by decide +kernel), rfl⟩, ⟨hears_fromTwelve (by decide +kernel), by decide⟩,
    ⟨hears_fromTwelve (by decide +kernel), by decide, by decide, rfl⟩, by decide⟩

/-- The characters of a frame to this station of a kind code from a source, with no payload. -/
def bareFrame (src kind : Byte) : List BusChar := lineChars (withCrc [7, src, kind, 0, 0])

/-- A frame of the characters completes at this station. -/
theorem completes_of {heard : List BusChar} {bytes : List Byte} {s : State}
    (h : (listen heard s).map (·.2) = some (.complete bytes)) : ∃ t, listen heard s = some (t, .complete bytes) := by
  cases h' : listen heard s with
  | none => simp [h'] at h
  | some x => exact ⟨x.1, by simp [h'] at h; rw [← h]⟩

/-- The station with a frame under reception. -/
def receiving (bytes : List Byte) : State := onBus.mapBus fun b => { b with rx := some bytes }

/-- UntakenFramesAreCounted: kinds 0x00, 0x06, 0x10 and 0x17; sources 0, 25 and 7, this station idle and sending that
frame; with no frame under reception and with one, its fifth and its last character to come. -/
theorem test_witness_untaken : (namesFrameKind 0x00 = false ∧ namesFrameKind 0x06 = false ∧ namesFrameKind 0x10 = false
      ∧ namesFrameKind 0x17 = false)
    ∧ hears (bareFrame 12 0x06) { dest := 7, src := 12, kind := 0x06, seq := 0, payload := [] } onBus
    ∧ (∀ src ∈ [(0 : Byte), 25, 7], ∃ t, listen (bareFrame src 1) onBus = some (t, .complete (withCrc [7, src, 1, 0, 0])))
    ∧ (∃ t, listen (bareFrame 7 1) (sending (.request (bareFrame 7 1) false) false) =
      some (t, .complete ((bareFrame 7 1).map dataOf)))
    ∧ (onBus.bus.tx = .idle ∧ isOwn onBus 7 = true ∧ 24 < (25 : Byte).toNat)
    ∧ (running onBus = true ∧ onBus.bus.stopped = false ∧ onBus.bus.rx = none)
    ∧ (running (receiving [7]) = true ∧ (receiving [7]).bus.stopped = false ∧ (receiving [7]).bus.rx ≠ none)
    ∧ ((busChar true 7).getLsbD 0 = false ∧ (busChar true 7).getLsbD 9 = true ∧ (busChar true 7).getLsbD 10 = true
      ∧ (busChar true 7).extractLsb' 1 8 = 7 ∧ isOwn onBus 8 = false ∧ (0x200#11).getLsbD 10 = false)
    ∧ (([7, 12, 1, 0] : List Byte).length = 4 ∧ 96 < (97 : Byte).toNat)
    ∧ ([7, 12, 1, 0, 0, 0] : List Byte).length + 1 = 7 + (byteAt [7, 12, 1, 0, 0, 0] 4).toNat
    ∧ ([7, 12, 1, 0, 0, 0] ++ [0] : List Byte).drop 5 ≠ be2 (crc [7, 12, 1, 0, 0]).toNat :=
  ⟨by decide, hears_of (by decide +kernel), by
    intro src h
    simp only [List.mem_cons, List.not_mem_nil, or_false] at h
    rcases h with rfl | rfl | rfl <;> exact completes_of (by decide +kernel),
    completes_of (by decide +kernel), by decide, by decide, by decide, by decide, by decide, by decide, by decide +kernel⟩

/-- DecisionTakesFirstStep: a record in an own range, and two numbers with none, one of them at a peer. -/
theorem test_witness_decision : DirectorySound onBus.directory
    ∧ (demoSubscriber ∈ onBus.directory ∧ inOwnRange onBus demoSubscriber.number = true)
    ∧ ((∀ r ∈ onBus.directory, r.number = 9350000 → inOwnRange onBus 9350000 = false)
      ∧ homeLookup onBus 9350000 = .peer 12)
    ∧ (∀ r ∈ onBus.directory, r.number = 5000000 → inOwnRange onBus 5000000 = false)
    ∧ homeLookup onBus 5000000 = .none := by decide

/-- The FORWARD of Sequence 1, from station 12. -/
def demoForward : Frame := fromTwelve .forward 118 ([0x6C, 0x66, 0x06, 0x41] ++ List.replicate 40 0x61)

/-- The station with answers queued. -/
def withAnswers (n : Nat) (s : State) : State :=
  s.mapBus fun b =>
    { b with answers := List.replicate n { kind := .taken, dest := 3, src := 7, seq := 0, payload := [0] } }

/-- ForwardIsDecidedAndAnswered and AcceptanceIsOneEvent: a body of 40, an empty and a full answer queue, slot 0 free. -/
theorem test_witness_forward : hearsOwn .forward (frameChars demoForward) (partsOf demoForward) onBus ∧ member onBus = true
    ∧ payloadAgrees .forward demoForward.payload = true ∧ (withAnswers 23 onBus).bus.answers.length < 24
    ∧ hearsOwn .forward (frameChars demoForward) (partsOf demoForward) (withAnswers 24 onBus)
    ∧ 24 ≤ (withAnswers 24 onBus).bus.answers.length
    ∧ classOf (byteAt demoForward.payload 3) = some { medium := .text, priority := false }
    ∧ DirectorySound onBus.directory ∧ onBus.directory[0]? = some demoSubscriber
    ∧ demoSubscriber.number = field demoForward.payload 0 3
    ∧ decision 7104006 { medium := .text, priority := false } (some { station := 12, seq := 118 }) onBus = .accept
    ∧ (onBus.store.slots[0]).held = none ∧ ∀ j : Fin 256, ¬ j < 0 :=
  ⟨hears_fromTwelve (by decide +kernel), by decide, by decide, by decide, hears_fromTwelve (by decide +kernel), by decide,
    by decide, by decide, by decide, by decide, by decide +kernel, by decide, fun j => by omega⟩

/-- CancelIsAnsweredByOrigin: no such origin; the delivery issued; the delivery in the issue queue. -/
theorem test_witness_cancel :
    hearsOwn .cancel (frameChars (fromTwelve .cancel 201 [118])) (partsOf (fromTwelve .cancel 201 [118])) onBus
    ∧ member onBus = true
    ∧ (∀ (k : Fin 256) (d : Delivery), (onBus.store.slots[k.val]).held = some d →
      d.origin ≠ some { station := 12, seq := 118 })
    ∧ (let s := holding (underWay .airPending (demoAttempt .sent .sent)) onBus
      (s.store.slots[19]).held = some (underWay .airPending (demoAttempt .sent .sent)) ∧ s.store.issue = [])
    ∧ (let s := (holding demoDelivery onBus).mapStore fun p => { p with issue := [19] }
      s.store.issue = [] ++ 19 :: [] ∧ (s.store.slots[19]).held = some demoDelivery ∧ demoDelivery.state = .issuing
        ∧ demoDelivery.issued = false ∧ s.directory[demoDelivery.subscriber]?.isSome = true
        ∧ s.billing.queue.length < 128) := by
  refine ⟨hears_fromTwelve (by decide +kernel), by decide, ?_, by decide, by decide⟩
  intro k d h
  simp [onBus, stationIn, State.reset] at h

/-- An AIR-REQUEST payload of a class and cell count, for the tag (3, 0, 0, 1). -/
def airPayload (cls cells : Byte) : List Byte := [3, 0, 0, 1, 0, 0, 1, cls, cells]

/-- AirRequestIsAdmittedOrRefused: cell counts 1, 2, 26 and 27; the tag held; the priority queue of 3 and of 4. -/
theorem test_witness_air_request :
    (let f := fromTwelve .airRequest 0 (airPayload 0x54 2);
      hearsOwn .airRequest (frameChars f) (partsOf f) onBus ∧ member onBus = true
        ∧ hearsOwn .airRequest (frameChars f) (partsOf f) (stationIn .leaving) ∧ member (stationIn .leaving) = true)
    ∧ (readAirRequest (airPayload 0x54 1)).map (·.cells) = some 1
    ∧ (readAirRequest (airPayload 0x5A 26)).map (fun a => (a.cells, a.cls.priority)) = some (26, true)
    ∧ (readAirRequest (airPayload 0x54 27)).map (fun a => (a.cells, a.tag)) = some (27, (airEntry 3 0 2 false).tag)
    ∧ (cfg onBus).airing = true ∧ 8 * ((List.range 16).filter fun i => (cfg onBus).slotMask.getLsbD i).length = 32
    ∧ (∃ e ∈ (withAir [airEntry 3 0 2 false] [] onBus).air.regular, e.tag = (airEntry 3 0 2 false).tag)
    ∧ ¬ 4 ≤ (withAir [] (List.replicate 3 (airEntry 4 0 2 true)) onBus).air.priority.length
    ∧ 4 ≤ (withAir [] (List.replicate 4 (airEntry 4 0 2 true)) onBus).air.priority.length :=
  ⟨⟨hears_fromTwelve (by decide +kernel), by decide, hears_fromTwelve (by decide +kernel), by decide⟩, by decide,
    by decide, by decide, by decide, by decide, by decide, by decide, by decide⟩

/-- WithdrawIsAnsweredOrOwed: no such tag; a QUEUED entry; a PACKED one. -/
theorem test_witness_withdraw :
    hearsOwn .withdraw (frameChars (fromTwelve .withdraw 0 [3, 0, 0, 1])) (partsOf (fromTwelve .withdraw 0 [3, 0, 0, 1])) onBus
    ∧ member onBus = true ∧ tagBytes (airEntry 3 0 2 false).tag = [3, 0, 0, 1]
    ∧ onBus.air.regular ++ onBus.air.priority = []
    ∧ (let s := withAir [airEntry 3 0 2 false] [] onBus
      findAir s (airEntry 3 0 2 false).tag = some (airEntry 3 0 2 false) ∧ (airEntry 3 0 2 false).state = .queued)
    ∧ (let e : AirEntry := { airEntry 3 0 2 false with state := .packed }
      findAir (withAir [] [e] onBus) e.tag = some e ∧ e.state ≠ .queued) :=
  ⟨hears_fromTwelve (by decide +kernel), by decide, by decide, by decide, by decide, by decide⟩

/-- AiredReportStartsAckWait and LastAiredTagSettlesAcked: no such delivery; AIR-PENDING; SETTLING after ACKED, with 128
records queued and with none, the usage crossing no level, the low one and both. -/
theorem test_witness_aired :
    hearsOwn .aired (frameChars (fromTwelve .aired 0 (tagBytes demoTag))) (partsOf (fromTwelve .aired 0 (tagBytes demoTag)))
      onBus
    ∧ isOwn onBus demoTag.home.toNat = true
    ∧ (onBus.store.slots[demoTag.slot.toNat]).held = none
    ∧ (let d := underWay .airPending (demoAttempt .accepted .accepted)
      (holding d onBus).store.slots[demoTag.slot.toNat] = { gen := demoTag.gen, held := some d })
    ∧ (demoAttempt .accepted .accepted).number = demoTag.attempt.toNat
    ∧ (demoAttempt .accepted .accepted).zones.find? (fun e => e.zone == 12) = some { zone := 12, state := .accepted }
    ∧ unresolved .accepted = true
    ∧ (let d := underWay .settling ackedAttempt
      (holding d onBus).store.slots[demoTag.slot.toNat] = { gen := demoTag.gen, held := some d }
        ∧ ackedAttempt.outcome = some .acked
        ∧ ackedAttempt.zones.find? (fun e => e.zone == 12) = some { zone := 12, state := .withdrawing }
        ∧ (∀ e ∈ ackedAttempt.zones, e.zone ≠ 12 → unresolved e.state = false)
        ∧ ((holding d onBus).directory[d.subscriber]?).isSome = true ∧ (holding d onBus).billing.queue.length = 0
        ∧ (walking 128).billing.queue.length = 128)
    ∧ (let crosses := fun (usage level : Nat) => decide (usage < level) && decide (level ≤ usage + 28)
      (crosses 972 1000 = true ∧ crosses 971 1000 = false ∧ crosses 1000 1000 = false)
        ∧ crosses 1472 1500 = true ∧ crosses 0 28 = true) :=
  ⟨hears_fromTwelve (by decide +kernel), by decide, by decide, by decide, by decide, by decide, by decide,
    by decide +kernel, by decide⟩

/-- A second delivery in AWAIT-ACK, in slot 20 of generation 0. -/
def holdingTwo : State :=
  (holding (underWay .airPending (demoAttempt .accepted .accepted)) onBus).mapStore fun p => { p with
    slots := p.slots.set 20 (Slot.mk 0 (some (underWay .awaitAck { demoAttempt .aired .sent with ackDue := some 7 }))) }

/-- AiredReportStartsAckWait: three tags, of an AIR-PENDING and an AWAIT-ACK delivery and of a free slot; 24 tags. -/
theorem test_witness_aired_tags :
    (let gs : List Tag := [demoTag, { home := 7, slot := 20, gen := 0, attempt := 1 }, { home := 7, slot := 0, gen := 0, attempt := 1 }]
      let f := fromTwelve .aired 0 (gs.flatMap fun g => [g.home, g.slot, g.gen, g.attempt])
      hearsOwn .aired (frameChars f) (partsOf f) holdingTwo ∧ member holdingTwo = true ∧ (gs.map (·.slot)).Nodup
        ∧ holdingTwo.store.slots[19] =
          { gen := 5, held := some (underWay .airPending (demoAttempt .accepted .accepted)) }
        ∧ holdingTwo.store.slots[20] =
          { gen := 0, held := some (underWay .awaitAck { demoAttempt .aired .sent with ackDue := some 7 }) }
        ∧ (demoAttempt .aired .sent).number = 1
        ∧ (demoAttempt .aired .sent).zones.find? (fun e => e.zone == 12) = some { zone := 12, state := .sent }
        ∧ (holdingTwo.store.slots[0]).held = none)
    ∧ (let gs : List Tag := (List.range 24).map fun i => { home := 8, slot := BitVec.ofNat 8 i, gen := 0, attempt := 1 }
      gs.length = 24 ∧ (gs.flatMap fun g => [g.home, g.slot, g.gen, g.attempt]).length = 96 ∧ (gs.map (·.slot)).Nodup
        ∧ ∀ g ∈ gs, isOwn onBus g.home.toNat = false) :=
  ⟨⟨hears_fromTwelve (by decide +kernel), by decide +kernel⟩, by decide +kernel⟩

/-- An attempt closed MISSED. -/
def missedAttempt : Attempt := { (demoAttempt .aired .withdrawing) with outcome := some .missed }

/-- A delivery waiting to retry. -/
def retryDelivery : Delivery := { demoDelivery with issued := true, counted := 1, due := some 0, state := .retryWait }

/-- The AIR-REQUEST to zone 12, accepted there. -/
def heldRequest : Outstanding :=
  { key := { peer := 12, seq := 64, kind := .airRequest }, owner := .zone 19 12, phase := .held, due := none }

/-- The delivery in AWAIT-ACK with zones 7 and 12 in ACCEPTED. -/
def acceptedBoth : State :=
  { holding (underWay .awaitAck (demoAttempt .accepted .accepted)) onBus with
    exchange := { onBus.exchange with table := [heldRequest] } }

/-- CloseWaits: zone 7 still ACCEPTED here, and zone 12 ACCEPTED there, its entry an AIR-REQUEST in HELD. -/
theorem closeWaits_demo : CloseWaits 19 (demoAttempt .accepted .accepted) acceptedBoth where
  keys := by decide +kernel
  zones := by decide
  held := by
    intro z hz _ hne
    simp only [demoAttempt, List.mem_cons, List.not_mem_nil, or_false] at hz
    rcases hz with rfl | rfl
    · exact absurd hne (by decide)
    · exact ⟨heldRequest, by decide +kernel, rfl⟩
  open_ := ⟨{ zone := 12, state := .accepted }, by decide, .inr (.inr ⟨rfl, by decide⟩)⟩

/-- The delivery in AWAIT-ACK with zone 7 in ACCEPTED, its request QUEUED here, and zone 12 AIRED. -/
def acceptedOwn : State :=
  withAir [{ airEntry 7 19 14 false with tag := demoTag }] [] (holding (underWay .awaitAck (demoAttempt .accepted .aired)) onBus)

/-- CloseSettles: every zone resolved, one AIRED and none; zone 7 alone in ACCEPTED, its request QUEUED. -/
theorem closeSettles_demo :
    (∀ own ∈ [ZoneState.aired, .refused], CloseSettles 19 (underWay .awaitAck (demoAttempt own .lost)) (demoAttempt own .lost)
      (holding (underWay .awaitAck (demoAttempt own .lost)) onBus))
    ∧ CloseSettles 19 (underWay .awaitAck (demoAttempt .accepted .aired)) (demoAttempt .accepted .aired) acceptedOwn := by
  refine ⟨?_, ⟨by decide +kernel, by decide, by decide +kernel⟩⟩
  intro own h
  simp only [List.mem_cons, List.not_mem_nil, or_false] at h
  rcases h with rfl | rfl <;> exact ⟨by decide +kernel, by decide, by decide +kernel⟩

/-- AttemptChargeStages: a cap not yet reached, and one reached. -/
theorem test_witness_charge : ({ demoPlan with messageCap := 500 } : Plan).messageCap ≠ 0 ∧ 499 ≤ 500 ∧ 500 ≤ 500
    ∧ demoPlan.messageCap = 0 := by decide

/-- HeardNoticeIsMatched: another home; quality 5 and 6; a free slot; a delivery never issued; attempt numbers c + 1 and
c + 2; RETRY-WAIT, ISSUING after an issue, MISSED, ACKED, AIR-PENDING with zone 12 in SENT, AWAIT-ACK with zones 7 and 12 to
withdraw, and with no zone left unresolved. -/
theorem test_witness_heard :
    (let f := fromTwelve .heard 0 (tagBytes demoTag ++ [6]);
      hearsOwn .heard (frameChars f) (partsOf f) onBus ∧ hearsOwn .heard (frameChars f) (partsOf f) acceptedBoth)
    ∧ member onBus = true ∧ isOwn onBus (8 : Byte).toNat = false ∧ isOwn onBus demoTag.home.toNat = true
    ∧ (5 : Byte).toNat < (cfg onBus).minQuality ∧ (cfg onBus).minQuality ≤ (6 : Byte).toNat
    ∧ ((onBus.store.slots[demoTag.slot.toNat]).held = none
      ∧ (holding demoDelivery onBus).store.slots[demoTag.slot.toNat] = { gen := demoTag.gen, held := some demoDelivery }
      ∧ demoDelivery.issued = false ∧ ¬ demoDelivery.counted + 1 < demoTag.attempt.toNat
      ∧ demoDelivery.counted + 1 < ({ demoTag with attempt := 2 } : Tag).attempt.toNat
      ∧ (let d := { demoDelivery with issued := true }
        d.state = .issuing ∧ (holding d onBus).store.slots[demoTag.slot.toNat] = { gen := demoTag.gen, held := some d }))
    ∧ ((holding retryDelivery onBus).store.slots[demoTag.slot.toNat] = { gen := demoTag.gen, held := some retryDelivery }
      ∧ demoTag.attempt.toNat ≤ retryDelivery.counted + 1
      ∧ ((holding retryDelivery onBus).directory[retryDelivery.subscriber]?).isSome = true)
    ∧ (missedAttempt.outcome = some .missed ∧ ackedAttempt.outcome = some .acked
      ∧ (underWay .settling missedAttempt).issued = true ∧ demoTag.attempt.toNat ≤ (underWay .settling missedAttempt).counted + 1)
    ∧ ((∃ z ∈ (demoAttempt .refused .sent).zones, z.state = .sent)
      ∧ ∀ z ∈ (demoAttempt .refused .sent).zones, z.state ≠ .accepted)
    ∧ (member acceptedBoth = true ∧ deliveryAt acceptedBoth 19 = some (underWay .awaitAck (demoAttempt .accepted .accepted))
      ∧ CloseWaits 19 (demoAttempt .accepted .accepted) acceptedBoth)
    ∧ (hearsOwn .heard (frameChars (fromTwelve .heard 0 (tagBytes demoTag ++ [6])))
        (partsOf (fromTwelve .heard 0 (tagBytes demoTag ++ [6]))) acceptedOwn
      ∧ deliveryAt acceptedOwn 19 = some (underWay .awaitAck (demoAttempt .accepted .aired))
      ∧ CloseSettles 19 (underWay .awaitAck (demoAttempt .accepted .aired)) (demoAttempt .accepted .aired) acceptedOwn) :=
  ⟨⟨hears_fromTwelve (by decide +kernel), hears_fromTwelve (by decide +kernel)⟩, by decide, by decide, by decide, by decide,
    by decide, by decide +kernel, by decide +kernel, by decide, by decide, ⟨by decide, by decide +kernel, closeWaits_demo⟩,
    ⟨hears_fromTwelve (by decide +kernel), by decide +kernel, closeSettles_demo.2⟩⟩

/-- The FORWARD entry of line 5 in SENT, and a CANCEL entry. -/
def sentForward : Outstanding := forwardEntry (some 10)

/-- A CANCEL of the line, sent. -/
def sentCancel : Outstanding :=
  { key := { peer := 12, seq := 201, kind := .cancel }, owner := .line 4, phase := .sent, due := some 10 }

/-- TakenAndCancelAnswerComplete: codes 0, 6 and 7; 0, 2 and 3. -/
theorem test_witness_replies :
    hearsOwn .taken (frameChars (fromTwelve .taken 200 [7])) (partsOf (fromTwelve .taken 200 [7])) (waitingLine [])
    ∧ hearsOwn .cancelAnswer (frameChars (fromTwelve .cancelAnswer 201 [3])) (partsOf (fromTwelve .cancelAnswer 201 [3]))
      (withTable [sentCancel] onBus)
    ∧ sentForward.phase = .sent ∧ sentForward.key.peer = (partsOf (fromTwelve .taken 200 [7])).src.toNat
    ∧ sentForward.key.seq = (partsOf (fromTwelve .taken 200 [7])).seq
    ∧ findEntry (waitingLine []) sentForward.key = some sentForward ∧ sentForward.owner = .line 4
    ∧ (lineAt (waitingLine []) 4).state = .lookup ∧ (lineAt (waitingLine []) 4).lookup = some sentForward.key
    ∧ (lineAt (waitingLine []) 4).fifo = [] ∧ sentCancel.key.kind = .cancel ∧ sentCancel.phase = .sent
    ∧ findEntry (withTable [sentCancel] onBus) sentCancel.key = some sentCancel
    ∧ sentCancel.key.peer = 12 ∧ sentCancel.key.seq = 201 :=
  ⟨hears_fromTwelve (by decide +kernel), hears_fromTwelve (by decide +kernel), by decide +kernel⟩

/-- An entry of a kind for zone 12 of the delivery in slot 19, in SENT. -/
def zoneRequest (kind : EntryKind) : Outstanding :=
  { key := { peer := 12, seq := 64, kind := kind }, owner := .zone 19 12, phase := .sent, due := some 0 }

/-- ZoneAnswersResolveEntries: ACCEPTED in an open attempt and in a closed one; codes 1 and 3 with zone 7 still to air, and
with none left in AIR-PENDING and in SETTLING; a WITHDRAWN of code 1 with zone 7 unresolved, and as the last one. -/
theorem test_witness_zone_answers :
    (let f := fromTwelve .airAnswer 64 [3];
      hearsOwn .airAnswer (frameChars f) (partsOf f) (withTable [zoneRequest .airRequest] onBus))
    ∧ (let f := fromTwelve .withdrawn 64 [1];
      hearsOwn .withdrawn (frameChars f) (partsOf f) (withTable [zoneRequest .withdraw] onBus))
    ∧ ((zoneRequest .airRequest).owner = .zone 19 12 ∧ (zoneRequest .airRequest).key.peer = 12
      ∧ (zoneRequest .airRequest).key.seq = 64 ∧ (zoneRequest .airRequest).phase = .sent
      ∧ TableSound (withTable [zoneRequest .airRequest] onBus).exchange.table
      ∧ findEntry (withTable [zoneRequest .airRequest] onBus) (zoneRequest .airRequest).key = some (zoneRequest .airRequest)
      ∧ findEntry (withTable [zoneRequest .withdraw] onBus) (zoneRequest .withdraw).key = some (zoneRequest .withdraw))
    ∧ (deliveryAt (holding (underWay .airPending (demoAttempt .accepted .sent)) onBus) 19).isSome = true
    ∧ (demoAttempt .accepted .sent).zones.find? (fun x => x.zone == 12) = some { zone := 12, state := .sent }
    ∧ (demoAttempt .accepted .sent).outcome = none
    ∧ ({ demoAttempt .aired .sent with outcome := some .acked } : Attempt).outcome ≠ none
    ∧ (∃ y ∈ (demoAttempt .accepted .sent).zones, y.zone ≠ 12 ∧ couldAir y.state = true)
    ∧ (demoAttempt .withdrawing .withdrawing).zones.find? (fun x => x.zone == 12) = some { zone := 12, state := .withdrawing }
    ∧ (∃ y ∈ (demoAttempt .withdrawing .withdrawing).zones, y.zone ≠ 12 ∧ unresolved y.state = true)
    ∧ (∀ y ∈ (demoAttempt .refused .sent).zones, y.zone ≠ 12 → unresolved y.state = false)
    ∧ (let d := underWay .airPending (demoAttempt .refused .sent)
      deliveryAt (holding d onBus) 19 = some d ∧ ((holding d onBus).directory[d.subscriber]?).isSome = true)
    ∧ ((∀ y ∈ (demoAttempt .aired .withdrawing).zones, y.zone ≠ 12 → unresolved y.state = false)
      ∧ (missedAttempt.outcome = some .missed ∧ ackedAttempt.outcome = some .acked)) :=
  ⟨hears_fromTwelve (by decide +kernel), hears_fromTwelve (by decide +kernel), by decide +kernel, by decide +kernel,
    by decide, by decide, by decide, by decide, by decide, by decide, by decide, by decide +kernel, by decide⟩

/-- The table full, station 12 to complete one CANCEL, and the delivery at the head of the issue queue. -/
def freshIssue (others : Nat) : State :=
  withTable (sentCancel :: (List.range others).map fun i =>
      { key := { peer := 5, seq := BitVec.ofNat 8 i, kind := .forward }, owner := .line 4, phase := .sent, due := none })
    ((holding demoDelivery onBus).mapStore fun p => { p with issue := [19] })

/-- PresenceIsTaken: states 1 and 2, flags 0 to 5; no entry towards station 12; one FORWARD, one CANCEL and one AIR-REQUEST
there, the other zone still to air, and resolved; no head of the issue queue, one that stays for want of a table entry, and
one that the CANCEL's entry lets go. -/
theorem test_witness_presence : hears (frameChars (presenceOf [1, 2])) (partsOf (presenceOf [1, 2])) onBus
    ∧ hears (frameChars (presenceOf [2, 5])) (partsOf (presenceOf [2, 5])) onBus ∧ (5 : Byte).toNat ≤ 5
    ∧ (0 : Byte).getLsbD 1 = false ∧ (2 : Byte).getLsbD 1 = true ∧ (4 : Byte).getLsbD 2 = true
    ∧ (∀ e ∈ onBus.exchange.table, e.key.peer ≠ 12) ∧ onBus.bus.tx = .idle ∧ member onBus = true
    ∧ (hears (frameChars (presenceOf [1, 2])) (partsOf (presenceOf [1, 2])) (waitingLine [])
      ∧ (∀ y ∈ (waitingLine []).exchange.table, y.key.peer = 12 → y = sentForward) ∧ sentForward.key.kind = .forward
      ∧ (lineAt (waitingLine []) 4).fifo = [] ∧ TableSound (waitingLine []).exchange.table)
    ∧ (sentCancel ∈ (withTable [sentCancel] onBus).exchange.table ∧ TableSound (withTable [sentCancel] onBus).exchange.table)
    ∧ (let s := holding (underWay .airPending (demoAttempt .accepted .sent)) (withTable [zoneRequest .airRequest] onBus)
      zoneRequest .airRequest ∈ s.exchange.table ∧ (zoneRequest .airRequest).owner = .zone 19 12
        ∧ deliveryAt s 19 = some (underWay .airPending (demoAttempt .accepted .sent))
        ∧ unresolved .sent = true ∧ (∃ y ∈ (demoAttempt .accepted .sent).zones, y.zone ≠ 12 ∧ couldAir y.state = true)
        ∧ (s.directory[0]?).isSome = true
        ∧ ∀ y ∈ (demoAttempt .refused .sent).zones, y.zone ≠ 12 → unresolved y.state = false)
    ∧ (onBus.store.issue = [] ∧ (let s := freshIssue 96
      let seen := run (.presence false (frameChars (presenceOf [1, 3]))) s
      s.store.issue = [19] ∧ s.exchange.table.length = 97
        ∧ 97 < 97 + (remoteSent { s with exchange := { s.exchange with presence := seen.exchange.presence } }
          (issueZones { s with exchange := { s.exchange with presence := seen.exchange.presence } } demoDelivery)).length))
    ∧ (let s := freshIssue 95
      let seen := { s with exchange := { s.exchange with
        presence := (run (.presence false (frameChars (presenceOf [1, 3]))) s).exchange.presence } }
      hears (frameChars (presenceOf [1, 3])) (partsOf (presenceOf [1, 3])) s ∧ member s = true
        ∧ TableSound s.exchange.table ∧ (∀ y ∈ s.exchange.table, y.key.peer = 12 → y = sentCancel)
        ∧ s.store.issue = 19 :: [] ∧ sentCancel.owner = .line 4 ∧ remoteSent seen (issueZones seen demoDelivery) = [12]
        ∧ s.exchange.table.length + 1 = 97 ∧ s.bus.requests.length + s.bus.waiting.length + 1 ≤ 32
        ∧ s.bus.waiting = [] ∧ s.bus.requests = []) :=
  ⟨hears_of (by decide +kernel), hears_of (by decide +kernel), by decide, by decide, by decide, by decide, by decide,
    by decide, by decide, ⟨hears_of (by decide +kernel), by decide +kernel, by decide, by decide, by decide⟩, by decide,
    by decide +kernel, by decide +kernel, ⟨hears_of (by decide +kernel), by decide +kernel⟩⟩

/-- 08, A Peer Restarts: the table entry freed by the fresh join lets the issue head go within the event, to the station that
joins, before this station's own PRESENCE. -/
theorem test_fresh_join_issue :
    let s := run (.presence false (frameChars (presenceOf [1, 3]))) (freshIssue 95)
    s.store.issue = [] ∧ s.exchange.table.length = 96
      ∧ (deliveryAt s 19).map (·.state) = some .airPending ∧ s.intake.counts.cancelUnanswered = 1
      ∧ s.bus.requests.map (fun f => (f.kind, f.dest)) = [(.airRequest, 12), (.presence, 0)] := by decide +kernel

/-! ### The bus line -/

/-- BreaksCarryMarks: 12, 21, 22 and 44 bit times; no cycle and one in progress; FREE mode; LEAVING with both air queues
empty, and with an entry in each; a break of its own, at 32 and 33 bit times. -/
theorem test_witness_breaks : running onBus = true ∧ 22 ≤ 22 ∧ 44 ≤ 44 ∧ 11 < 12 ∧ 21 < 22
    ∧ (let s := run (.breakStart 22) (sending .idle true)
      s.bus.drove = true ∧ s.bus.tx = .breaking ∧ running s = true
        ∧ (run (.readCounts [4] { heard := [], run := 32 }) s).bus.tx = .breaking
        ∧ (run (.readCounts [4] { heard := [], run := 33 }) s).bus.tx = .idle
        ∧ (run (.readCounts [4] { heard := [], run := 33 }) s).bus.drove = true)
    ∧ onBus.bus.drove = false ∧ member configured = false
    ∧ member onBus = true ∧ (cfg onBus).mode = .aligned ∧ (packing 0 0 none []).air.cycle ≠ none
    ∧ (let s := { stationIn .leaving with bus := { Bus.fresh with pendingMark := true } }
      running s = true ∧ s.life.state = .leaving ∧ (cfg s).mode = .aligned ∧ s.air.cycle = none ∧ s.air.regular = []
        ∧ s.air.priority = [] ∧ s.bus.drove = false ∧ s.bus.tx = .idle ∧ s.bus.pendingMark = true
        ∧ (withAir [airEntry 3 0 2 false] [] s).air.regular ≠ [] ∧ (withAir [] [airEntry 3 0 2 true] s).air.priority ≠ [])
    ∧ onBus.life.state = .onBus ∧ onBus.air.cycle = none ∧ (sending .idle true).bus.pendingMark = true
    ∧ running (sending .idle true) = true ∧ (sending .idle true).bus.tx = .idle
    ∧ (sending .idle true).bus.stopped = false := by decide +kernel

/-- StuckLineStopsTransmission: idle; stopped with 11 bit times of quiet. -/
theorem test_witness_stuck : running onBus = true
    ∧ (∀ cs, onBus.bus.tx ≠ .answer cs true ∧ onBus.bus.tx ≠ .request cs true)
    ∧ ({ onBus with bus := { onBus.bus with stopped := true } } : State).bus.stopped = true := by
  refine ⟨by decide, fun cs => ⟨?_, ?_⟩, by decide⟩ <;> intro h <;> cases h

/-- TransmissionStartsByClass: an answer at 32 and 33 bit times, a request at 54 and 55; a frame of 96 payload characters
from station 24 to every station. -/
theorem test_witness_transmission : running (withAnswers 1 onBus) = true ∧ (withAnswers 1 onBus).bus.tx = .idle
    ∧ (withAnswers 1 onBus).bus.stopped = false ∧ (withAnswers 1 onBus).bus.pendingMark = false
    ∧ ((withAnswers 1 onBus).bus.answers.head?).isSome = true ∧ (withRequests 1 .idle).bus.answers = []
    ∧ (withRequests 1 .idle).bus.requests.head? = some forwardFrame ∧ 32 < 33 ∧ 54 < 55
    ∧ (let f : Frame := { kind := .aired, dest := 0, src := 24, seq := 0, payload := List.replicate 96 0 }
      onBus.bus.rx = none ∧ f.dest = 0 ∧ f.payload.length ≤ 96 ∧ f.src.toNat ≤ 24
        ∧ isOwn onBus f.src.toNat = false) := by decide

/-- FrameSentLeavesQueue: an answer; a request of an entry; a transmission that loses arbitration. -/
theorem test_witness_sent : running (sending (.answer [] false) false) = true
    ∧ (sending (.answer [] false) false).bus.tx = .answer [] false
    ∧ ((withAnswers 1 onBus).bus.answers = { kind := .taken, dest := 3, src := 7, seq := 0, payload := [0] } :: [])
    ∧ ((withRequests 1 (.request [] false)).bus.tx = .request [] false
      ∧ (withRequests 1 (.request [] false)).bus.requests = forwardFrame :: [] ∧ forwardFrame.kind ≠ .presence
      ∧ sentForward ∈ (withTable [sentForward] onBus).exchange.table ∧ TableSound (withTable [sentForward] onBus).exchange.table
      ∧ frameOf sentForward.key forwardFrame = true) := by decide

/-- A PRESENCE of this station. -/
def ownFrame (payload : List Byte) : Frame := { kind := .presence, dest := 0, src := 7, seq := 0, payload := payload }

/-- The station in a state with its PRESENCE in transmission. -/
def presenting (st : StationState) (payload : List Byte) : State :=
  { stationIn st with bus := { Bus.fresh with requests := [ownFrame payload], tx := .request [] false } }

/-- PresenceSentMovesStation: an ordinary one in ON-BUS, a fresh one in JOINING, a leaving one in LEAVING. -/
theorem test_witness_presence_sent : running (presenting .onBus [1, 0]) = true
    ∧ (presenting .onBus [1, 0]).bus.tx = .request [] false ∧ (presenting .onBus [1, 0]).bus.requests = [ownFrame [1, 0]]
    ∧ (presenting .onBus [1, 0]).bus.waiting = [] ∧ (presenting .onBus [1, 0]).life.state = .onBus
    ∧ ((presenting .joining [1, 3]).life.state = .joining ∧ (3 : Byte).getLsbD 1 = true)
    ∧ ((presenting .leaving [2, 5]).life.state = .leaving ∧ (5 : Byte).getLsbD 2 = true
      ∧ airEmpty (presenting .leaving [2, 5]) = true ∧ (5 : Byte).toNat ≤ 5
      ∧ (presenting .leaving [2, 5]).air.cycle = none) := by decide

/-! ### The Page Store and the timers -/

/-- The delivery at the head of the issue queue. -/
def issuing (d : Delivery) (s : State) : State := (holding d s).mapStore fun p => { p with issue := [19] }

/-- IssueRequestsEveryZone: zones 7 and 12 on the first attempt; a full table; every zone absent; the own zone alone,
accepted, and refused by a full queue; the own zone and zone 12, each way. -/
theorem test_witness_issue : member (issuing demoDelivery onBus) = true ∧ (issuing demoDelivery onBus).store.issue = 19 :: []
    ∧ (deliveryAt (issuing demoDelivery onBus) 19) = some demoDelivery
    ∧ ((issuing demoDelivery onBus).directory[0]?).isSome = true
    ∧ (((List.range 24).map (· + 1)).filter fun z => demoSubscriber.homeZones.getLsbD (z - 1)) = [7, 12]
    ∧ zoneAirs onBus 7 = true ∧ zoneAirs onBus 12 = true ∧ isOwn onBus 7 = true ∧ isOwn onBus 12 = false
    ∧ 96 < (withTable (List.replicate 96 sentForward) onBus).exchange.table.length + [12].length
    ∧ (let s := { onBus with
          life := { onBus.life with config := some { demoConfig with airing := false } }
          exchange := { onBus.exchange with presence := Vector.replicate 24 Presence.fresh } }
      zoneAirs s 7 = false ∧ zoneAirs s 12 = false)
    ∧ (let s := { onBus with life := { onBus.life with config := some { demoConfig with airing := false } } }
      zoneAirs s 7 = false ∧ zoneAirs s 12 = true ∧ isOwn s 7 = true)
    ∧ (let alone := { onBus with exchange := { onBus.exchange with presence := Vector.replicate 24 Presence.fresh } }
      zoneAirs alone 12 = false ∧ zoneAirs alone 7 = true)
    ∧ (let s := issuing demoDelivery onBus
      admission (airAsk s 19 demoDelivery 1) s = .accepted ∧ findAir s (airAsk s 19 demoDelivery 1).tag = none)
    ∧ (let s := withAir (List.replicate 64 (airEntry 3 0 2 false)) [] (issuing demoDelivery onBus)
      admission (airAsk s 19 demoDelivery 1) s = .refusedFull ∧ demoDelivery.expiry = false
        ∧ demoDelivery.counted ≠ demoPlan.maxAttempts) := by decide +kernel

/-- LifetimeExpires: one tick before the due tick and at it; ISSUING, RETRY-WAIT and SETTLING; AWAIT-ACK with zones to
withdraw, with every zone resolved and one AIRED, and with zone 7 alone in ACCEPTED. -/
theorem test_witness_lifetime : ((359999 : Tick) - demoDelivery.lifetimeDue).toInt < 0
    ∧ 0 ≤ ((360000 : Tick) - demoDelivery.lifetimeDue).toInt ∧ demoDelivery.state = .issuing
    ∧ retryDelivery.state = .retryWait ∧ (underWay .settling missedAttempt).state = .settling
    ∧ (deliveryAt (issuing demoDelivery onBus) 19) = some demoDelivery
    ∧ ((issuing demoDelivery onBus).directory[demoDelivery.subscriber]?).isSome = true
    ∧ (issuing demoDelivery onBus).billing.queue.length < 128
    ∧ (CloseWaits 19 (demoAttempt .accepted .accepted) acceptedBoth
      ∧ deliveryAt acceptedBoth 19 = some (underWay .awaitAck (demoAttempt .accepted .accepted)))
    ∧ (let d := underWay .awaitAck (demoAttempt .aired .lost)
      CloseSettles 19 d (demoAttempt .aired .lost) (holding d onBus) ∧ deliveryAt (holding d onBus) 19 = some d)
    ∧ (let d := underWay .awaitAck (demoAttempt .accepted .aired)
      CloseSettles 19 d (demoAttempt .accepted .aired) acceptedOwn ∧ deliveryAt acceptedOwn 19 = some d) :=
  ⟨by decide +kernel, by decide +kernel, by decide, by decide, by decide, by decide +kernel, by decide +kernel, by decide +kernel,
    ⟨closeWaits_demo, by decide +kernel⟩, ⟨closeSettles_demo.1 _ (by simp), by decide +kernel⟩,
    ⟨closeSettles_demo.2, by decide +kernel⟩⟩

/-- AckWaitExpiryCloses: zones 7 and 12 to withdraw; zone 12 in SENT; every zone resolved with zone 7 AIRED, and zone 7
alone in ACCEPTED, at the last attempt and before it. -/
theorem test_witness_ack_wait :
    CloseWaits 19 (demoAttempt .accepted .accepted) acceptedBoth
    ∧ (let a : Attempt := { demoAttempt .aired .sent with ackDue := some 0 };
      (underWay .awaitAck a).attempt = some a ∧ a.ackDue = some 0 ∧ 0 ≤ (onBus.tick - (0 : Tick)).toInt
        ∧ (∀ z ∈ a.zones, z.state ≠ .accepted) ∧ ∃ z ∈ a.zones, z.state = .sent)
    ∧ (let a : Attempt := { demoAttempt .aired .lost with ackDue := some 0 }
      let d := underWay .awaitAck a
      CloseSettles 19 d a (holding d onBus) ∧ ∃ z ∈ a.zones, z.state = .aired)
    ∧ (let a : Attempt := { demoAttempt .accepted .aired with ackDue := some 0 }
      let s := withAir [{ airEntry 7 19 14 false with tag := demoTag }] [] (holding (underWay .awaitAck a) onBus)
      CloseSettles 19 (underWay .awaitAck a) a s ∧ ∃ z ∈ a.zones, z.state = .aired)
    ∧ (underWay .awaitAck (demoAttempt .aired .lost)).expiry = false
    ∧ (underWay .awaitAck (demoAttempt .aired .lost)).counted + 1 ≠ demoPlan.maxAttempts
    ∧ ({ demoDelivery with counted := 2 } : Delivery).counted + 1 = demoPlan.maxAttempts :=
  ⟨closeWaits_demo, by decide, ⟨⟨by decide +kernel, by decide, by decide +kernel⟩, by decide⟩,
    ⟨⟨by decide +kernel, by decide, by decide +kernel⟩, by decide⟩, by decide⟩

/-- ReplyTimeoutCompletesEntry: a CANCEL; an AIR-REQUEST whose attempt has no other zone left, with another that can air in
AIR-PENDING, in AWAIT-ACK, and in SETTLING; a WITHDRAW with another zone unresolved, and with none; a FORWARD. -/
theorem test_witness_reply_timeout : findEntry (withTable [sentCancel] onBus) sentCancel.key = some sentCancel
    ∧ sentCancel.phase = .sent ∧ sentCancel.due = some 10 ∧ 0 ≤ ((10 : Tick) - 10).toInt
    ∧ (findEntry (withTable [zoneRequest .airRequest] onBus) (zoneRequest .airRequest).key =
        some (zoneRequest .airRequest) ∧ (zoneRequest .airRequest).owner = .zone 19 12
      ∧ (underWay .airPending (demoAttempt .refused .sent)).state = .airPending
      ∧ (demoAttempt .refused .sent).zones.find? (fun x => x.zone == 12) = some { zone := 12, state := .sent }
      ∧ (∀ x ∈ (demoAttempt .refused .sent).zones, x.zone ≠ 12 → unresolved x.state = false)
      ∧ (let d := underWay .airPending (demoAttempt .refused .sent)
        ((holding d onBus).directory[d.subscriber]?).isSome = true)
      ∧ unresolved .sent = true ∧ (∃ x ∈ (demoAttempt .accepted .sent).zones, x.zone ≠ 12 ∧ couldAir x.state = true)
      ∧ (underWay .awaitAck (demoAttempt .aired .sent)).state = .awaitAck
      ∧ ∃ x ∈ (demoAttempt .withdrawing .sent).zones, x.zone ≠ 12 ∧ unresolved x.state = true)
    ∧ (let zones := fun (own : ZoneState) => (demoAttempt own .withdrawing).zones
      (zoneRequest .withdraw).due = some 0 ∧ (∃ x ∈ zones .sent, x.zone ≠ 12 ∧ unresolved x.state = true)
        ∧ missedAttempt.outcome = some .missed
        ∧ unresolved .withdrawing = true ∧ ∀ x ∈ zones .lost, x.zone ≠ 12 → unresolved x.state = false)
    ∧ (findEntry (waitingLine []) sentForward.key = some sentForward ∧ TableSound (waitingLine []).exchange.table) := by
  decide +kernel

/-- RetryReleaseIssuesDueHeads: one due head and nothing after it; two due heads and one after them that is not. -/
theorem test_witness_retry : member onBus = true
    ∧ (let s := (holding retryDelivery onBus).mapStore fun p => { p with retry := [19] }
      s.store.retry = [19] ++ [] ∧ deliveryAt s 19 = some retryDelivery ∧ retryDelivery.due = some 0
        ∧ 0 ≤ (s.tick - 0).toInt ∧ s.store.retry.Nodup)
    ∧ (let s := (holding retryDelivery onBus).mapStore fun p => { p with
        retry := [19, 3, 4]
        slots := (p.slots.set 3 (Slot.mk 0 (some { retryDelivery with due := some 0 }))).set 4
          (Slot.mk 0 (some { retryDelivery with due := some 1 })) }
      s.store.retry = [19, 3] ++ [4] ∧ s.store.retry.Nodup ∧ (deliveryAt s 3).map (·.due) = some (some 0)
        ∧ (deliveryAt s 4).map (·.due) = some (some 1) ∧ (s.tick - 1).toInt < 0
        ∧ (run .retryRelease s).store.issue = [19, 3] ∧ (run .retryRelease s).store.retry = [4]) := by decide +kernel

/-! ### The Air Scheduler and the Matcher -/

/-- R72: with an entry still QUEUED at the end of a FREE cycle, the next one starts with KEY asserted. -/
theorem test_free_restart :
    let s := run (.cycleEnd false) { withAir [airEntry 3 0 2 false] [] freeMode with
      tick := 33
      air := { Air.fresh with
        regular := [airEntry 3 0 2 false], key := true
        cycle := some { start := 0, keyed := true, nextSlot := 16, slotBegin := 0, cells := [], continuing := none,
                        stopped := false, report := [], pageCells := 0, idleCells := 32, skipped := 0 } } }
    s.air.key = true ∧ s.air.cycle.map (·.start) = some 33 ∧ s.air.cycleCounts.cycles = 1 := by decide

/-- The station in a state with its cycle timer due, a mark pending or none. -/
def timerDue (st : StationState) (mark : Bool) : State :=
  { stationIn st with
    air := { Air.fresh with timer := some 0 }
    bus := { Bus.fresh with pendingMark := mark } }

/-- CyclesStart: FREE mode with an entry QUEUED; the cycle timer due in ON-BUS, with and without a mark, and in LEAVING. -/
theorem test_witness_cycles : (member (withAir [airEntry 3 0 2 false] [] freeMode) = true ∧ (cfg freeMode).mode = .free
      ∧ freeMode.air.cycle = none
      ∧ ∃ e ∈ (withAir [airEntry 3 0 2 false] [] freeMode).air.regular, e.state = .queued)
    ∧ ((cfg (timerDue .onBus true)).mode = .aligned ∧ (timerDue .onBus true).air.cycle = none
      ∧ (timerDue .onBus true).air.timer = some 0 ∧ 0 ≤ ((timerDue .onBus true).tick - (0 : Tick)).toInt
      ∧ (timerDue .onBus true).bus.pendingMark = true ∧ (timerDue .onBus false).bus.pendingMark = false)
    ∧ ((timerDue .leaving true).life.state = .leaving ∧ (timerDue .leaving true).air.regular = []
      ∧ (withAir [airEntry 3 0 2 false] [] (timerDue .leaving true)).air.regular ≠ []) := by decide

/-- SlotIsFilledOrSkipped: the last enabled slot with nothing continuing; a page of 8 fits it and one of 9 does not; the
slot before it, which a page of 9 fits. -/
theorem test_witness_slot : (packing 3 32 none []).air.cycle.isSome = true
    ∧ ((packing 3 32 none []).air.cycle.all fun y => y.keyed && y.cells.isEmpty && !y.stopped
      && nextEnabled demoConfig y == some 3 && instantReached 32 y.start (slotOffset demoConfig 3)) = true
    ∧ 8 + 8 * ((enabledSlots demoConfig).filter fun j => decide (3 < j)).length = 8
    ∧ ([airEntry 7 1 8 false].find? fun x => x.state == .queued) = some (airEntry 7 1 8 false)
    ∧ (airEntry 7 1 8 false).returned = false
    ∧ ((packing 2 24 none []).air.cycle.all fun y => nextEnabled demoConfig y == some 2
      && instantReached 24 y.start (slotOffset demoConfig 2)) = true
    ∧ 8 + 8 * ((enabledSlots demoConfig).filter fun j => decide (2 < j)).length = 16 ∧ 8 < (airEntry 7 1 9 false).cells := by
  decide

/-- A slot cell of a page, its last one or not. -/
def demoCell (last : Bool) : SlotCell := { bits := idleCell, page := some (airEntry 7 1 2 false).tag, last := last }

/-- CellIsHanded: the eighth cell of the slot that begins at tick 32. -/
theorem test_witness_cell : (demoCell true).page = some (airEntry 7 1 2 false).tag ∧ (demoCell true).last = true
    ∧ (demoCell false).last = false ∧ instantReached 39 0 (slotOffset demoConfig 3 + (7 - 0) * demoConfig.slotTime) = true
    ∧ instantReached 31 0 (slotOffset demoConfig 3) = false ∧ instantReached 32 0 (slotOffset demoConfig 3) = true := by
  decide

/-- A tag of a home station. -/
def tagOf (home : Byte) (i : Nat) : Tag := { home := home, slot := BitVec.ofNat 8 i, gen := 0, attempt := 1 }

/-- R83: the pages of stations 3 and 5 in one cycle, 25 of station 5: three AIRED frames, of 1, 24 and 1 tags. -/
theorem test_cycle_end_homes :
    let tags := tagOf 5 0 :: tagOf 3 0 :: (List.range 24).map fun i => tagOf 5 (i + 1)
    let s := run (.cycleEnd false) (packing 16 136 none (tags.map fun g => { tag := g, priority := false, outcome := .done }))
    s.bus.answers.map (fun f => (f.kind, f.dest, f.payload.length)) = [(.aired, 3, 4), (.aired, 5, 96), (.aired, 5, 4)] := by
  decide +kernel

/-- CycleEndReportsPages: 17 slot times after the start, and one tick before; a peer's page, one returned entry, and both;
pages of two homes, one with 24 and one with 25 tags, their frames filling the answer queue; a page of this station in
AIR-PENDING and in AWAIT-ACK, and its returned entry; FREE mode with an entry QUEUED. -/
theorem test_witness_cycle_end : instantReached 136 0 (endOffset demoConfig) = true
    ∧ instantReached 135 0 (endOffset demoConfig) = false
    ∧ ((packing 16 136 none [{ tag := (airEntry 3 0 2 false).tag, priority := false, outcome := .done }]).air.cycle.all
      fun y => y.cells.isEmpty && (nextEnabled demoConfig y).isNone) = true
    ∧ isOwn onBus (airEntry 3 0 2 false).tag.home.toNat = false
    ∧ (let e : AirEntry := { airEntry 3 1 2 false with returned := true, withdraw := some { station := 3, seq := 9 } }
      ([e].filter fun x => x.returned && x.withdraw.isSome) = [e] ∧ isOwn onBus 3 = false
        ∧ (withAnswers 22 onBus).bus.answers.length + 2 ≤ 24)
    ∧ (let homes : List Byte := [3, 5]
      let tags := (List.range 24).map (tagOf 3) ++ (List.range 25).map (tagOf 5)
      let gs := tags.filter fun g => g.home = 5
      homes.Pairwise (fun x y => x.toNat < y.toNat) ∧ (∀ h ∈ homes, ∃ g ∈ tags, g.home = h)
        ∧ (∀ g ∈ tags, g.home ∈ homes) ∧ (∀ h ∈ homes, isOwn onBus h.toNat = false)
        ∧ ((List.range ((gs.length + 23) / 24)).map fun i => ((gs.drop (24 * i)).take 24).length) = [24, 1]
        ∧ (withAnswers 21 onBus).bus.answers.length + 3 + 0 ≤ 24)
    ∧ (isOwn onBus demoTag.home.toNat = true
      ∧ ∀ st ∈ [DeliveryState.airPending, .awaitAck], (let d := underWay st (demoAttempt .accepted .sent)
        (holding d onBus).store.slots[demoTag.slot.toNat] = { gen := demoTag.gen, held := some d }
          ∧ entryOfZone (holding d onBus) 19 7 = none))
    ∧ (demoAttempt .accepted .sent).zones.find? (fun e => e.zone == ownNumber onBus) = some { zone := 7, state := .accepted }
    ∧ ((demoAttempt .withdrawing .withdrawing).zones.find? (fun e => e.zone == ownNumber onBus)
        = some { zone := 7, state := .withdrawing }
      ∧ ∃ x ∈ (demoAttempt .withdrawing .withdrawing).zones, x.zone ≠ ownNumber onBus ∧ unresolved x.state = true)
    ∧ (member freeMode = true ∧ (cfg freeMode).mode = .free) := by decide +kernel

/-- Five characters of a report for this station, with a quality. -/
def gathered (home attempt quality : Byte) : List RxChar :=
  [home, 19, 5, attempt, quality].map fun b => { byte := b, framing := false }

/-- ReportsAreGatheredAndJudged: the ends of the fields, one past them, and the sum that is 0. -/
theorem test_witness_reports : running onBus = true ∧ onBus.matcher.run = .idle ∧ (gathered 7 1 6).length = 5
    ∧ (7 : Byte) + 19 + 5 + 1 + 6 + 218 = 0 ∧ (24 : Byte) + 19 + 5 + 7 + 15 + 186 = 0
    ∧ ¬ (1 ≤ (25 : Byte).toNat ∧ (25 : Byte).toNat ≤ 24) ∧ ¬ (1 ≤ (0 : Byte).toNat ∧ (0 : Byte).toNat ≤ 7)
    ∧ 15 < (16 : Byte).toNat ∧ (5 : Byte).toNat < (cfg onBus).minQuality ∧ (cfg onBus).minQuality ≤ (6 : Byte).toNat
    ∧ running configured = true ∧ configured.life.state = .configured ∧ onBus.life.state ≠ .configured
    ∧ (List.replicate 7 { tag := demoTag, quality := (6 : Byte) : Report }).length < 8
    ∧ 8 ≤ (List.replicate 8 { tag := demoTag, quality := (6 : Byte) : Report }).length := by decide

/-- MatcherRoutesHead: a present and an absent peer; 23 and 24 answers queued; a free slot; a delivery in ISSUING after an
issue, in RETRY-WAIT, and in AWAIT-ACK with zones to withdraw and with none. -/
theorem test_witness_head : member onBus = true ∧ isOwn onBus 12 = false ∧ (presenceAt onBus 12).present = true
    ∧ (presenceAt onBus 24).present = false ∧ isOwn onBus 24 = false ∧ isOwn onBus demoTag.home.toNat = true
    ∧ (onBus.store.slots[demoTag.slot.toNat]).held = none ∧ (withAnswers 23 onBus).bus.answers.length < 24
    ∧ 24 ≤ (withAnswers 24 onBus).bus.answers.length
    ∧ (let s := { onBus with matcher := { Matcher.fresh with fifo := [{ tag := demoTag, quality := 6 }] } }
      s.matcher.fifo = { tag := demoTag, quality := 6 } :: [])
    ∧ (let d := { demoDelivery with issued := true }
      slotAt (issuing d onBus) 19 = { gen := demoTag.gen, held := some d } ∧ d.state = .issuing
        ∧ demoTag.attempt.toNat ≤ d.counted + 1)
    ∧ slotAt (holding retryDelivery onBus) 19 = { gen := demoTag.gen, held := some retryDelivery }
    ∧ slotAt acceptedBoth 19 = { gen := 5, held := some (underWay .awaitAck (demoAttempt .accepted .accepted)) }
    ∧ slotAt acceptedOwn 19 = { gen := 5, held := some (underWay .awaitAck (demoAttempt .accepted .aired)) } := by
  decide +kernel

/-- PresenceTimersAct: stations 5 and 12 due at tick 1,000; the interval; the listen timer; the drained station; an
ordinary PRESENCE queued, and one waiting behind a full request queue. -/
theorem test_witness_presence_timers : (presenceAt onBus 5).present = true ∧ (presenceAt onBus 12).absenceDue = some 1000
    ∧ 0 ≤ ((1000 : Tick) - 1000).toInt ∧ onBus.bus.requests ++ onBus.bus.waiting = []
    ∧ ({ onBus with exchange := { onBus.exchange with intervalDue := some 0 } } : State).exchange.intervalDue = some 0
    ∧ (stationIn .joining).life.state = .joining
    ∧ ({ onBus with exchange := { onBus.exchange with listenDue := some 0 } } : State).exchange.listenDue = some 0
    ∧ (stationIn .leaving).life.state = .leaving ∧ (stationIn .leaving).exchange.leaveMade = false
    ∧ drained (stationIn .leaving) = true
    ∧ (let old : Frame := { kind := .presence, dest := 0, src := 7, seq := 0, payload := [2, 1] }
      let queued := (stationIn .leaving).mapBus fun b => { b with requests := [old] }
      let waiting := (stationIn .leaving).mapBus fun b => { b with requests := List.replicate 32 forwardFrame, waiting := [old] }
      old ∈ keptRequests queued ∧ old ∈ keptRequests waiting ∧ old.kind = .presence ∧ member queued = true
        ∧ (∀ x ∈ queued.bus.requests ++ queued.bus.waiting, x.kind = .presence → x.payload = [2, 0] ∨ x.payload = [2, 1])
        ∧ ∀ x ∈ waiting.bus.requests ++ waiting.bus.waiting, x.kind = .presence → x.payload = [2, 0] ∨ x.payload = [2, 1])
    := by decide +kernel

/-- JoinAndLeaveAnnounce. -/
theorem test_witness_join_leave : portActs configured ∧ configured.life.state = .configured
    ∧ portActs onBus ∧ onBus.life.state = .onBus ∧ onBus.bus.tx = .idle
    ∧ ∀ f ∈ onBus.bus.requests ++ onBus.bus.waiting, f.kind = .presence → f.payload = [1, 0] ∨ f.payload = [1, 1] := by
  decide

/-- Station 7 with a FORWARD outstanding and a delivery waiting to retry. -/
def soundState : State := (holding retryDelivery (waitingLine [])).mapStore fun p => { p with retry := [19] }

/-- What the slots of that state hold. -/
theorem soundState_held (k : Fin 256) :
    (soundState.store.slots[k.val]).held = if k = 19 then some retryDelivery else none := by
  have slots : soundState.store.slots = (Vector.replicate 256 { gen := 0, held := none }).set 19
      { gen := 5, held := some retryDelivery } := rfl
  rw [slots, Vector.getElem_set]
  by_cases h : k = 19
  · subst h; rfl
  · have : ¬ (19 : Nat) = k.val := fun e => h (Fin.ext e.symm)
    simp [h, this]

/-- That state is sound. -/
theorem storeSound_demo : StoreSound soundState where
  issueOnce := by decide
  retryOnce := by decide
  issuing k := by
    rw [soundState_held]
    by_cases h : k = 19
    · simp [h, soundState, holding, waitingLine, setLine, onBus, stationIn, State.reset, State.mapStore, State.mapIntake,
        retryDelivery, demoDelivery]
    · simp [h, soundState, holding, waitingLine, setLine, onBus, stationIn, State.reset, State.mapStore, State.mapIntake]
  waiting k := by
    rw [soundState_held]
    by_cases h : k = 19
    · simp [h, soundState, State.mapStore, retryDelivery]
    · simp [h, soundState, State.mapStore]
  owned k d h := by
    rw [soundState_held] at h
    by_cases e : k = 19
    · simp only [e, if_true, Option.some.injEq] at h; subst h; decide
    · simp [e] at h
  live i r h := by
    match i with
    | 0 => simp only [show soundState.directory[0]? = some { demoSubscriber with live := 1, accepted := 1, periodTotal := 520 } from rfl,
        Option.some.injEq] at h; subst h; decide +kernel
    | i + 1 => simp [show soundState.directory = [{ demoSubscriber with live := 1, accepted := 1, periodTotal := 520 }] from rfl] at h
  members h := absurd rfl h
  onePresence := by decide
  leaving h := by
    obtain ⟨f, hf, _⟩ := h
    simp [keptRequests, soundState, holding, waitingLine, setLine, onBus, stationIn, State.reset, State.mapStore,
      State.mapIntake, Bus.fresh] at hf

/-- It keeps every queue within its size. -/
theorem fits_demo : Fits soundState := by
  refine ⟨by decide, by decide, by decide, by decide, by decide, by decide, by decide, by decide, by decide, trivial,
    by decide, by decide, by decide, by decide, by decide +kernel⟩

/-- A command that answers next leads to the state after it. -/
theorem next_run {c : Instr} {s : State} (h : ∃ t, exec c s = .next t) : exec c s = .next (run c s) := by
  obtain ⟨t, ht⟩ := h
  simp [run, after, ht]

/-- The invariants: a state with a subscriber, a delivery in RETRY-WAIT, a map and an outstanding entry meets them all, and
a step of it answers next. -/
theorem test_witness_invariants : DirectorySound soundState.directory ∧ MapSound soundState.ranges
    ∧ TableSound soundState.exchange.table ∧ LifeSound soundState.life ∧ Fits soundState ∧ StoreSound soundState
    ∧ RetryOrdered soundState ∧ DuesNear soundState ∧ (∀ k : Fin 16, PlanValid soundState.plans[k.val])
    ∧ step soundState = .next (passTick soundState) :=
  ⟨by decide, by decide, by decide, by decide, fits_demo, storeSound_demo,
    List.pairwise_singleton _ _, by decide +kernel, by decide +kernel, rfl⟩

/-- StateChangesOnlyAtTransitions and BillingSequenceCountsRecords: LEAVE changes the state; an acceptance makes a
record. -/
theorem test_witness_changes : (exec (.leave []) onBus = .next (run (.leave []) onBus)
      ∧ (run (.leave []) onBus).life.state ≠ onBus.life.state)
    ∧ (let c := Instr.forward false (frameChars demoForward)
      exec c onBus = .next (run c onBus) ∧ (∀ low, c ≠ .powerOn low) ∧ (∀ p, c ≠ .takeRecords p)
      ∧ (run c onBus).billing.lost < 65535 ∧ (run c onBus).billing.seq = 1) := by
  refine ⟨⟨next_run ⟨_, rfl⟩, by decide +kernel⟩, next_run ⟨_, rfl⟩, fun _ => by simp, fun _ => by simp,
    by decide +kernel, by decide +kernel⟩

end Sys2Proof.Machine.Tests
end

section
/-! What a step on an empty queue does: the tick that the counter counts (R1), the shift stages that it empties (R38), and
the sample of RESET_N (R186), with what a warm reset leaves (R187). -/

namespace Sys2Proof.Machine

/-! ## The front of the queue -/

/-- A waiting command is run with the queue's rest. -/
theorem step_of_cons {c : Instr} {rest : List Instr} {s : State} (h : s.pending = c :: rest) :
    step s = exec c (s.setPending rest) := by
  simp [step, h]

/-- On an empty queue a step is one tick. -/
theorem step_of_nil {s : State} (h : s.pending = []) : step s = .next (passTick s) := by
  simp [step, h]

/-! ## The tick of the clock -/

@[simp] theorem countTick_tick (s : State) : (countTick s).tick = s.tick + 1 := rfl
@[simp] theorem countTick_pins (s : State) : (countTick s).pins = s.pins := rfl
@[simp] theorem countTick_life (s : State) : (countTick s).life = s.life := rfl
@[simp] theorem countTick_port (s : State) : (countTick s).port = s.port := rfl
@[simp] theorem countTick_pending (s : State) : (countTick s).pending = s.pending := rfl

/-- R38: a tick ends the shift of each line whose character has been sent. -/
theorem countTick_line (s : State) (k : Fin 8) :
    (countTick s).intake.lines[k.val] = endShift (s.tick + 1) s.intake.lines[k.val] := by
  simp [countTick]

/-- R38: the ticks of a character, at 300 bit/s and at the other rates. -/
theorem sendTicks_eq (r : Option LineRate) : sendTicks r = if r = some .r300 then 4 else 1 := by
  unfold sendTicks
  split <;> simp_all

/-- R38: an empty shift stage stays empty. -/
theorem endShift_empty {now : Tick} {l : Line} (h : l.txShift = none) : endShift now l = l := by
  simp [endShift, h]

/-- R38: a character leaves the shift stage once its ticks have passed, and stays before. -/
theorem endShift_shifting {now : Tick} {l : Line} {c : TxShift} (h : l.txShift = some c) :
    endShift now l = { l with txShift := if sendTicks c.rate ≤ (now - c.since).toNat then none else some c } := by
  simp only [endShift, h]
  split
  · rfl
  · rw [← h]

/-! ## What a warm reset leaves -/

/-- R187 4: CONFIGURED unless no configuration is held. -/
theorem stateAfterReset_eq (l : Life) :
    stateAfterReset l = if l.config = none then .unconfigured else .configured := by
  cases h : l.config <;> simp [stateAfterReset, h]

/-- R187: a warm reset leaves every block as R187 says. -/
theorem warmReset_leaves (kind : ResetKind) (s : State) : WarmResetLeaves kind s (warmReset kind s) where
  config := rfl
  state := stateAfterReset_eq s.life
  lastReset := rfl
  clockKept := rfl
  loadsKept := ⟨rfl, rfl⟩
  directory := rfl
  billing := rfl
  lines k := by simp [warmReset, resetIntake]
  intakeCounts := rfl
  slots k := by simp [warmReset, resetStore, resetSlot]
  storeQueues := ⟨rfl, rfl, rfl, rfl⟩
  airQueues := ⟨rfl, rfl⟩
  cycle := ⟨rfl, rfl, rfl⟩
  airCounts := ⟨rfl, rfl⟩
  matcher := ⟨rfl, rfl, rfl⟩
  busQueues := ⟨rfl, rfl, rfl⟩
  busLine := ⟨rfl, rfl, rfl⟩
  reception := ⟨rfl, rfl, rfl⟩
  busCounts := rfl
  table := ⟨rfl, rfl⟩
  presence k := by simp [warmReset, Exchange.fresh, Presence.fresh]
  exchangeTimers := ⟨rfl, rfl⟩
  exchangeCounts := rfl
  latches := ⟨rfl, rfl⟩

/-- R187: the hold and the samples of RESET_N are no part of what a warm reset leaves. -/
theorem WarmResetLeaves.mapLife {kind : ResetKind} {s t : State} (h : WarmResetLeaves kind s t) {f : Life → Life}
    (config : (f t.life).config = t.life.config) (state : (f t.life).state = t.life.state)
    (lastReset : (f t.life).lastReset = t.life.lastReset) : WarmResetLeaves kind s (t.mapLife f) :=
  { h with
    config := config.trans h.config
    state := state.trans h.state
    lastReset := lastReset.trans h.lastReset }

/-- R187: the pending response and the frame on the port are no part of what a warm reset leaves. -/
theorem WarmResetLeaves.mapPort {kind : ResetKind} {s t : State} (h : WarmResetLeaves kind s t) {f : Port → Port}
    (busStuck : (f t.port).busStuck = t.port.busStuck) (recordLost : (f t.port).recordLost = t.port.recordLost) :
    WarmResetLeaves kind s (t.mapPort f) :=
  { h with latches := ⟨busStuck.trans h.latches.1, recordLost.trans h.latches.2⟩ }

/-- R187: a warm reset after the sample of RESET_N leaves what one before it does. -/
theorem WarmResetLeaves.of_takeSample {kind : ResetKind} {high : Bool} {s t : State}
    (h : WarmResetLeaves kind (takeSample high s) t) : WarmResetLeaves kind s t := { h with }

/-- R187: a warm reset after the tick has emptied shift stages leaves what one on the counted tick alone does. -/
theorem WarmResetLeaves.of_countTick {kind : ResetKind} {s t : State} (h : WarmResetLeaves kind (countTick s) t) :
    WarmResetLeaves kind { s with tick := s.tick + 1 } t := { h with }

/-! ## The sample of RESET_N -/

/-- R186: a frame in progress is abandoned. -/
theorem abandonFrame_eq (f : PortFrame) : abandonFrame f = if f = .closed then .closed else .ignored := by
  cases f <;> rfl

/-- R186: with no high level recognised before it, a low one makes no warm reset. -/
theorem pinReset_of_not_high {s : State} (h : s.life.recognised ≠ some true) : pinReset s = s := by
  simp [pinReset, h]

/-- R187: a low level after a recognised high one makes a warm reset with kind PIN. -/
theorem pinReset_of_high {s : State} (h : s.life.recognised = some true) :
    pinReset s = respond .none .done [] (warmReset .pin s) := by
  simp [pinReset, h]

/-- R186: a low level recognised with no high one before it holds the station and abandons the frame. -/
theorem recogniseLow_of_not_high {s : State} (h : s.life.recognised ≠ some true) :
    recogniseLow s = { s with
      life := { s.life with recognised := some false, held := true }
      port := { s.port with frame := abandonFrame s.port.frame } } := by
  rw [recogniseLow, pinReset_of_not_high h]
  rfl

/-- R187: a low level recognised after a high one leaves what a warm reset with kind PIN leaves. -/
theorem recogniseLow_leaves {s : State} (h : s.life.recognised = some true) :
    WarmResetLeaves .pin s (recogniseLow s) := by
  rw [recogniseLow, pinReset_of_high h]
  have responded : WarmResetLeaves .pin s (respond .none .done [] (warmReset .pin s)) :=
    (warmReset_leaves .pin s).mapPort rfl rfl
  exact (responded.mapLife rfl rfl rfl).mapPort rfl rfl

/-- R187: a low level recognised after a high one holds the station, with the response NONE and no frame going on. -/
theorem recogniseLow_of_high {s : State} (h : s.life.recognised = some true) :
    (recogniseLow s).life.held = true
      ∧ (recogniseLow s).port.response =
        { previous := .none, result := .done, crcFault := false, lengthFault := false, data := [] }
      ∧ (recogniseLow s).port.frame = abandonFrame s.port.frame := by
  rw [recogniseLow, pinReset_of_high h]
  exact ⟨rfl, rfl, rfl⟩

/-- R187: recognising a low level leaves the pins, the counter and the waiting commands alone. -/
theorem recogniseLow_keeps (s : State) : (recogniseLow s).pins = s.pins ∧ (recogniseLow s).tick = s.tick
    ∧ (recogniseLow s).pending = s.pending := by
  by_cases h : s.life.recognised = some true
  · rw [recogniseLow, pinReset_of_high h]
    exact ⟨rfl, rfl, rfl⟩
  · rw [recogniseLow_of_not_high h]
    exact ⟨rfl, rfl, rfl⟩

/-- R186: a sample leaves the pins, the counter and the waiting commands alone. -/
theorem sampleReset_keeps (s : State) (high : Bool) : (sampleReset s high).pins = s.pins
    ∧ (sampleReset s high).tick = s.tick ∧ (sampleReset s high).pending = s.pending := by
  cases r : recognises high s with
  | false => rw [sampleReset_steady r]; exact ⟨rfl, rfl, rfl⟩
  | true =>
    cases high with
    | true => rw [sampleReset_high r]; exact ⟨rfl, rfl, rfl⟩
    | false => rw [sampleReset_low r]; exact recogniseLow_keeps (takeSample false s)

/-- R186: a sample that makes no warm reset leaves the Intake Unit alone. -/
theorem sampleReset_intake {s : State} {high : Bool}
    (h : high = true ∨ s.life.sample ≠ some false ∨ s.life.recognised ≠ some true) :
    (sampleReset s high).intake = s.intake := by
  cases r : recognises high s with
  | false => rw [sampleReset_steady r]; rfl
  | true =>
    cases high with
    | true => rw [sampleReset_high r]; rfl
    | false =>
      obtain ⟨low, -⟩ := (recognises_iff false s).mp r
      have fresh : s.life.recognised ≠ some true := by simpa [low] using h
      rw [sampleReset_low r, recogniseLow_of_not_high (s := takeSample false s) fresh]
      rfl

/-! ## The four outcomes of a tick -/

/-- R186: the sample of a tick recognises what one before the tick would. -/
@[simp] theorem recognises_countTick (high : Bool) (s : State) : recognises high (countTick s) = recognises high s := rfl

/-- R186: a first sample at a level, or one at the recognised level, is held as the last one. -/
theorem passTick_steady {s : State} (h : s.life.sample ≠ some s.pins.resetN ∨ s.life.recognised = some s.pins.resetN) :
    passTick s = takeSample s.pins.resetN (countTick s) := by
  have steady : recognises s.pins.resetN s = false := by
    rw [Bool.eq_false_iff, Ne, recognises_iff, not_and_or, not_not]
    exact h
  exact sampleReset_steady steady

/-- R186: the second high sample ends the hold. -/
theorem passTick_high {s : State} (pin : s.pins.resetN = true) (sample : s.life.sample = some true)
    (recognised : s.life.recognised ≠ some true) : passTick s = recogniseHigh (takeSample true (countTick s)) := by
  rw [passTick, pin]
  exact sampleReset_high ((recognises_iff true s).mpr ⟨sample, recognised⟩)

/-- R186: the second low sample recognises the low level. -/
theorem passTick_low {s : State} (pin : s.pins.resetN = false) (sample : s.life.sample = some false)
    (recognised : s.life.recognised ≠ some false) : passTick s = recogniseLow (takeSample false (countTick s)) := by
  rw [passTick, pin]
  exact sampleReset_low ((recognises_iff false s).mpr ⟨sample, recognised⟩)

/-- R186, R187: the second low sample after a recognised high level makes a warm reset on the counted tick. -/
theorem passTick_leaves {s : State} (pin : s.pins.resetN = false) (sample : s.life.sample = some false)
    (recognised : s.life.recognised = some true) : WarmResetLeaves .pin { s with tick := s.tick + 1 } (passTick s) := by
  rw [passTick_low pin sample (by simp [recognised])]
  exact (recogniseLow_leaves (s := takeSample false (countTick s)) recognised).of_takeSample.of_countTick

/-- R38: a tick that makes no warm reset ends the shifts and leaves the lines alone beyond that. -/
theorem passTick_line {s : State}
    (h : s.pins.resetN = true ∨ s.life.sample ≠ some false ∨ s.life.recognised ≠ some true) (k : Fin 8) :
    (passTick s).intake.lines[k.val] = endShift (s.tick + 1) s.intake.lines[k.val] := by
  have kept : (passTick s).intake = (countTick s).intake := sampleReset_intake h
  simp only [kept, countTick_line]

/-- Settles O1: a waiting command by the queue's front, and a tick by its sample of RESET_N: steady, high, low with no high
level recognised before it, and low after one. -/
theorem stepRunsFrontCommand : Obligations.StepRunsFrontCommand := by
  refine ⟨fun c rest s waiting => step_of_cons waiting, fun s empty => ?_⟩
  obtain ⟨pins, tick, pending⟩ := sampleReset_keeps (countTick s) s.pins.resetN
  refine ⟨passTick s, step_of_nil empty, sample_sampleReset _ _, pins, tick, pending.trans empty, ?_⟩
  rintro ticked rfl
  refine ⟨fun steady => ?_, fun pin sample recognised => ?_, fun pin sample => ⟨fun recognised => ?_, fun recognised => ?_⟩,
    fun noReset k l line => ?_⟩
  · rw [passTick_steady steady]
    rfl
  · rw [passTick_high pin sample recognised, pin]
    rfl
  · rw [passTick_low pin sample (by simp [recognised]),
      recogniseLow_of_not_high (by simp [takeSample, recognised]), pin, ← abandonFrame_eq]
    rfl
  · obtain ⟨held, response, frame⟩ := recogniseLow_of_high (s := takeSample false (countTick s)) recognised
    have low := passTick_low pin sample (by simp [recognised])
    have level : (passTick s).life.recognised = some false := by
      simp [passTick, pin, recognises, sample, recognised]
    rw [← low] at held response frame
    exact ⟨held, level, passTick_leaves pin sample recognised, response, frame.trans (abandonFrame_eq s.port.frame)⟩
  · rw [passTick_line noReset k, ← line]
    refine ⟨fun idle => endShift_empty idle, fun c shifting => ?_⟩
    rw [endShift_shifting shifting, sendTicks_eq]

end Sys2Proof.Machine
end

section
/-! What an event keeps (R2 to R5, R15, R47, R106): the invariant of one station, block by block, and the relation between
the states before and after an event that loads nothing. -/

namespace Sys2Proof.Machine

/-! ## The invariant, block by block -/

/-- The air queues and the cells of the current slot within their sizes (R67, R72). -/
structure AirFits (a : Air) : Prop where
  regular : a.regular.length ≤ 64
  priority : a.priority.length ≤ 4
  cells : ∀ y ∈ a.cycle, y.cells.length ≤ 8

/-- The reverse FIFO and the report under assembly within their sizes (R91, R93). -/
structure MatcherFits (m : Matcher) : Prop where
  fifo : m.fifo.length ≤ 8
  run : RunFits m.run

/-- The transmit queues and the frame under reception within their sizes (R138, R151, R152). -/
structure BusFits (b : Bus) : Prop where
  answers : b.answers.length ≤ 24
  requests : b.requests.length ≤ 32
  reception : ∀ bytes ∈ b.rx, RxFits bytes

/-- The delivery that a slot of the Page Store holds. -/
def heldIn (p : PageStore) (k : Fin 256) : Option Delivery := (p.slots[k.val]).held

/-- No slot holds a delivery. -/
def NoneHeld (p : PageStore) : Prop := ∀ k : Fin 256, heldIn p k = none

/-- R47, R106: each queue holds exactly the deliveries in its state, each once. -/
structure QueuesSound (p : PageStore) : Prop where
  issueOnce : p.issue.Nodup
  retryOnce : p.retry.Nodup
  issuing : ∀ k : Fin 256, k ∈ p.issue ↔ ∃ d, heldIn p k = some d ∧ d.state = .issuing
  waiting : ∀ k : Fin 256, k ∈ p.retry ↔ ∃ d, heldIn p k = some d ∧ d.state = .retryWait

/-- The number of deliveries held for the subscriber at an index. -/
def heldCount (p : PageStore) (i : Nat) : Nat :=
  (p.slots.toList.filterMap (·.held)).countP fun d => d.subscriber == i

/-- R15: each delivery belongs to a record, whose live count is the number of its deliveries. -/
structure LiveSound (d : List Subscriber) (p : PageStore) : Prop where
  owned : ∀ (k : Fin 256) (x : Delivery), heldIn p k = some x → x.subscriber < d.length
  live : ∀ (i : Nat) (r : Subscriber), d[i]? = some r → r.live = heldCount p i

/-- The PRESENCE frames of this station that are waiting or queued (R165). -/
def presencesKept (s : State) : List Frame := (keptRequests s).filter fun f => f.kind == .presence

/-- The due tick of the delivery in a slot. -/
def dueIn (p : PageStore) (k : Fin 256) : Tick := ((heldIn p k).bind (·.due)).getD 0

/-- A due tick less than 2^30 ticks from now. -/
def Near (now due : Tick) : Prop := -1073741824 < (due - now).toInt ∧ (due - now).toInt < 1073741824

/-- R106: the due tick of one delivery comes first, or is the same and its slot number is lower. -/
def comesBefore (due : Fin 256 → Tick) (a b : Fin 256) : Prop :=
  (due a - due b).toInt < 0 ∨ (due a = due b ∧ a < b)

/-- R106: the Retry Queue stands in order, its due ticks lie near now, and no backoff of a plan leads far from now. -/
structure RetrySound (plans : Vector Plan 16) (now : Tick) (p : PageStore) : Prop where
  caps : ∀ k : Fin 16, (plans[k.val]).backoffCap ≤ 3600
  near : ∀ k ∈ p.retry, Near now (dueIn p k)
  order : p.retry.Pairwise (comesBefore (dueIn p))

/-- The invariant of a station; `q` is what the order of the Retry Queue rests on. -/
structure Sound (q : Prop) (s : State) : Prop where
  directory : s.directory.length ≤ 1024
  ranges : s.ranges.length ≤ 16
  billing : s.billing.queue.length ≤ 128
  air : AirFits s.air
  matcher : MatcherFits s.matcher
  bus : BusFits s.bus
  table : s.exchange.table.length ≤ 96
  lines : ∀ k : Fin 8, LineFits (lineAt s k)
  queues : QueuesSound s.store
  live : LiveSound s.directory s.store
  members : s.life.state ≠ .onBus → s.life.state ≠ .leaving → NoneHeld s.store
  onePresence : (presencesKept s).length ≤ 1
  leaving : (∃ f ∈ presencesKept s, leavingPresence f) →
    s.life.state = .leaving ∧ NoneHeld s.store ∧ s.air.regular = [] ∧ s.air.priority = [] ∧ s.exchange.table = []
  retry : q → RetrySound s.plans s.tick s.store

/-- R47: a queue of slots without repeats fits in the store. -/
theorem length_le_of_nodup {l : List (Fin 256)} (h : l.Nodup) : l.length ≤ 256 := by
  simpa using h.length_le_card

/-- The leaving PRESENCE is one of the PRESENCE frames. -/
theorem leaving_kept_iff (s : State) :
    (∃ f ∈ presencesKept s, leavingPresence f) ↔ ∃ f ∈ keptRequests s, leavingPresence f := by
  constructor
  · rintro ⟨f, kept, leaves⟩
    exact ⟨f, (List.mem_filter.mp kept).1, leaves⟩
  · rintro ⟨f, kept, leaves⟩
    exact ⟨f, List.mem_filter.mpr ⟨kept, by simp [leaves.1]⟩, leaves⟩

/-- The invariant says that the sizes are kept, that the Page Store is sound, and that the Retry Queue is in order. -/
theorem sound_iff (q : Prop) (s : State) :
    Sound q s ↔ Fits s ∧ StoreSound s ∧ (q → RetrySound s.plans s.tick s.store) := by
  constructor
  · intro h
    refine ⟨⟨h.directory, h.ranges, h.billing, length_le_of_nodup h.queues.issueOnce,
      length_le_of_nodup h.queues.retryOnce, h.air.regular, h.air.priority, h.air.cells, h.matcher.fifo, h.matcher.run,
      h.bus.answers, h.bus.requests, h.table, h.bus.reception, h.lines⟩, ?_, h.retry⟩
    exact ⟨h.queues.issueOnce, h.queues.retryOnce, h.queues.issuing, h.queues.waiting, h.live.owned, h.live.live,
      h.members, h.onePresence, fun leaves => h.leaving ((leaving_kept_iff s).mpr leaves)⟩
  · rintro ⟨⟨directory, ranges, billing, -, -, regular, priority, cells, fifo, run, answers, requests, table, reception,
      lines⟩, store, retry⟩
    exact ⟨directory, ranges, billing, ⟨regular, priority, cells⟩, ⟨fifo, run⟩, ⟨answers, requests, reception⟩, table,
      lines, ⟨store.issueOnce, store.retryOnce, store.issuing, store.waiting⟩, ⟨store.owned, store.live⟩, store.members,
      store.onePresence, fun leaves => store.leaving ((leaving_kept_iff s).mp leaves), retry⟩

/-- R165: two PRESENCE frames are never kept, and a leaving one only while the station is drained; for an event that adds
no PRESENCE. -/
theorem Sound.leaving_of_sublist {q : Prop} {s t : State} (h : Sound q s)
    (kept : (presencesKept t).Sublist (presencesKept s)) (leaves : ∃ f ∈ presencesKept t, leavingPresence f) :
    s.life.state = .leaving ∧ NoneHeld s.store ∧ s.air.regular = [] ∧ s.air.priority = [] ∧ s.exchange.table = [] := by
  obtain ⟨f, mem, leaving⟩ := leaves
  exact h.leaving ⟨f, kept.subset mem, leaving⟩

/-! ## The records between two loads -/

/-- From one directory to the next at an event that loads no record: the numbers stay, and valid records stay valid. -/
structure RecordsMove (d d' : List Subscriber) : Prop where
  numbers : d'.map (·.number) = d.map (·.number)
  valid : (∀ r ∈ d, RecordValid r) → ∀ r ∈ d', RecordValid r

theorem RecordsMove.refl (d : List Subscriber) : RecordsMove d d := ⟨rfl, id⟩

theorem RecordsMove.trans {a b c : List Subscriber} (h : RecordsMove a b) (g : RecordsMove b c) : RecordsMove a c :=
  ⟨g.numbers.trans h.numbers, g.valid ∘ h.valid⟩

theorem RecordsMove.length {d d' : List Subscriber} (h : RecordsMove d d') : d'.length = d.length := by
  simpa using congrArg List.length h.numbers

/-- R2 to R4: a sound directory stays sound. -/
theorem RecordsMove.sound {d d' : List Subscriber} (h : RecordsMove d d') (sound : DirectorySound d) :
    DirectorySound d' := by
  refine ⟨?_, h.valid sound.2⟩
  have ascending := List.pairwise_map.mpr sound.1
  rw [← h.numbers] at ascending
  exact List.pairwise_map.mp ascending

/-- A record of a directory with one record changed is an old one or the changed one. -/
theorem mem_modify {d : List Subscriber} {i : Nat} {f : Subscriber → Subscriber} {r : Subscriber}
    (h : r ∈ d.modify i f) : r ∈ d ∨ ∃ x, d[i]? = some x ∧ r = f x := by
  obtain ⟨j, at_⟩ := List.mem_iff_getElem?.mp h
  rw [List.getElem?_modify] at at_
  by_cases e : i = j
  · subst e
    cases old : d[i]? with
    | none => simp [old] at at_
    | some x => exact .inr ⟨x, rfl, by simpa [old] using at_.symm⟩
  · exact .inl (List.mem_iff_getElem?.mpr ⟨j, by simpa [e] using at_⟩)

/-- The change of one record that keeps its number and its validity. -/
theorem RecordsMove.modify {d : List Subscriber} {i : Nat} {f : Subscriber → Subscriber}
    (number : ∀ r, (f r).number = r.number) (valid : ∀ r, d[i]? = some r → RecordValid r → RecordValid (f r)) :
    RecordsMove d (d.modify i f) where
  numbers := by
    apply List.ext_getElem?
    intro j
    simp only [List.getElem?_map, List.getElem?_modify]
    cases d[j]? with
    | none => rfl
    | some r => by_cases e : i = j <;> simp [e, number]
  valid all r mem := by
    obtain old | ⟨x, at_, rfl⟩ := mem_modify mem
    · exact all r old
    · exact valid x at_ (all x (List.mem_of_getElem? at_))

/-! ## An event that loads nothing -/

/-- What an event that loads no plan, no range and no record keeps: the plans and the ranges as they are, the records
within their values, and the invariant. -/
structure Follows (s t : State) : Prop where
  plans : t.plans = s.plans
  ranges : t.ranges = s.ranges
  records : RecordsMove s.directory t.directory
  sound : ∀ q, Sound q s → Sound q t

theorem Follows.refl (s : State) : Follows s s := ⟨rfl, rfl, .refl _, fun _ h => h⟩

theorem Follows.trans {s t u : State} (h : Follows s t) (g : Follows t u) : Follows s u :=
  ⟨g.plans.trans h.plans, g.ranges.trans h.ranges, h.records.trans g.records, fun q i => g.sound q (h.sound q i)⟩

/-- A fold of effects each of which follows. -/
theorem follows_foldl {α : Type} {f : State → α → State} (h : ∀ s a, Follows s (f s a)) (xs : List α) (s : State) :
    Follows s (xs.foldl f s) := by
  induction xs generalizing s with
  | nil => exact .refl s
  | cons a xs ih => exact (h s a).trans (ih (f s a))

/-- An event that leaves plans, ranges and directory alone follows when it keeps the invariant. -/
theorem Follows.of_sound {s t : State} (plans : t.plans = s.plans) (ranges : t.ranges = s.ranges)
    (directory : t.directory = s.directory) (sound : ∀ q, Sound q s → Sound q t) : Follows s t :=
  ⟨plans, ranges, directory ▸ .refl _, sound⟩

end Sys2Proof.Machine
end

section
/-! What the operations of the bus controller and of the outstanding table keep (R140, R151 to R153, R158 to R160, R165). -/

namespace Sys2Proof.Machine

/-! ## A step on the bus -/

/-- What an operation of the bus keeps that adds no PRESENCE and no outstanding entry. -/
structure BusStep (s t : State) : Prop where
  outside : outsideBus t = outsideBus s
  answers : s.bus.answers.length ≤ 24 → t.bus.answers.length ≤ 24
  requests : s.bus.requests.length ≤ 32 → t.bus.requests.length ≤ 32
  reception : (∀ bytes ∈ s.bus.rx, RxFits bytes) → ∀ bytes ∈ t.bus.rx, RxFits bytes
  table : t.exchange.table.length ≤ s.exchange.table.length
  kept : (presencesKept t).Sublist (presencesKept s)

theorem BusStep.refl (s : State) : BusStep s s := ⟨rfl, id, id, id, le_refl _, .refl _⟩

theorem BusStep.trans {s t u : State} (h : BusStep s t) (g : BusStep t u) : BusStep s u where
  outside := g.outside.trans h.outside
  answers := g.answers ∘ h.answers
  requests := g.requests ∘ h.requests
  reception := g.reception ∘ h.reception
  table := g.table.trans h.table
  kept := g.kept.trans h.kept

/-- The blocks outside the bus and the Exchange Unit, one by one. -/
theorem eq_of_outsideBus {s t : State} (h : outsideBus t = outsideBus s) :
    t.tick = s.tick ∧ t.life = s.life ∧ t.plans = s.plans ∧ t.ranges = s.ranges ∧ t.directory = s.directory
      ∧ t.intake = s.intake ∧ t.store = s.store ∧ t.air = s.air ∧ t.matcher = s.matcher ∧ t.billing = s.billing := by
  simp only [outsideBus, Prod.mk.injEq] at h
  simp [h]

/-- A step on the bus keeps the invariant. -/
theorem BusStep.sound {s t : State} (h : BusStep s t) {q : Prop} (i : Sound q s) : Sound q t := by
  obtain ⟨tick, life, plans, ranges, directory, intake, store, air, matcher, billing⟩ := eq_of_outsideBus h.outside
  have empty : s.exchange.table = [] → t.exchange.table = [] := fun none => by simpa [none] using h.table
  exact
    { directory := directory ▸ i.directory
      ranges := ranges ▸ i.ranges
      billing := billing ▸ i.billing
      air := air ▸ i.air
      matcher := matcher ▸ i.matcher
      bus := ⟨h.answers i.bus.answers, h.requests i.bus.requests, h.reception i.bus.reception⟩
      table := h.table.trans i.table
      lines := fun k => by simpa only [lineAt, intake] using i.lines k
      queues := store ▸ i.queues
      live := by rw [directory, store]; exact i.live
      members := by rw [life, store]; exact i.members
      onePresence := h.kept.length_le.trans i.onePresence
      leaving := fun leaves => by
        obtain ⟨state, none, regular, priority, table⟩ := i.leaving_of_sublist h.kept leaves
        rw [life, store, air]
        exact ⟨state, none, regular, priority, empty table⟩
      retry := by rw [plans, tick, store]; exact i.retry }

/-- A step on the bus follows. -/
theorem BusStep.follows {s t : State} (h : BusStep s t) : Follows s t := by
  obtain ⟨-, -, plans, ranges, directory, -⟩ := eq_of_outsideBus h.outside
  exact .of_sound plans ranges directory fun _ => h.sound

/-- A change of the Exchange Unit that adds no entry. -/
theorem busStep_mapExchange {f : Exchange → Exchange} {s : State}
    (table : (f s.exchange).table.length ≤ s.exchange.table.length) : BusStep s (s.mapExchange f) :=
  ⟨rfl, id, id, id, table, .refl _⟩

/-- A change of the bus controller that leaves queues, reception and transmission alone. -/
theorem busStep_mapBus {f : Bus → Bus} {s : State} (answers : (f s.bus).answers = s.bus.answers)
    (requests : (f s.bus).requests = s.bus.requests) (waiting : (f s.bus).waiting = s.bus.waiting)
    (tx : (f s.bus).tx = s.bus.tx) (rx : (f s.bus).rx = s.bus.rx) : BusStep s (s.mapBus f) where
  outside := rfl
  answers := by simp [answers]
  requests := by simp [requests]
  reception := by simp [rx]
  table := le_refl _
  kept := by simp [presencesKept, keptRequests, requests, waiting, tx]

theorem busStep_mapBusCounts (f : BusCounts → BusCounts) (s : State) : BusStep s (mapBusCounts f s) :=
  busStep_mapBus rfl rfl rfl rfl rfl

theorem busStep_mapExchangeCounts (f : ExchangeCounts → ExchangeCounts) (s : State) :
    BusStep s (mapExchangeCounts f s) := busStep_mapExchange (le_refl _)

theorem busStep_setPresence (n : Nat) (p : Presence) (s : State) : BusStep s (setPresence n p s) := by
  unfold setPresence
  split
  · exact busStep_mapExchange (le_refl _)
  · exact .refl s

/-! ## The queues -/

/-- A request is in transmission whose removal was called for. -/
def removing : Transmission → Bool
  | .request _ true => true
  | _ => false

@[simp] theorem removing_idle : removing .idle = false := rfl
@[simp] theorem removing_breaking : removing .breaking = false := rfl
@[simp] theorem removing_answer (chars : List BusChar) (removed : Bool) : removing (.answer chars removed) = false := rfl
@[simp] theorem removing_request (chars : List BusChar) (removed : Bool) :
    removing (.request chars removed) = removed := by cases removed <;> rfl

/-- R153: the request frames kept, by what BUS_TX is doing. -/
def keptIn (b : Bus) : List Frame := (bif removing b.tx then b.requests.tail else b.requests) ++ b.waiting

theorem keptRequests_eq (s : State) : keptRequests s = keptIn s.bus := by
  unfold keptRequests keptIn
  cases s.bus.tx with
  | request chars removed => cases removed <;> rfl
  | idle => rfl
  | breaking => rfl
  | answer chars removed => rfl

theorem busStep_pushAnswer (f : Frame) (s : State) : BusStep s (pushAnswer f s) := by
  by_cases room : s.bus.answers.length < 24
  · rw [pushAnswer_room room]
    exact ⟨rfl, fun _ => by simp; omega, id, id, le_refl _, .refl _⟩
  · rw [pushAnswer_full (Nat.le_of_not_lt room)]
    exact ⟨rfl, id, id, id, le_refl _, .refl _⟩

theorem busStep_answerTo (k : FrameKind) (d : Nat) (q : Byte) (p : List Byte) (s : State) :
    BusStep s (answerTo k d q p s) := busStep_pushAnswer _ s

/-- R153: the answers that a removal leaves. -/
theorem busStep_removeAnswers (drop : Frame → Bool) (s : State) : BusStep s (removeAnswers drop s) := by
  obtain ⟨answers, same, kept⟩ : (removeAnswers drop s).bus.answers.length ≤ s.bus.answers.length
      ∧ ((removeAnswers drop s).bus.requests = s.bus.requests ∧ (removeAnswers drop s).bus.rx = s.bus.rx)
      ∧ keptRequests (removeAnswers drop s) = keptRequests s := by
    simp only [removeAnswers, keptRequests, State.mapBus_bus]
    split
    · next tx eq => simp [tx, eq, List.length_filter_le]
    · simp [List.length_filter_le]
  exact ⟨rfl, answers.trans, by rw [same.1]; exact id, by rw [same.2]; exact id, le_refl _,
    by rw [presencesKept, presencesKept, kept]⟩

/-- R152: a refill keeps every frame in its order. -/
theorem kept_refill (s : State) : (keptRequests (refill s)).Sublist (keptRequests s) := by
  generalize n : Config.requestQueueSize - s.bus.requests.length = free
  have requests : (refill s).bus.requests = s.bus.requests ++ s.bus.waiting.take free := by simp [refill, n]
  have waiting : (refill s).bus.waiting = s.bus.waiting.drop free := by simp [refill, n]
  have tx : (refill s).bus.tx = s.bus.tx := rfl
  rw [keptRequests_eq, keptRequests_eq, keptIn, keptIn, requests, waiting, tx]
  cases removing s.bus.tx
  · simp
  · cases s.bus.requests with
    | nil =>
      calc ((s.bus.waiting.take free).tail ++ s.bus.waiting.drop free).Sublist
            (s.bus.waiting.take free ++ s.bus.waiting.drop free) := (List.tail_sublist _).append_right _
        _ = [] ++ s.bus.waiting := by simp
    | cons head rest => simp

theorem busStep_refill (s : State) : BusStep s (refill s) where
  outside := rfl
  answers := id
  requests h := by
    simp only [refill, State.mapExchange_bus, State.mapBus_bus, List.length_append, List.length_take,
      Config.requestQueueSize]
    omega
  reception := id
  table := by simp [refill]
  kept := (kept_refill s).filter _

/-- R153: request frames are removed, and one in transmission is marked; what is left before the refill. -/
def dropRequests (drop : Frame → Bool) (b : Bus) : Bus :=
  match b.tx, b.requests with
  | .request chars removed, head :: rest =>
    { b with requests := head :: rest.filter (fun f => !drop f), waiting := b.waiting.filter (fun f => !drop f),
             tx := .request chars (removed || drop head) }
  | _, _ =>
    { b with requests := b.requests.filter (fun f => !drop f), waiting := b.waiting.filter fun f => !drop f }

theorem removeRequests_eq (drop : Frame → Bool) (s : State) :
    removeRequests drop s = refill (s.mapBus (dropRequests drop)) := rfl

/-- R153: a removal keeps only request frames that are not dropped. -/
theorem kept_dropRequests (drop : Frame → Bool) (b : Bus) :
    (keptIn (dropRequests drop b)).Sublist ((keptIn b).filter fun f => !drop f) := by
  unfold dropRequests
  split
  · next chars removed head rest tx requests =>
    cases removed <;> cases dropped : drop head <;> simp [keptIn, tx, requests, dropped]
  · unfold keptIn
    cases removing b.tx
    · simp
    · cases b.requests with
      | nil => simp
      | cons head rest => cases dropped : drop head <;> simp [dropped, List.tail_sublist]

theorem busStep_dropRequests (drop : Frame → Bool) (s : State) : BusStep s (s.mapBus (dropRequests drop)) := by
  obtain ⟨answers, rx, requests⟩ : (dropRequests drop s.bus).answers = s.bus.answers
      ∧ (dropRequests drop s.bus).rx = s.bus.rx
      ∧ (dropRequests drop s.bus).requests.length ≤ s.bus.requests.length := by
    unfold dropRequests
    split
    · next eq => simp [eq, List.length_filter_le]
    · simp [List.length_filter_le]
  refine ⟨rfl, by simp [answers], requests.trans, by simp [rx], le_refl _, ?_⟩
  rw [presencesKept, presencesKept, keptRequests_eq, keptRequests_eq]
  exact ((kept_dropRequests drop s.bus).trans List.filter_sublist).filter _

theorem busStep_removeRequests (drop : Frame → Bool) (s : State) : BusStep s (removeRequests drop s) :=
  (busStep_dropRequests drop s).trans (busStep_refill _)

/-- R165: once every PRESENCE is removed, none is kept. -/
theorem presencesKept_removed (s : State) : presencesKept (removeRequests (fun f => f.kind == .presence) s) = [] := by
  have kept := kept_refill (s.mapBus (dropRequests fun f => f.kind == .presence))
  rw [keptRequests_eq (s.mapBus _)] at kept
  have kept := kept.trans (kept_dropRequests (fun f => f.kind == .presence) s.bus)
  refine List.filter_eq_nil_iff.mpr fun f mem => ?_
  simpa using (List.mem_filter.mp (kept.subset mem)).2

/-- A frame put at the tail of the queue, or of those waiting, stands among the frames kept. -/
theorem kept_pushRequest (f : Frame) (s : State) : ∃ xs ys, keptRequests s = xs ++ ys ∧
    (keptRequests (s.mapBus fun b => { b with requests := b.requests ++ [f] })).Sublist (xs ++ f :: ys) := by
  rw [keptRequests_eq, keptRequests_eq]
  refine ⟨_, _, rfl, ?_⟩
  simp only [State.mapBus_bus, keptIn]
  cases removing s.bus.tx
  · simp
  · cases s.bus.requests <;> simp

theorem kept_pushWaiting (f : Frame) (s : State) :
    keptRequests (s.mapBus fun b => { b with waiting := b.waiting ++ [f] }) = keptRequests s ++ [f] := by
  rw [keptRequests_eq, keptRequests_eq]
  exact (List.append_assoc _ _ _).symm

theorem kept_joinRequests (f : Frame) (s : State) : ∃ xs ys, keptRequests s = xs ++ ys ∧
    (keptRequests (joinRequests f s)).Sublist (xs ++ f :: ys) := by
  unfold joinRequests
  split
  · exact kept_pushRequest f s
  · exact ⟨keptRequests s, [], by simp, by rw [kept_pushWaiting]⟩

/-- A frame that is no PRESENCE adds none. -/
theorem presences_of_insert {s t : State} {f : Frame} (kind : f.kind ≠ .presence)
    (h : ∃ xs ys, keptRequests s = xs ++ ys ∧ (keptRequests t).Sublist (xs ++ f :: ys)) :
    (presencesKept t).Sublist (presencesKept s) := by
  obtain ⟨xs, ys, eq, sub⟩ := h
  have := sub.filter fun f => f.kind == .presence
  simpa [presencesKept, eq, kind] using this

/-- R152: a frame that is no PRESENCE joins the request queue or waits. -/
theorem busStep_joinRequests {f : Frame} (kind : f.kind ≠ .presence) (s : State) : BusStep s (joinRequests f s) where
  outside := outsideBus_joinRequests f s
  answers h := by rw [joinRequests_eq]; split <;> exact h
  requests h := by
    rw [joinRequests_eq]
    split
    · next room => simp only [List.length_append, List.length_singleton]; omega
    · exact h
  reception h := by rw [joinRequests_eq]; split <;> exact h
  table := by rw [joinRequests_eq]; split <;> exact le_refl _
  kept := presences_of_insert kind (kept_joinRequests f s)

/-! ## The outstanding table -/

theorem busStep_mapEntry (key : EntryKey) (f : Outstanding → Outstanding) (s : State) : BusStep s (mapEntry key f s) :=
  busStep_mapExchange (by simp)

theorem busStep_takeSequence (peer : Nat) (kind : EntryKind) (s : State) : BusStep s (takeSequence peer kind s) := by
  unfold takeSequence
  exact busStep_mapExchange (le_refl _)

theorem busStep_freeEntry (key : EntryKey) (s : State) : BusStep s (freeEntry key s) :=
  (busStep_mapExchange (f := fun x => { x with table := x.table.filter fun e => e.key != key })
    (List.length_filter_le _ _)).trans (busStep_removeRequests _ _)

/-- The frame of an outstanding entry is no PRESENCE. -/
theorem frameKindOf_ne_presence (kind : EntryKind) : frameKindOf kind ≠ .presence := by cases kind <;> simp [frameKindOf]

theorem busStep_convertEntry (key : EntryKey) (kind : EntryKind) (payload : List Byte) (s : State) :
    BusStep s (convertEntry key kind payload s) := by
  unfold convertEntry
  split
  · exact .refl s
  · exact (((busStep_takeSequence _ _ s).trans (busStep_removeRequests _ _)).trans (busStep_mapEntry _ _ _)).trans
      (busStep_joinRequests (frameKindOf_ne_presence kind) _)

theorem busStep_freeZoneEntry (k : Fin 256) (zone : Nat) (s : State) : BusStep s (freeZoneEntry k zone s) := by
  unfold freeZoneEntry
  split
  · exact busStep_freeEntry _ s
  · exact .refl s

/-- R33, R50: a claimed entry has room in the queue and in the table, and a station that claims is not drained. -/
theorem follows_claimEntry {peer : Nat} {kind : EntryKind} {owner : Owner} {payload : List Byte} {s : State}
    (room : s.bus.requests.length < 32) (free : s.exchange.table.length < 96)
    (busy : s.life.state = .leaving → ¬ NoneHeld s.store) : Follows s (claimEntry peer kind owner payload s) := by
  refine .of_sound rfl rfl rfl fun q i => ?_
  have kept : (presencesKept (claimEntry peer kind owner payload s)).Sublist (presencesKept s) :=
    presences_of_insert (frameKindOf_ne_presence kind)
      (kept_pushRequest (frameFrom s (frameKindOf kind) peer (nextSequence s peer kind).1 payload) s)
  exact
    { i with
      bus := ⟨i.bus.answers, by simp [claimEntry, takeSequence]; omega, i.bus.reception⟩
      table := by simp [claimEntry, takeSequence]; omega
      onePresence := kept.length_le.trans i.onePresence
      leaving := fun leaves => by
        obtain ⟨state, none, -⟩ := i.leaving_of_sublist kept leaves
        exact absurd none (busy state) }

/-! ## This station's PRESENCE -/

/-- The leaving flag of a PRESENCE. -/
theorem presenceFlags_leaving : ∀ airing fresh leaving : Bool,
    (BitVec.ofNat 8 (flag airing + 2 * flag fresh + 4 * flag leaving)).getLsbD 2 = leaving := by decide

/-- A PRESENCE of this station is a leaving one by its flag. -/
theorem leavingPresence_frame {s : State} {b : PresenceBody}
    (h : leavingPresence (frameFrom s .presence 0 0 (presencePayload b))) : b.leaving = true := by
  obtain ⟨-, st, fl, payload, bit⟩ := h
  simp only [frameFrom, presencePayload, List.cons.injEq, and_true] at payload
  rwa [← payload.2, presenceFlags_leaving] at bit

/-- The drain condition, as the invariant has it. -/
def LeftEmpty (s : State) : Prop :=
  s.life.state = .leaving ∧ NoneHeld s.store ∧ s.air.regular = [] ∧ s.air.priority = [] ∧ s.exchange.table = []

/-- R165: with none kept, a PRESENCE joins; a leaving one in a drained station only. -/
theorem follows_joinPresence {b : PresenceBody} {s : State} {f : Frame}
    (frame : ∃ u, f = frameFrom u .presence 0 0 (presencePayload b)) (none : presencesKept s = [])
    (drained : b.leaving = true → LeftEmpty s) : Follows s (joinRequests f s) := by
  obtain ⟨u, eq⟩ := frame
  obtain ⟨xs, ys, all, sub⟩ := kept_joinRequests f s
  have kept : (presencesKept (joinRequests f s)).Sublist [f] := by
    have nothing : (xs ++ ys).filter (fun f => f.kind == .presence) = [] := by rw [← all]; exact none
    obtain ⟨nox, noy⟩ := List.append_eq_nil_iff.mp ((List.filter_append ..).symm.trans nothing)
    have := sub.filter fun f => f.kind == .presence
    rw [List.filter_append, List.filter_cons_of_pos (by simp [eq, frameFrom]), nox, noy] at this
    exact this
  obtain ⟨tick, life, plans, ranges, directory, intake, store, air, matcher, billing⟩ :=
    eq_of_outsideBus (outsideBus_joinRequests f s)
  have table : (joinRequests f s).exchange = s.exchange := by unfold joinRequests; split <;> rfl
  have queue : s.bus.requests.length ≤ 32 → (joinRequests f s).bus.requests.length ≤ 32 := by
    intro h
    rw [joinRequests_eq]
    split
    · next room => simp only [List.length_append, List.length_singleton]; omega
    · exact h
  have rest : (joinRequests f s).bus.answers = s.bus.answers ∧ (joinRequests f s).bus.rx = s.bus.rx := by
    rw [joinRequests_eq]; split <;> exact ⟨rfl, rfl⟩
  refine .of_sound plans ranges directory fun q i => ?_
  exact
    { directory := directory ▸ i.directory
      ranges := ranges ▸ i.ranges
      billing := billing ▸ i.billing
      air := air ▸ i.air
      matcher := matcher ▸ i.matcher
      bus := ⟨by rw [rest.1]; exact i.bus.answers, queue i.bus.requests, by rw [rest.2]; exact i.bus.reception⟩
      table := by rw [table]; exact i.table
      lines := fun k => by simpa only [lineAt, intake] using i.lines k
      queues := store ▸ i.queues
      live := by rw [directory, store]; exact i.live
      members := by rw [life, store]; exact i.members
      onePresence := kept.length_le
      leaving := fun ⟨g, mem, leaves⟩ => by
        have same : g = f := by simpa using kept.subset mem
        rw [life, store, air, table]
        exact drained (leavingPresence_frame (by rw [← eq, ← same]; exact leaves))
      retry := by rw [plans, tick, store]; exact i.retry }

/-- Removing request frames leaves the drain condition alone. -/
theorem LeftEmpty.busStep {s t : State} (h : LeftEmpty s) (step : BusStep s t) : LeftEmpty t := by
  obtain ⟨-, life, -, -, -, -, store, air, -⟩ := eq_of_outsideBus step.outside
  obtain ⟨state, none, regular, priority, table⟩ := h
  exact ⟨life ▸ state, store ▸ none, by rw [air, regular], by rw [air, priority],
    by simpa [table] using step.table⟩

/-- R165: making a PRESENCE; a leaving one is made in a drained station only. -/
theorem follows_makePresence {b : PresenceBody} {s : State} (drained : b.leaving = true → LeftEmpty s) :
    Follows s (makePresence b s) := by
  unfold makePresence
  dsimp only
  split
  · next none =>
    refine follows_joinPresence ⟨s, rfl⟩ (List.filter_eq_nil_iff.mpr ?_) drained
    simpa [ownPresence] using none
  · split
    · exact .refl s
    · have removed := busStep_removeRequests (fun f => f.kind == .presence) s
      exact removed.follows.trans (follows_joinPresence ⟨s, rfl⟩ (presencesKept_removed s)
        fun leaving => (drained leaving).busStep removed)

theorem follows_ordinaryPresence (s : State) : Follows s (ordinaryPresence s) :=
  follows_makePresence fun h => by simp at h

/-- R168: the drain condition holds. -/
theorem leftEmpty_of_drained {s : State} (state : s.life.state = .leaving) (h : drained s = true) : LeftEmpty s := by
  simp only [drained, airEmpty, Bool.and_eq_true, List.isEmpty_iff, List.all_eq_true, Vector.mem_toList_iff,
    Option.isNone_iff_eq_none] at h
  obtain ⟨⟨none, regular, priority⟩, table⟩ := h
  exact ⟨state, fun k => none _ (Vector.getElem_mem _), regular, priority, table⟩

theorem follows_announceLeaving {s : State} (state : s.life.state = .leaving) (h : drained s = true) :
    Follows s (announceLeaving s) :=
  (busStep_mapExchange (f := fun x => { x with leaveMade := true }) (le_refl _)).follows.trans
    (follows_makePresence fun _ => leftEmpty_of_drained state h)

end Sys2Proof.Machine
end

section
/-! What the primitive changes of the Page Store, its queues and the directory keep (R15, R41 to R47, R105 to R108). -/

namespace Sys2Proof.Machine

/-! ## Changes of one block -/

theorem follows_mapPort (f : Port → Port) (s : State) : Follows s (s.mapPort f) :=
  .of_sound rfl rfl rfl fun _ i => { i with }

theorem follows_mapPins (f : Pins → Pins) (s : State) : Follows s (s.mapPins f) :=
  .of_sound rfl rfl rfl fun _ i => { i with }

theorem follows_withOffpeak (level : Bool) (s : State) : Follows s (withOffpeak level s) := follows_mapPins _ s

theorem follows_mapBilling {f : Billing → Billing} {s : State}
    (queue : s.billing.queue.length ≤ 128 → (f s.billing).queue.length ≤ 128) : Follows s (s.mapBilling f) :=
  .of_sound rfl rfl rfl fun _ i => { i with billing := queue i.billing }

theorem follows_mapMatcher {f : Matcher → Matcher} {s : State}
    (fits : MatcherFits s.matcher → MatcherFits (f s.matcher)) : Follows s (s.mapMatcher f) :=
  .of_sound rfl rfl rfl fun _ i => { i with matcher := fits i.matcher }

theorem follows_mapMatcherCounts (f : MatcherCounts → MatcherCounts) (s : State) : Follows s (mapMatcherCounts f s) :=
  follows_mapMatcher fun i => ⟨i.fifo, i.run⟩

/-- What an operation of the Air Scheduler keeps that admits no request. -/
structure AirStep (a a' : Air) : Prop where
  regular : a'.regular.length ≤ a.regular.length
  priority : a'.priority.length ≤ a.priority.length
  cells : (∀ y ∈ a.cycle, y.cells.length ≤ 8) → ∀ y ∈ a'.cycle, y.cells.length ≤ 8

theorem follows_mapAir {f : Air → Air} {s : State} (step : AirStep s.air (f s.air)) : Follows s (s.mapAir f) :=
  .of_sound rfl rfl rfl fun _ i =>
    { i with
      air := ⟨step.regular.trans i.air.regular, step.priority.trans i.air.priority, step.cells i.air.cells⟩
      leaving := fun leaves => by
        obtain ⟨state, none, regular, priority, table⟩ := i.leaving leaves
        exact ⟨state, none, by simpa [regular] using step.regular, by simpa [priority] using step.priority, table⟩ }

theorem follows_mapAirCounts (f : AirCounts → AirCounts) (s : State) : Follows s (mapAirCounts f s) :=
  follows_mapAir ⟨le_refl _, le_refl _, id⟩

theorem follows_mapIntakeCounts (f : IntakeCounts → IntakeCounts) (s : State) : Follows s (mapIntakeCounts f s) :=
  .of_sound rfl rfl rfl fun _ i => { i with }

/-- A line within its sizes may take the place of a line. -/
theorem follows_setLine {k : Fin 8} {l : Line} {s : State} (fits : LineFits (lineAt s k) → LineFits l) :
    Follows s (setLine k l s) := by
  refine .of_sound rfl rfl rfl fun _ i => { i with lines := fun j => ?_ }
  by_cases e : j = k
  · rw [e, lineAt_setLine]
    exact fits (i.lines k)
  · rw [lineAt_setLine_ne e]
    exact i.lines j

theorem follows_mapLine {k : Fin 8} {f : Line → Line} {s : State}
    (fits : LineFits (lineAt s k) → LineFits (f (lineAt s k))) : Follows s (mapLine k f s) := follows_setLine fits

/-! ## Billing records -/

theorem follows_produceRecord (r : BillingRecord) (s : State) : Follows s (produceRecord r s) := by
  unfold produceRecord
  dsimp only
  split
  · next room =>
    refine follows_mapBilling fun _ => ?_
    simp only [Config.billingQueueSize] at room
    simp only [List.length_append, List.length_singleton]
    omega
  · exact (follows_mapBilling (f := fun b => { b with seq := b.seq + 1, lost := raise b.lost }) id).trans
      (follows_mapPort _ _)

theorem follows_produceFor (i : Nat) (fill : Subscriber → BillingRecord) (s : State) :
    Follows s (produceFor i fill s) := by
  unfold produceFor
  split
  · exact follows_produceRecord _ s
  · exact .refl s

/-! ## Records -/

/-- What a change of a record keeps that is no acceptance and no end of a delivery. -/
structure RecordStep (f : Subscriber → Subscriber) : Prop where
  number : ∀ r, (f r).number = r.number
  live : ∀ r, (f r).live = r.live
  valid : ∀ r, RecordValid r → RecordValid (f r)

/-- R15: the live counts go on being those of the deliveries held. -/
theorem LiveSound.modify {d : List Subscriber} {p : PageStore} (h : LiveSound d p) {i : Nat}
    {f : Subscriber → Subscriber} (live : ∀ r, (f r).live = r.live) : LiveSound (d.modify i f) p where
  owned k x held := by simpa using h.owned k x held
  live j r at_ := by
    rw [List.getElem?_modify] at at_
    cases old : d[j]? with
    | none => simp [old] at at_
    | some x =>
      have count := h.live j x old
      by_cases e : i = j
      · have : f x = r := by simpa [old, e] using at_
        rw [← this, live, count]
      · have : x = r := by simpa [old, e] using at_
        rw [← this, count]

theorem follows_modifyRecord {i : Nat} {f : Subscriber → Subscriber} (step : RecordStep f) (s : State) :
    Follows s (modifyRecord i f s) where
  plans := rfl
  ranges := rfl
  records := .modify step.number fun r _ => step.valid r
  sound _ h := { h with
    directory := by simpa [modifyRecord] using h.directory
    live := h.live.modify step.live }

/-! ## Slots -/

/-- One, when the delivery is one of the subscriber at an index. -/
def ownedBy (i : Nat) (x : Option Delivery) : Nat := if x.any (fun d => d.subscriber == i) then 1 else 0

/-- From one Page Store to the next, the content of one slot is replaced. -/
structure SlotPut (k : Fin 256) (x : Option Delivery) (p p' : PageStore) : Prop where
  here : heldIn p' k = x
  others : ∀ j, j ≠ k → heldIn p' j = heldIn p j
  count : ∀ i, heldCount p' i + ownedBy i (heldIn p k) = heldCount p i + ownedBy i x

/-- The deliveries held for a subscriber, counted slot by slot. -/
theorem heldCount_eq (p : PageStore) (i : Nat) :
    heldCount p i = p.slots.toList.countP fun x => x.held.any fun d => d.subscriber == i := by
  rw [heldCount, List.countP_filterMap]
  congr 1
  funext x
  cases x.held <;> simp

theorem slotPut_of_set {p p' : PageStore} {k : Fin 256} {x : Slot} (h : p'.slots = p.slots.set k.val x) :
    SlotPut k x.held p p' where
  here := by simp [heldIn, h]
  others j ne := by
    have : k.val ≠ j.val := fun e => ne (Fin.ext e.symm)
    simp [heldIn, h, this]
  count i := by
    rw [heldCount_eq, heldCount_eq, h, Vector.toList_set, List.countP_set (by simp)]
    have bound : ownedBy i (heldIn p k) ≤ p.slots.toList.countP fun x => x.held.any fun d => d.subscriber == i := by
      unfold ownedBy
      split
      · next owned => exact List.countP_pos_iff.mpr ⟨p.slots[k.val], by simp, owned⟩
      · exact Nat.zero_le _
    have old : (if (p.slots.toList[k.val]'(by simp)).held.any (fun d => d.subscriber == i) then 1 else 0)
        = ownedBy i (heldIn p k) := by
      simp only [Vector.getElem_toList]
      rfl
    rw [old]
    simp only [ownedBy] at bound ⊢
    omega

variable {k : Fin 256} {x : Option Delivery} {p p' : PageStore}

/-- R47, R106: the queues after one slot is replaced. -/
theorem QueuesSound.put (h : QueuesSound p) (put : SlotPut k x p p') (issueOnce : p'.issue.Nodup)
    (retryOnce : p'.retry.Nodup) (issueOthers : ∀ j, j ≠ k → (j ∈ p'.issue ↔ j ∈ p.issue))
    (retryOthers : ∀ j, j ≠ k → (j ∈ p'.retry ↔ j ∈ p.retry))
    (issueHere : k ∈ p'.issue ↔ ∃ d, x = some d ∧ d.state = .issuing)
    (retryHere : k ∈ p'.retry ↔ ∃ d, x = some d ∧ d.state = .retryWait) : QueuesSound p' where
  issueOnce := issueOnce
  retryOnce := retryOnce
  issuing j := by
    by_cases e : j = k
    · rw [e, put.here]; exact issueHere
    · rw [put.others j e, issueOthers j e]; exact h.issuing j
  waiting j := by
    by_cases e : j = k
    · rw [e, put.here]; exact retryHere
    · rw [put.others j e, retryOthers j e]; exact h.waiting j

/-- R15: a slot whose delivery stays with its subscriber. -/
theorem LiveSound.put {d : List Subscriber} (h : LiveSound d p) (put : SlotPut k x p p')
    (same : x.map (·.subscriber) = (heldIn p k).map (·.subscriber)) : LiveSound d p' where
  owned j y held := by
    by_cases e : j = k
    · rw [e, put.here] at held
      rw [held] at same
      obtain ⟨z, old, eq⟩ := Option.map_eq_some_iff.mp same.symm
      exact lt_of_eq_of_lt eq.symm (h.owned k z old)
    · exact h.owned j y (put.others j e ▸ held)
  live i r at_ := by
    have owners : ∀ y : Option Delivery, ownedBy i y = if (y.map (·.subscriber)).any (· == i) then 1 else 0 := by
      intro y; cases y <;> rfl
    have count := put.count i
    rw [owners, owners, same] at count
    rw [h.live i r at_]
    omega

/-- R106: fewer deliveries that wait, with the same due ticks. -/
theorem RetrySound.sublist {plans : Vector Plan 16} {now : Tick} (h : RetrySound plans now p)
    (fewer : p'.retry.Sublist p.retry) (due : ∀ j ∈ p'.retry, dueIn p' j = dueIn p j) : RetrySound plans now p' where
  caps := h.caps
  near j mem := by rw [due j mem]; exact h.near j (fewer.subset mem)
  order := by
    refine (h.order.sublist fewer).imp_of_mem fun {a b} ma mb before => ?_
    simpa only [comesBefore, due a ma, due b mb] using before

/-- The due tick of another slot. -/
theorem SlotPut.due (put : SlotPut k x p p') {j : Fin 256} (ne : j ≠ k) : dueIn p' j = dueIn p j := by
  rw [dueIn, dueIn, put.others j ne]

/-- A delivery held keeps a Page Store from being empty. -/
theorem not_noneHeld {d : Delivery} (held : heldIn p k = some d) : ¬ NoneHeld p := fun none => by
  simp [none k] at held

/-- What a change of the Page Store has to keep. -/
theorem follows_of_store {s t : State} (rest : t = { s with store := t.store })
    (none : NoneHeld s.store → NoneHeld t.store)
    (store : ∀ q, Sound q s → QueuesSound t.store ∧ LiveSound s.directory t.store
      ∧ (q → RetrySound s.plans s.tick t.store)) : Follows s t := by
  refine .of_sound (by rw [rest]) (by rw [rest]) (by rw [rest]) fun q h => ?_
  obtain ⟨queues, live, retry⟩ := store q h
  rw [rest]
  exact
    { h with
      queues := queues
      live := live
      members := fun onBus leaving => none (h.members onBus leaving)
      leaving := fun leaves => by
        obtain ⟨state, empty, rest⟩ := h.leaving leaves
        exact ⟨state, none empty, rest⟩
      retry := retry }

/-! ## A delivery in its place -/

/-- A change of a delivery that leaves its owner, its due tick and its place in a queue alone. -/
structure KeepsPlace (d d' : Delivery) : Prop where
  subscriber : d'.subscriber = d.subscriber
  due : d'.due = d.due
  issuing : d'.state = .issuing ↔ d.state = .issuing
  waiting : d'.state = .retryWait ↔ d.state = .retryWait

/-- The same state, owner and due tick. -/
theorem KeepsPlace.of_eq {d d' : Delivery} (subscriber : d'.subscriber = d.subscriber) (due : d'.due = d.due)
    (state : d'.state = d.state) : KeepsPlace d d' := ⟨subscriber, due, by rw [state], by rw [state]⟩

theorem follows_mapDelivery {f : Delivery → Delivery} {s : State}
    (keeps : ∀ d, deliveryAt s k = some d → KeepsPlace d (f d)) : Follows s (mapDelivery k f s) := by
  have put : SlotPut k ((heldIn s.store k).map f) s.store (mapDelivery k f s).store :=
    slotPut_of_set (x := { slotAt s k with held := (deliveryAt s k).map f }) rfl
  have state : ∀ a : DeliveryState, (∀ d, deliveryAt s k = some d → ((f d).state = a ↔ d.state = a)) →
      ((∃ d, heldIn s.store k = some d ∧ d.state = a) ↔ ∃ d, (heldIn s.store k).map f = some d ∧ d.state = a) := by
    intro a same
    cases held : heldIn s.store k with
    | none => simp
    | some d => simp [same d held]
  refine follows_of_store rfl (fun none j => ?_) fun q i => ⟨?_, ?_, fun h => ?_⟩
  · by_cases e : j = k
    · rw [e]; exact put.here.trans (by simp [none k])
    · exact (put.others j e).trans (none j)
  · exact i.queues.put put i.queues.issueOnce i.queues.retryOnce (fun _ _ => Iff.rfl) (fun _ _ => Iff.rfl)
      ((i.queues.issuing k).trans (state _ fun d held => (keeps d held).issuing))
      ((i.queues.waiting k).trans (state _ fun d held => (keeps d held).waiting))
  · refine i.live.put put ?_
    cases held : heldIn s.store k with
    | none => rfl
    | some d => simp [(keeps d held).subscriber]
  · refine (i.retry h).sublist (.refl _) fun j _ => ?_
    by_cases e : j = k
    · rw [e, dueIn, put.here, dueIn]
      cases held : heldIn s.store k with
      | none => rfl
      | some d => simp [(keeps d held).due]
    · exact put.due e

theorem follows_mapAttempt (k : Fin 256) (f : Attempt → Attempt) (s : State) : Follows s (mapAttempt k f s) :=
  follows_mapDelivery fun _ _ => .of_eq rfl rfl rfl

theorem follows_setZone (k : Fin 256) (z : Nat) (st : ZoneState) (s : State) : Follows s (setZone k z st s) :=
  follows_mapAttempt k _ s

/-! ## The end of a delivery (R42, R63) -/

/-- R15: a delivery less, and a live count less. -/
theorem LiveSound.ended {d : List Subscriber} (h : LiveSound d p) {y : Delivery} (held : heldIn p k = some y)
    (put : SlotPut k none p p') {f : Subscriber → Subscriber} (less : ∀ r, (f r).live = r.live - 1) :
    LiveSound (d.modify y.subscriber f) p' where
  owned j z now := by
    by_cases e : j = k
    · rw [e, put.here] at now; simp at now
    · simpa using h.owned j z (put.others j e ▸ now)
  live i r at_ := by
    have count := put.count i
    rw [List.getElem?_modify] at at_
    cases old : d[i]? with
    | none => simp [old] at at_
    | some x =>
      have live := h.live i x old
      by_cases e : y.subscriber = i
      · have : f x = r := by simpa [old, e] using at_
        simp [ownedBy, held, e] at count
        rw [← this, less, live]
        omega
      · have : x = r := by simpa [old, e] using at_
        simp [ownedBy, held, e] at count
        rw [← this, live, count]

/-- R63: the slot is freed and the live count lowered. -/
theorem follows_freeSlot {d : Delivery} {s : State} (held : deliveryAt s k = some d) (o : Terminal) :
    Follows s (freeSlot k (modifyRecord d.subscriber (endCounts o) s)) := by
  generalize eq : freeSlot k (modifyRecord d.subscriber (endCounts o) s) = t
  have put : SlotPut k none s.store t.store := slotPut_of_set (x := { gen := (slotAt s k).gen + 1, held := none }) (by rw [← eq]; rfl)
  have issue : t.store.issue = s.store.issue.filter fun j => j != k := by rw [← eq]; rfl
  have retry : t.store.retry = s.store.retry.filter fun j => j != k := by rw [← eq]; rfl
  have directory : t.directory = s.directory.modify d.subscriber (endCounts o) := by rw [← eq]; rfl
  have rest : t = { s with store := t.store, directory := t.directory } := by rw [← eq]; rfl
  have valid : ∀ r, RecordValid r → RecordValid (endCounts o r) := by
    rintro r ⟨number, address, zones, total, usage, accepted, missed, live⟩
    refine ⟨number, address, zones, total, usage, accepted, ?_, ?_⟩
    · simp only [endCounts, raise]; split <;> omega
    · simp only [endCounts]; omega
  refine ⟨by rw [rest], by rw [rest], directory ▸ .modify (fun _ => rfl) fun r _ => valid r, fun q i => ?_⟩
  have queues : QueuesSound t.store :=
    i.queues.put put (issue ▸ i.queues.issueOnce.filter _) (retry ▸ i.queues.retryOnce.filter _)
      (fun j ne => by simp [issue, ne]) (fun j ne => by simp [retry, ne]) (by simp [issue]) (by simp [retry])
  have live : LiveSound t.directory t.store := directory ▸ i.live.ended held put fun _ => rfl
  have sound : q → RetrySound s.plans s.tick t.store := fun h =>
    (i.retry h).sublist (retry ▸ List.filter_sublist) fun j mem => put.due (by
      rw [retry] at mem
      simpa using (List.mem_filter.mp mem).2)
  rw [rest]
  exact
    { i with
      directory := by simpa [directory] using i.directory
      queues := queues
      live := live
      members := fun onBus leaving => absurd (i.members onBus leaving) (not_noneHeld held)
      leaving := fun leaves => absurd (i.leaving leaves).2.1 (not_noneHeld held)
      retry := sound }

end Sys2Proof.Machine
end

section
/-! The four ways into and between the queues of the Page Store: an acceptance (R14), an issue (R50), the wait for a
retry with its place in the Retry Queue (R105 to R107), and a release (R108). -/

namespace Sys2Proof.Machine

/-! ## The order of the Retry Queue (R106) -/

/-- Near now, due ticks differ by what they differ from now. -/
theorem toInt_sub_of_near {now a b : Tick} (ha : Near now a) (hb : Near now b) :
    (a - b).toInt = (a - now).toInt - (b - now).toInt := by
  have split : a - b = (a - now) - (b - now) := by simp
  obtain ⟨la, ua⟩ := ha
  obtain ⟨lb, ub⟩ := hb
  rw [split, BitVec.toInt_sub]
  exact Int.bmod_eq_of_le (by omega) (by omega)

/-- Near now, the order is that of the distances from now, then of the slot numbers. -/
theorem comesBefore_iff {now : Tick} {due : Fin 256 → Tick} {a b : Fin 256} (ha : Near now (due a))
    (hb : Near now (due b)) : comesBefore due a b ↔ (due a - now).toInt < (due b - now).toInt
      ∨ ((due a - now).toInt = (due b - now).toInt ∧ a < b) := by
  have same : due a = due b ↔ (due a - now).toInt = (due b - now).toInt := by
    rw [BitVec.toInt_inj]
    simp
  rw [comesBefore, toInt_sub_of_near ha hb, same]
  omega

/-- R107: the place is before a delivery exactly when the one inserted comes first. -/
theorem insertsBefore_iff (due : Fin 256 → Tick) (k j : Fin 256) :
    (earlier (due k) (due j) || (due k == due j && decide (k.val < j.val))) = true ↔ comesBefore due k j := by
  simp [earlier, comesBefore, BitVec.msb_eq_toInt]

theorem mem_insertRetry {due : Fin 256 → Tick} {k j : Fin 256} {l : List (Fin 256)} :
    j ∈ insertRetry due k l ↔ j = k ∨ j ∈ l := by
  induction l with
  | nil => simp [insertRetry]
  | cons a l ih =>
    unfold insertRetry
    split
    · simp
    · simp only [List.mem_cons, ih]
      tauto

theorem nodup_insertRetry {due : Fin 256 → Tick} {k : Fin 256} {l : List (Fin 256)} (new : k ∉ l) (once : l.Nodup) :
    (insertRetry due k l).Nodup := by
  induction l with
  | nil => simp [insertRetry]
  | cons a l ih =>
    unfold insertRetry
    obtain ⟨nota, once⟩ := List.nodup_cons.mp once
    obtain ⟨ne, new⟩ : k ≠ a ∧ k ∉ l := by simpa using new
    split
    · simp [ne, new, nota, once]
    · refine List.nodup_cons.mpr ⟨fun mem => ?_, ih new once⟩
      rcases mem_insertRetry.mp mem with eq | mem
      · exact ne eq.symm
      · exact nota mem

/-- R106, R107: a delivery inserted near now finds its place in the order. -/
theorem pairwise_insertRetry {now : Tick} {due : Fin 256 → Tick} {k : Fin 256} {l : List (Fin 256)} (new : k ∉ l)
    (here : Near now (due k)) (near : ∀ j ∈ l, Near now (due j)) (order : l.Pairwise (comesBefore due)) :
    (insertRetry due k l).Pairwise (comesBefore due) := by
  induction l with
  | nil => simp [insertRetry]
  | cons a l ih =>
    unfold insertRetry
    obtain ⟨first, order⟩ := List.pairwise_cons.mp order
    obtain ⟨ne, new⟩ : k ≠ a ∧ k ∉ l := by simpa using new
    have neara := near a (List.mem_cons_self ..)
    have nearl : ∀ j ∈ l, Near now (due j) := fun j mem => near j (List.mem_cons_of_mem _ mem)
    split
    · next before =>
      have before := (comesBefore_iff here neara).mp ((insertsBefore_iff due k a).mp before)
      refine List.pairwise_cons.mpr ⟨fun j mem => ?_, List.pairwise_cons.mpr ⟨first, order⟩⟩
      rcases List.mem_cons.mp mem with rfl | mem
      · exact (comesBefore_iff here neara).mpr before
      · have := (comesBefore_iff neara (nearl j mem)).mp (first j mem)
        exact (comesBefore_iff here (nearl j mem)).mpr (by omega)
    · next notBefore =>
      rw [insertsBefore_iff, comesBefore_iff here neara] at notBefore
      have after : comesBefore due a k := (comesBefore_iff neara here).mpr (by omega)
      refine List.pairwise_cons.mpr ⟨fun j mem => ?_, ih new nearl order⟩
      rcases mem_insertRetry.mp mem with rfl | mem
      · exact after
      · exact first j mem

/-! ## The wait for a retry (R105 to R107) -/

/-- R105: a wait is at most an hour and three seconds. -/
theorem backoffSeconds_le {p : Plan} (cap : p.backoffCap ≤ 3600) (counted slot : Nat) :
    backoffSeconds p counted slot ≤ 3603 := by
  unfold backoffSeconds
  omega

/-- The cap of the plan that governs a record. -/
theorem backoffCap_planAt {s : State} (caps : ∀ k : Fin 16, (s.plans[k.val]).backoffCap ≤ 3600) (i : Nat) :
    (planAt s i).backoffCap ≤ 3600 := by
  unfold planAt
  split
  · exact caps _
  · simp [Plan.powerOn]

/-- A tick at most 2^30 - 1 ticks after now is near now. -/
theorem near_ticksAfter {now : Tick} {n : Nat} (h : n < 1073741824) : Near now (ticksAfter now n) := by
  have : (ticksAfter now n - now).toInt = n := by
    have value : (BitVec.ofNat 32 n).toNat = n := by rw [BitVec.toNat_ofNat]; omega
    rw [ticksAfter, add_sub_cancel_left, BitVec.toInt_eq_toNat_of_lt (by omega), value]
  rw [Near, this]
  omega

variable {k : Fin 256} {d : Delivery} {s : State}

/-- R105, R107: a delivery in no queue enters RETRY-WAIT. -/
theorem follows_enterRetry (held : deliveryAt s k = some d) (issuing : d.state ≠ .issuing)
    (waiting : d.state ≠ .retryWait) : Follows s (enterRetry k s) := by
  generalize eq : enterRetry k s = t
  simp only [enterRetry, held] at eq
  generalize set : ticksAfter s.tick (seconds (backoffSeconds (planAt s d.subscriber) d.counted k.val)) = due at eq
  have put : SlotPut k (some { d with attempt := none, due := some due, state := .retryWait }) s.store t.store :=
    slotPut_of_set
      (x := { slotAt s k with held := some { d with attempt := none, due := some due, state := .retryWait } })
      (by rw [← eq]; simp [mapDelivery, setSlot, held])
  have retry : t.store.retry = insertRetry (dueIn t.store) k s.store.retry := by rw [← eq]; rfl
  have issue : t.store.issue = s.store.issue := by rw [← eq]; rfl
  refine follows_of_store (by rw [← eq]; rfl) (fun none => absurd none (not_noneHeld held)) fun q i => ?_
  have notIssue : k ∉ s.store.issue := fun mem => by
    obtain ⟨x, same, state⟩ := (i.queues.issuing k).mp mem
    exact issuing (by rw [Option.some.inj (same.symm.trans held)] at state; exact state)
  have notRetry : k ∉ s.store.retry := fun mem => by
    obtain ⟨x, same, state⟩ := (i.queues.waiting k).mp mem
    exact waiting (by rw [Option.some.inj (same.symm.trans held)] at state; exact state)
  have dues : ∀ j ∈ s.store.retry, dueIn t.store j = dueIn s.store j := fun j mem =>
    put.due fun e => notRetry (e ▸ mem)
  refine ⟨i.queues.put put (issue ▸ i.queues.issueOnce) (retry ▸ nodup_insertRetry notRetry i.queues.retryOnce)
    (fun j _ => by rw [issue]) (fun j ne => by simp [retry, mem_insertRetry, ne]) (by simp [issue, notIssue])
    (by simp [retry, mem_insertRetry]), i.live.put put (by simp [show heldIn s.store k = some d from held]), fun h => ?_⟩
  have old := i.retry h
  have wait := backoffSeconds_le (backoffCap_planAt old.caps d.subscriber) d.counted k.val
  have here : Near s.tick (dueIn t.store k) := by
    have : dueIn t.store k = due := by rw [dueIn, put.here]; rfl
    rw [this, ← set]
    exact near_ticksAfter (by unfold seconds; omega)
  have near : ∀ j ∈ s.store.retry, Near s.tick (dueIn t.store j) := fun j mem => by
    rw [dues j mem]; exact old.near j mem
  have order : s.store.retry.Pairwise (comesBefore (dueIn t.store)) :=
    old.order.imp_of_mem fun {a b} ma mb before => by simpa only [comesBefore, dues a ma, dues b mb] using before
  refine ⟨old.caps, fun j mem => ?_, retry ▸ pairwise_insertRetry notRetry here near order⟩
  rw [retry] at mem
  rcases mem_insertRetry.mp mem with rfl | mem
  · exact here
  · exact near j mem

/-! ## The head of the issue queue (R50) -/

/-- R50: the head leaves the issue queue for a state that stands in no queue. -/
theorem follows_popIssue {rest : List (Fin 256)} {f : Delivery → Delivery} (head : s.store.issue = k :: rest)
    (held : deliveryAt s k = some d) (subscriber : (f d).subscriber = d.subscriber) (issuing : (f d).state ≠ .issuing)
    (waiting : (f d).state ≠ .retryWait) :
    Follows s (mapDelivery k f (s.mapStore fun p => { p with issue := p.issue.tail })) := by
  generalize eq : mapDelivery k f (s.mapStore fun p => { p with issue := p.issue.tail }) = t
  have put : SlotPut k (some (f d)) s.store t.store :=
    slotPut_of_set (x := { slotAt s k with held := some (f d) }) (by
      rw [← eq, ← Option.map_some, ← held]; rfl)
  have retry : t.store.retry = s.store.retry := by rw [← eq]; rfl
  have issue : t.store.issue = rest := by
    rw [← eq]
    simp [mapDelivery, setSlot, head]
  refine follows_of_store (by rw [← eq]; rfl) (fun none => absurd none (not_noneHeld held)) fun q i => ?_
  have once := i.queues.issueOnce
  rw [head] at once
  obtain ⟨gone, once⟩ := List.nodup_cons.mp once
  have notRetry : k ∉ s.store.retry := fun mem => by
    obtain ⟨x, same, state⟩ := (i.queues.waiting k).mp mem
    obtain ⟨y, same', state'⟩ := (i.queues.issuing k).mp (by simp [head])
    rw [Option.some.inj (same.symm.trans same'), state'] at state
    simp at state
  refine ⟨i.queues.put put (issue ▸ once) (retry ▸ i.queues.retryOnce) (fun j ne => by simp [issue, head, ne])
    (fun j _ => by rw [retry]) (by simp [issue, gone, issuing]) (by simp [retry, notRetry, waiting]),
    i.live.put put (by simp [show heldIn s.store k = some d from held, subscriber]), fun h => ?_⟩
  exact (i.retry h).sublist (retry ▸ .refl _) fun j mem => put.due fun e => notRetry (by rw [← e, ← retry]; exact mem)

/-! ## The release of a retry (R108) -/

theorem follows_releaseRetry (waits : k ∈ s.store.retry) : Follows s (releaseRetry s k) := by
  generalize eq : releaseRetry s k = t
  have retry : t.store.retry = s.store.retry.filter fun j => j != k := by rw [← eq]; rfl
  have issue : t.store.issue = s.store.issue ++ [k] := by rw [← eq]; rfl
  have put : SlotPut k ((heldIn s.store k).map fun d => { d with due := none, state := .issuing }) s.store t.store :=
    slotPut_of_set
      (x := { slotAt s k with held := (deliveryAt s k).map fun d => { d with due := none, state := .issuing } })
      (by rw [← eq]; rfl)
  refine follows_of_store (by rw [← eq]; rfl) (fun none j => ?_) fun q i => ?_
  · by_cases e : j = k
    · rw [e]; exact put.here.trans (by simp [none k])
    · exact (put.others j e).trans (none j)
  obtain ⟨d, held, state⟩ := (i.queues.waiting k).mp waits
  have notIssue : k ∉ s.store.issue := fun mem => by
    obtain ⟨x, same, state'⟩ := (i.queues.issuing k).mp mem
    rw [Option.some.inj (same.symm.trans held), state] at state'
    simp at state'
  refine ⟨i.queues.put put ?_ (retry ▸ i.queues.retryOnce.filter _) (fun j ne => by simp [issue, ne])
    (fun j ne => by simp [retry, ne]) (by simp [issue, held]) (by simp [retry, held]),
    i.live.put put (by simp [held]), fun h => ?_⟩
  · rw [issue]
    exact i.queues.issueOnce.append (List.nodup_singleton k) (by simpa using notIssue)
  · exact (i.retry h).sublist (retry ▸ List.filter_sublist) fun j mem => put.due (by
      rw [retry] at mem
      simpa using (List.mem_filter.mp mem).2)

/-! ## The acceptance (R14) -/

/-- R14, R42, R47: the slot taken, the delivery at the tail of the issue queue, and the counts raised. -/
def takeSlot (k : Fin 256) (index : Nat) (c : MessageClass) (body : List Byte) (origin : Option Origin) (s : State) :
    State :=
  modifyRecord index (fun r => { r with live := r.live + 1, accepted := raise r.accepted })
    ((setSlot k { slotAt s k with held := some (newDelivery s index c body origin) } s).mapStore fun p =>
      { p with issue := p.issue ++ [k] })

/-- R14: an acceptance takes the slot and makes the accept charge. -/
theorem accept_eq (k : Fin 256) (index : Nat) (c : MessageClass) (body : List Byte) (origin : Option Origin) (s : State) :
    accept k index c body origin s = acceptCharge k index (takeSlot k index c body origin s) := rfl

/-- R15: a delivery more, and a live count more. -/
theorem LiveSound.accepted {l : List Subscriber} {p p' : PageStore} {y : Delivery} (h : LiveSound l p)
    (free : heldIn p k = none) (put : SlotPut k (some y) p p') (known : y.subscriber < l.length)
    {f : Subscriber → Subscriber} (more : ∀ r, (f r).live = r.live + 1) : LiveSound (l.modify y.subscriber f) p' where
  owned j z now := by
    by_cases e : j = k
    · rw [e, put.here] at now
      simpa [← Option.some.inj now] using known
    · simpa using h.owned j z (put.others j e ▸ now)
  live i r at_ := by
    have count := put.count i
    rw [List.getElem?_modify] at at_
    cases old : l[i]? with
    | none => simp [old] at at_
    | some x =>
      have live := h.live i x old
      by_cases e : y.subscriber = i
      · have : f x = r := by simpa [old, e] using at_
        simp [ownedBy, free, e] at count
        rw [← this, more, live]
        omega
      · have : x = r := by simpa [old, e] using at_
        simp [ownedBy, free, e] at count
        rw [← this, live, count]

/-- R13, R14: the counts of a record with fewer than eight live deliveries are raised. -/
theorem records_takeSlot {index : Nat} {c : MessageClass} {body : List Byte} {origin : Option Origin} {r : Subscriber}
    (record : s.directory[index]? = some r) (live : r.live < 8) :
    RecordsMove s.directory (takeSlot k index c body origin s).directory := by
  refine .modify (fun _ => rfl) fun x at_ valid => ?_
  obtain rfl := Option.some.inj (record.symm.trans at_)
  obtain ⟨number, address, zones, total, usage, -, missed, -⟩ := valid
  exact ⟨number, address, zones, total, usage, by simp only [raise]; omega, missed, Nat.succ_le_of_lt live⟩

/-- R13, R14: a free slot, a record with fewer than eight live deliveries, and a station that is ON-BUS. -/
theorem follows_takeSlot {index : Nat} {c : MessageClass} {body : List Byte} {origin : Option Origin} {r : Subscriber}
    (free : deliveryAt s k = none) (record : s.directory[index]? = some r) (live : r.live < 8)
    (onBus : s.life.state = .onBus) : Follows s (takeSlot k index c body origin s) := by
  generalize eq : takeSlot k index c body origin s = t
  have put : SlotPut k (some (newDelivery s index c body origin)) s.store t.store :=
    slotPut_of_set (x := { slotAt s k with held := some (newDelivery s index c body origin) }) (by rw [← eq]; rfl)
  have retry : t.store.retry = s.store.retry := by rw [← eq]; rfl
  have issue : t.store.issue = s.store.issue ++ [k] := by rw [← eq]; rfl
  have directory : t.directory = s.directory.modify index fun r =>
    { r with live := r.live + 1, accepted := raise r.accepted } := by rw [← eq]; rfl
  have rest : t = { s with store := t.store, directory := t.directory } := by rw [← eq]; rfl
  refine ⟨by rw [rest], by rw [rest], eq ▸ records_takeSlot record live, fun q i => ?_⟩
  have notIssue : k ∉ s.store.issue := fun mem => by
    obtain ⟨x, same, -⟩ := (i.queues.issuing k).mp mem
    simp [show heldIn s.store k = none from free] at same
  have notRetry : k ∉ s.store.retry := fun mem => by
    obtain ⟨x, same, -⟩ := (i.queues.waiting k).mp mem
    simp [show heldIn s.store k = none from free] at same
  have queues : QueuesSound t.store :=
    i.queues.put put (issue ▸ i.queues.issueOnce.append (List.nodup_singleton k) (by simpa using notIssue))
      (retry ▸ i.queues.retryOnce) (fun j ne => by simp [issue, ne]) (fun j _ => by rw [retry])
      (by simp [issue, newDelivery]) (by simp [retry, notRetry, newDelivery])
  have live : LiveSound t.directory t.store := by
    have known : index < s.directory.length := (List.getElem?_eq_some_iff.mp record).1
    rw [directory]
    exact i.live.accepted (y := newDelivery s index c body origin) free put known fun _ => rfl
  have sound : q → RetrySound s.plans s.tick t.store := fun h =>
    (i.retry h).sublist (retry ▸ .refl _) fun j mem => put.due fun e => notRetry (by rw [← e, ← retry]; exact mem)
  rw [rest]
  exact
    { i with
      directory := by simpa [directory] using i.directory
      queues := queues
      live := live
      members := fun notOnBus => absurd onBus notOnBus
      leaving := fun leaves => by
        have := (i.leaving leaves).1
        rw [onBus] at this
        simp at this
      retry := sound }

end Sys2Proof.Machine
end

section
/-! What the shared operations of the Billing Meter and of the Page Store keep: charges and credits, the settling, closing
and ending of a delivery, AIRED reports and the acceptance decision. -/

namespace Sys2Proof.Machine

/-! ## The changes of a record -/

/-- A change of the marks and of the period total alone. -/
theorem RecordStep.of_total {f : Subscriber → Subscriber}
    (same : ∀ r, f r = { r with
      periodTotal := (f r).periodTotal, saturated := (f r).saturated, warnLow := (f r).warnLow, warnHigh := (f r).warnHigh })
    (total : ∀ r, r.periodTotal ≤ 4294967295 → (f r).periodTotal ≤ 4294967295) : RecordStep f where
  number r := by rw [same r]
  live r := by rw [same r]
  valid r := by
    rintro ⟨number, address, zones, old, rest⟩
    have total := total r old
    rw [same r]
    exact ⟨number, address, zones, total, rest⟩

theorem recordStep_addCharge (amount : Nat) : RecordStep (addCharge amount) :=
  .of_total (fun _ => rfl) fun r _ => by simp only [addCharge, maxTotal]; omega

theorem recordStep_takeCredit (amount : Nat) : RecordStep (takeCredit amount) :=
  .of_total (fun _ => rfl) fun r h => by simp only [takeCredit]; omega

theorem recordStep_warnLow : RecordStep fun r => { r with warnLow := true } := .of_total (fun _ => rfl) fun _ => id

theorem recordStep_warnHigh : RecordStep fun r => { r with warnHigh := true } := .of_total (fun _ => rfl) fun _ => id

/-- R120: a charge with the usage it leads to. -/
theorem recordStep_charge (amount usage : Nat) (h : usage ≤ 16777215) :
    RecordStep fun r => { addCharge amount r with usage := usage } where
  number _ := rfl
  live _ := rfl
  valid r valid := by
    obtain ⟨number, address, zones, total, -, rest⟩ := (recordStep_addCharge amount).valid r valid
    exact ⟨number, address, zones, total, h, rest⟩

/-- R132: a record closed. -/
theorem recordStep_closeRecord : RecordStep closeRecord where
  number _ := rfl
  live _ := rfl
  valid r valid := by
    obtain ⟨number, address, zones, -, -, -, -, live⟩ := valid
    exact ⟨number, address, zones, Nat.zero_le _, Nat.zero_le _, Nat.zero_le _, Nat.zero_le _, live⟩

/-! ## Charges and credits -/

@[simp] theorem store_produceFor (i : Nat) (fill : Subscriber → BillingRecord) (s : State) :
    (produceFor i fill s).store = s.store := by
  unfold produceFor produceRecord
  dsimp only
  split
  · split <;> rfl
  · rfl

@[simp] theorem store_modifyRecord (i : Nat) (f : Subscriber → Subscriber) (s : State) :
    (modifyRecord i f s).store = s.store := rfl

@[simp] theorem store_quotaWatch (i before after : Nat) (s : State) :
    (quotaWatch i before after s).store = s.store := by
  unfold quotaWatch
  dsimp only
  split <;> split <;> simp

theorem follows_acceptCharge (k : Fin 256) (i : Nat) (s : State) : Follows s (acceptCharge k i s) := by
  unfold acceptCharge
  dsimp only
  refine .trans ?_ (follows_produceFor _ _ _)
  refine .trans ?_ (follows_mapDelivery fun _ _ => .of_eq rfl rfl rfl)
  exact follows_modifyRecord (recordStep_addCharge _) s

theorem follows_quotaWatch (i before after : Nat) (s : State) : Follows s (quotaWatch i before after s) := by
  unfold quotaWatch
  dsimp only
  have low : Follows s (if crosses (planAt s i).lowWatch before after then
      produceFor i (fun r => { recordFor .quotaNotice r with watchHigh := some false })
        (modifyRecord i (fun r => { r with warnLow := true }) s) else s) := by
    split
    · exact (follows_modifyRecord recordStep_warnLow s).trans (follows_produceFor _ _ _)
    · exact .refl s
  split
  · exact (low.trans (follows_modifyRecord recordStep_warnHigh _)).trans (follows_produceFor _ _ _)
  · exact low

theorem follows_attemptCharge (k : Fin 256) (d : Delivery) (a z : Nat) (s : State) :
    Follows s (attemptCharge k d a z s) := by
  unfold attemptCharge
  split
  · exact .refl s
  · dsimp only
    refine .trans ?_ (follows_produceFor _ _ _)
    refine .trans ?_ (follows_quotaWatch _ _ _ _)
    refine .trans ?_ (follows_modifyRecord (recordStep_charge _ _ (by unfold maxUsage; omega)) _)
    exact follows_mapDelivery fun _ _ => .of_eq rfl rfl rfl

theorem follows_cancelCredit (k : Fin 256) (d : Delivery) (s : State) : Follows s (cancelCredit k d s) :=
  (follows_modifyRecord (recordStep_takeCredit _) s).trans (follows_produceFor _ _ _)

theorem follows_missCredit (k : Fin 256) (d : Delivery) (s : State) : Follows s (missCredit k d s) := by
  unfold missCredit
  dsimp only
  split
  · exact .refl s
  · exact (follows_modifyRecord (recordStep_takeCredit _) s).trans (follows_produceFor _ _ _)

theorem follows_terminalCredit (k : Fin 256) (d : Delivery) (o : Terminal) (s : State) :
    Follows s (terminalCredit k d o s) := by
  cases o
  case delivered => exact .refl s
  case expired => exact follows_missCredit k d s
  case cancelled => exact follows_cancelCredit k d s

@[simp] theorem store_terminalCredit (k : Fin 256) (d : Delivery) (o : Terminal) (s : State) :
    (terminalCredit k d o s).store = s.store := by
  cases o
  case delivered => rfl
  case expired =>
    unfold terminalCredit missCredit
    dsimp only
    split <;> simp
  case cancelled => simp [terminalCredit, cancelCredit]

theorem follows_walkStep (position : Nat) (s : State) : Follows s (walkStep position s) := by
  unfold walkStep
  dsimp only
  refine .trans ?_ (follows_mapBilling id)
  exact (follows_produceFor _ _ s).trans (follows_modifyRecord recordStep_closeRecord _)

/-! ## Ends and retries -/

/-- The delivery stands in no queue: it is neither in ISSUING nor in RETRY-WAIT. -/
structure OutOfQueues (d : Delivery) : Prop where
  issuing : d.state ≠ .issuing
  waiting : d.state ≠ .retryWait

/-- Two deliveries out of the queues, with one owner and one due tick. -/
theorem OutOfQueues.keepsPlace {d d' : Delivery} (h : OutOfQueues d) (h' : OutOfQueues d')
    (subscriber : d'.subscriber = d.subscriber) (due : d'.due = d.due) : KeepsPlace d d' :=
  ⟨subscriber, due, iff_of_false h'.issuing h.issuing, iff_of_false h'.waiting h.waiting⟩

/-- R63: a terminal outcome. -/
theorem follows_endDelivery (k : Fin 256) (o : Terminal) (s : State) : Follows s (endDelivery k o s) := by
  unfold endDelivery
  split
  · exact .refl s
  · next d held =>
    have still : deliveryAt (terminalCredit k d o s) k = some d := by
      simpa [deliveryAt, slotAt] using held
    exact (follows_terminalCredit k d o s).trans (follows_freeSlot still o)

/-- The delivery in a slot, if any, is out of the queues. -/
def SlotOut (k : Fin 256) (s : State) : Prop := ∀ d, deliveryAt s k = some d → OutOfQueues d

/-- The same Page Store has the same delivery in a slot. -/
theorem SlotOut.of_store {k : Fin 256} {s t : State} (h : SlotOut k s) (store : t.store = s.store) : SlotOut k t := by
  intro d held
  refine h d ?_
  simpa [deliveryAt, slotAt, store] using held

/-- A change that leaves the state of the delivery alone. -/
theorem slotOut_mapDelivery {k : Fin 256} {s : State} (h : SlotOut k s) {f : Delivery → Delivery}
    (state : ∀ d, (f d).state = d.state) : SlotOut k (mapDelivery k f s) := by
  intro d held
  rw [deliveryAt_mapDelivery, Option.map_eq_some_iff] at held
  obtain ⟨x, old, rfl⟩ := held
  exact ⟨state x ▸ (h x old).issuing, state x ▸ (h x old).waiting⟩

theorem follows_nextStep {k : Fin 256} {s : State} (out : SlotOut k s) (o : AttemptOutcome) :
    Follows s (nextStep k o s) := by
  unfold nextStep
  split
  · exact .refl s
  · next d held =>
    cases o
    case acked => exact follows_endDelivery k .delivered s
    case missed =>
      dsimp only
      split
      · exact follows_endDelivery k .expired s
      · exact follows_enterRetry held (out d held).issuing (out d held).waiting

theorem follows_countAttempt (k : Fin 256) (d : Delivery) (a : Attempt) (s : State) :
    Follows s (countAttempt k d a s) := by
  unfold countAttempt
  split
  · exact .refl s
  · exact (follows_attemptCharge k d _ _ s).trans (follows_mapDelivery fun _ _ => .of_eq rfl rfl rfl)

theorem slotOut_countAttempt {k : Fin 256} {s : State} (out : SlotOut k s) (d : Delivery) (a : Attempt) :
    SlotOut k (countAttempt k d a s) := by
  unfold countAttempt
  split
  · exact out
  · refine slotOut_mapDelivery ?_ fun _ => rfl
    unfold attemptCharge
    split
    · exact out
    · refine SlotOut.of_store (s := mapDelivery k _ s) ?_
        ((store_produceFor _ _ _).trans ((store_quotaWatch _ _ _ _).trans (store_modifyRecord _ _ _)))
      exact slotOut_mapDelivery out fun _ => rfl

/-! ## Settling and closing -/

theorem follows_settle {k : Fin 256} {s : State} (out : SlotOut k s) : Follows s (settle k s) := by
  unfold settle
  split
  · exact .refl s
  · next d _ =>
    split
    · exact .refl s
    · next a _ =>
      split
      · exact .refl s
      · next o _ =>
        refine .trans ?_ (follows_nextStep (slotOut_mapDelivery (slotOut_countAttempt out d a) fun _ => by rfl) o)
        refine .trans (follows_countAttempt k d a s) ?_
        exact follows_mapDelivery fun _ _ => .of_eq rfl rfl rfl

theorem follows_settleIfResolved (k : Fin 256) (s : State) : Follows s (settleIfResolved k s) := by
  unfold settleIfResolved
  split
  · next d held =>
    split
    · split
      · next settles =>
        refine follows_settle fun x same => ?_
        rw [← Option.some.inj (held.symm.trans same)]
        constructor <;> simp [settles.1]
      · exact .refl s
    · exact .refl s
  · exact .refl s

theorem airStep_mapEntries {f g : AirEntry → AirEntry} {a : Air} :
    AirStep a { a with regular := a.regular.map f, priority := a.priority.map g } :=
  ⟨by simp, by simp, id⟩

theorem follows_mapAirEntry (t : Tag) (f : AirEntry → AirEntry) (s : State) : Follows s (mapAirEntry t f s) :=
  follows_mapAir airStep_mapEntries

theorem follows_dropAir (drop : AirEntry → Bool) (s : State) : Follows s (dropAir drop s) :=
  follows_mapAir ⟨List.length_filter_le _ _, List.length_filter_le _ _, id⟩

theorem follows_withdrawAir (t : Tag) (w : PendingWithdraw) (s : State) : Follows s (withdrawAir t w s) := by
  unfold withdrawAir
  split
  · exact (follows_dropAir _ s).trans (follows_mapAirCounts _ _)
  · exact (follows_mapAirEntry _ _ s).trans (follows_mapAirCounts _ _)
  · exact follows_mapAirCounts _ s

theorem follows_withdrawZone (k : Fin 256) (tag : Tag) (zone : Nat) (s : State) :
    Follows s (withdrawZone k tag zone s) := by
  unfold withdrawZone
  split
  · exact (follows_withdrawAir _ _ s).trans (follows_setZone _ _ _ _)
  · unfold withdrawRemote
    dsimp only
    split
    · exact (follows_setZone _ _ _ s).trans (busStep_convertEntry _ _ _ _).follows
    · exact follows_setZone _ _ _ s

/-- R60, R61: the attempt of a delivery out of the queues closes. -/
theorem follows_closeAttempt {k : Fin 256} {s : State} (out : SlotOut k s) (o : AttemptOutcome) :
    Follows s (closeAttempt k o s) := by
  unfold closeAttempt
  split
  · exact .refl s
  · refine Follows.trans ?_ (follows_settleIfResolved k _)
    refine .trans (follows_mapDelivery fun d held => ?_) (follows_foldl (fun _ _ => follows_withdrawZone _ _ _ _) _ _)
    exact (out d held).keepsPlace ⟨by simp, by simp⟩ rfl rfl

theorem follows_closeIfExhausted (k : Fin 256) (s : State) : Follows s (closeIfExhausted k s) := by
  unfold closeIfExhausted
  split
  · next d held =>
    split
    · split
      · next exhausted =>
        refine follows_closeAttempt (fun x same => ?_) _
        rw [← Option.some.inj (held.symm.trans same)]
        constructor <;> simp [exhausted.1]
      · exact .refl s
    · exact .refl s
  · exact .refl s

theorem follows_afterResolved (k : Fin 256) (s : State) : Follows s (afterResolved k s) :=
  (follows_closeIfExhausted k s).trans (follows_settleIfResolved k _)

theorem follows_resolveZone (k : Fin 256) (zone : Nat) (st : ZoneState) (s : State) :
    Follows s (resolveZone k zone st s) := (follows_setZone k zone st s).trans (follows_afterResolved k _)

theorem follows_loseZone (k : Fin 256) (zone : Nat) (s : State) : Follows s (loseZone k zone s) := by
  unfold loseZone
  split
  · split
    · exact follows_resolveZone k zone .lost s
    · exact .refl s
  · exact .refl s

/-! ## AIRED reports -/

theorem follows_startAckWait (k : Fin 256) (s : State) : Follows s (startAckWait k s) := by
  unfold startAckWait
  split
  · next d held =>
    split
    · next pending =>
      refine follows_mapDelivery fun x same => ?_
      rw [← Option.some.inj (held.symm.trans same)]
      exact ⟨rfl, rfl, by simp [pending], by simp [pending]⟩
    · exact .refl s
  · exact .refl s

theorem follows_takeAired (zone : Nat) (s : State) (t : Tag) : Follows s (takeAired zone s t) := by
  unfold takeAired
  split
  · exact (((follows_setZone _ _ _ s).trans (busStep_freeZoneEntry _ _ _).follows).trans
      (follows_startAckWait _ _)).trans (follows_settleIfResolved _ _)
  · exact .refl s

/-! ## The acceptance decision (R11 to R14) -/

/-- R11, R13: a decision to accept has a record with room for a delivery, in a station that is not in LEAVING. -/
theorem decision_accept {n : Nat} {c : MessageClass} {o : Option Origin} {s : State} {index : Nat}
    (h : decision n c o s = .accept) (found : findForDecision s n = some index) :
    ∃ r, s.directory[index]? = some r ∧ r.live < 8 ∧ s.life.state ≠ .leaving := by
  unfold decision at h
  rw [found, Option.bind_some] at h
  split at h
  · next r record =>
    refine ⟨r, record, ?_⟩
    unfold decideRecord at h
    dsimp only at h
    split_ifs at h with suspended priority quota busy
    simp only [Config.maxLiveDeliveries] at busy
    exact ⟨by omega, fun leaving => busy (.inl leaving)⟩
  · unfold decideMissing at h
    split at h <;> simp at h

/-- R42: the slot chosen is free. -/
theorem deliveryAt_lowestFree {s : State} {k : Fin 256} (h : lowestFree s = some k) : deliveryAt s k = none := by
  simpa using List.find?_some h

/-- R10, R14: the acceptance of an entry or a FORWARD, by a member of the office. -/
theorem follows_decideEntry {n : Nat} {c : MessageClass} {body : List Byte} {o : Option Origin} {s : State}
    (member : s.life.state = .onBus ∨ s.life.state = .leaving) :
    Follows s (decideEntry n c body o s) := by
  unfold decideEntry
  split
  · next index k accepts found free =>
    obtain ⟨r, record, live, stays⟩ := decision_accept accepts found
    rw [accept_eq]
    exact (follows_takeSlot (deliveryAt_lowestFree free) record live (member.resolve_right stays)).trans
      (follows_acceptCharge _ _ _)
  · exact .refl s

end Sys2Proof.Machine
end

section
/-! What the Air Scheduler (R67 to R89) and the Acknowledgement Matcher (R91 to R101) keep. -/

namespace Sys2Proof.Machine

/-- A command answers with a state that follows. -/
def Answers (s : State) (o : Host.Outcome State Fault Refusal) : Prop := ∃ t, o = .next t ∧ Follows s t

theorem answers_next {s t : State} (h : Follows s t) : Answers s (.next t) := ⟨t, rfl, h⟩

/-- A command that acts on a condition, and otherwise leaves the state as it is. -/
theorem answers_ite {s t : State} {c : Prop} [Decidable c] (h : c → Follows s t) : Answers s (.next (if c then t else s)) := by
  refine answers_next ?_
  split
  · next holds => exact h holds
  · exact .refl s

/-! ## Admission -/

/-- R69: a request admitted and not merged finds room in its queue, in a station that is not in LEAVING. -/
theorem admission_accepted {ask : AirAsk} {s : State} (h : admission ask s = .accepted)
    (new : (findAir s ask.tag).isSome = false) : s.life.state ≠ .leaving ∧ airQueueFull s ask.cls = false := by
  unfold admission at h
  split_ifs at h with leaving airing held misfit full <;> simp_all

theorem follows_admitAsk (ask : AirAsk) (s : State) : Follows s (admitAsk ask s) := by
  unfold admitAsk
  split
  · exact follows_mapAirCounts _ s
  · exact follows_mapAirCounts _ s
  · exact follows_mapAirCounts _ s
  · next accepted =>
    split
    · exact (follows_mapAirEntry _ _ s).trans (follows_mapAirCounts _ _)
    · next new =>
      obtain ⟨stays, room⟩ := admission_accepted accepted (by simpa using new)
      refine .trans ?_ (follows_mapAirCounts _ _)
      refine .of_sound rfl rfl rfl fun q i => ?_
      have leaving : (∃ f ∈ presencesKept s, leavingPresence f) → False := fun leaves => stays (i.leaving leaves).1
      unfold airQueueFull at room
      split at room
      · next urgent =>
        have length : s.air.priority.length < 4 := Nat.lt_of_not_le (of_decide_eq_false room)
        exact { i with
          air := by
            simp only [State.mapAir_air, urgent, if_true]
            exact ⟨i.air.regular, by simp; omega, i.air.cells⟩
          leaving := fun leaves => (leaving leaves).elim }
      · next normal =>
        have length : s.air.regular.length < 64 := Nat.lt_of_not_le (of_decide_eq_false room)
        exact { i with
          air := by
            simp only [State.mapAir_air, normal]
            exact ⟨by simp; omega, i.air.priority, i.air.cells⟩
          leaving := fun leaves => (leaving leaves).elim }

theorem follows_purgeAir (station : Nat) (s : State) : Follows s (purgeAir station s) := by
  unfold purgeAir
  exact (follows_dropAir _ s).trans (follows_mapAirCounts _ _)

/-! ## Cycle starts and marks -/

theorem follows_startCycle (s : State) : Follows s (startCycle s) := by
  unfold startCycle
  exact follows_mapAir ⟨le_refl _, le_refl _, fun _ y started => by simp at started; simp [← started]⟩

theorem busStep_clearMark (s : State) : BusStep s (clearMark s) := busStep_mapBus rfl rfl rfl rfl rfl

theorem follows_takeMark (s : State) : Follows s (takeMark s) := by
  unfold takeMark
  split_ifs
  · exact follows_mapAirCounts _ s
  · exact (busStep_clearMark s).follows
  · exact (busStep_clearMark s).follows.trans (follows_startCycle _)
  · exact .refl s

theorem follows_startNextFree (s : State) : Follows s (startNextFree s) := by
  unfold startNextFree
  split
  · exact follows_startCycle s
  · exact .refl s

theorem answers_execFreeCycleStart (s : State) : Answers s (execFreeCycleStart s) :=
  answers_next (follows_startNextFree s)

theorem follows_cycleTimerEffect (s : State) : Follows s (cycleTimerEffect s) := by
  unfold cycleTimerEffect
  split_ifs
  · exact (busStep_clearMark s).follows.trans (follows_mapAir ⟨le_refl _, le_refl _, id⟩)
  · exact ((busStep_clearMark s).follows.trans (follows_startCycle _)).trans (follows_mapAirCounts _ _)
  · refine .trans (busStep_mapBus rfl rfl rfl rfl rfl).follows (follows_mapAir ⟨le_refl _, le_refl _, id⟩)

theorem answers_execCycleTimerExpiry (s : State) : Answers s (execCycleTimerExpiry s) :=
  answers_ite fun _ => follows_cycleTimerEffect s

/-! ## Slots and cells (R76 to R80) -/

/-- A slot under assembly: the queues as long as the Air Scheduler's, and at most eight cells. -/
structure PackingFits (a : Air) (p : Packing) : Prop where
  regular : p.regular.length = a.regular.length
  priority : p.priority.length = a.priority.length
  cells : p.cells.length ≤ 8

theorem length_pageSlotCells (tag : Tag) (here : List LinkCell) (complete : Bool) :
    (pageSlotCells tag here complete).length = here.length := by simp [pageSlotCells]

theorem packingFits_startPage {a : Air} {p : Packing} (h : PackingFits a p) (e : AirEntry) (urgent : Bool) :
    PackingFits a (startPage e urgent p) where
  regular := by simp [startPage, h.regular]
  priority := by simp [startPage, h.priority]
  cells := by
    have := h.cells
    simp only [startPage, List.length_append, length_pageSlotCells, List.length_take]
    omega

theorem packingFits_startPages {a : Air} (later fuel : Nat) {p : Packing} (h : PackingFits a p) :
    PackingFits a (startPages later fuel p) := by
  induction fuel generalizing p with
  | zero => exact h
  | succ fuel ih =>
    unfold startPages
    split
    · exact h
    · split
      · exact h
      · split
        · exact ih (packingFits_startPage h _ _)
        · exact ⟨h.regular, h.priority, h.cells⟩

theorem packingFits_continuePage (a : Air) (y : Cycle) : PackingFits a (continuePage a y) := by
  unfold continuePage
  split
  · exact ⟨rfl, rfl, Nat.zero_le _⟩
  · exact ⟨rfl, rfl, by simp only [length_pageSlotCells, List.length_take]; omega⟩

theorem airStep_fillSlot (later slot begins : Nat) (y : Cycle) (a : Air) :
    AirStep a (fillSlot later slot begins y a) := by
  have fits := packingFits_startPages later 8 (packingFits_continuePage a y)
  refine ⟨fits.regular.le, fits.priority.le, fun _ z filled => ?_⟩
  obtain rfl := Option.some.inj filled
  have := fits.cells
  simp only [List.length_append, List.length_replicate]
  omega

theorem airStep_skipSlot (slot begins : Nat) (y : Cycle) (a : Air) : AirStep a (skipSlot slot begins y a) := by
  unfold skipSlot
  split
  · refine ⟨le_refl _, le_refl _, fun _ z skipped => ?_⟩
    obtain rfl := Option.some.inj skipped
    exact Nat.zero_le _
  · refine ⟨by simp, by simp, fun _ z skipped => ?_⟩
    obtain rfl := Option.some.inj skipped
    exact Nat.zero_le _

theorem airStep_handCell {cell : SlotCell} {rest : List SlotCell} {y : Cycle} {a : Air} (cycle : a.cycle = some y)
    (cells : y.cells = cell :: rest) : AirStep a (handCell cell rest y a) := by
  have fewer : (∀ z ∈ a.cycle, z.cells.length ≤ 8) → rest.length ≤ 8 := fun fits => by
    have := fits y cycle
    rw [cells, List.length_cons] at this
    omega
  unfold handCell
  split
  · refine ⟨le_refl _, le_refl _, fun fits z handed => ?_⟩
    obtain rfl := Option.some.inj handed
    exact fewer fits
  · refine ⟨by simp, by simp, fun fits z handed => ?_⟩
    obtain rfl := Option.some.inj handed
    exact fewer fits

theorem answers_execSlotStart (ready : Bool) (s : State) : Answers s (execSlotStart ready s) := by
  refine answers_next ?_
  split
  · exact .refl s
  · dsimp only
    refine (follows_mapPins _ s).trans (follows_mapAir ?_)
    split
    · exact airStep_fillSlot _ _ _ _ _
    · exact airStep_skipSlot _ _ _ _

theorem answers_execCellHanded (s : State) : Answers s (execCellHanded s) := by
  refine answers_next ?_
  split
  · exact .refl s
  · next y cycle =>
    split
    · exact .refl s
    · next cell rest cells =>
      split
      · exact follows_mapAir (airStep_handCell cycle cells)
      · exact .refl s

/-! ## The end of a cycle (R82 to R86) -/

theorem follows_reportHome (tags : List Tag) (s : State) (home : Byte) : Follows s (reportHome tags s home) := by
  unfold reportHome
  dsimp only
  split
  · exact follows_foldl (fun _ _ => follows_takeAired _ _ _) _ s
  · exact follows_foldl (fun _ _ => (busStep_answerTo _ _ _ _ _).follows) _ s

theorem follows_ownWithdrawn (t : Tag) (s : State) : Follows s (ownWithdrawn t s) := by
  unfold ownWithdrawn
  split
  · split
    · exact follows_resolveZone _ _ _ s
    · exact .refl s
  · exact .refl s

theorem follows_answerOwed (s : State) (e : AirEntry) : Follows s (answerOwed s e) := by
  unfold answerOwed
  split
  · split
    · exact follows_ownWithdrawn _ s
    · exact (busStep_answerTo _ _ _ _ s).follows
  · exact .refl s

theorem follows_makeReports (y : Cycle) (s : State) : Follows s (makeReports y s) :=
  follows_foldl (follows_reportHome _) _ s

theorem follows_makeOwed (s : State) : Follows s (makeOwed s) :=
  follows_foldl (fun _ _ => follows_foldl follows_answerOwed _ _) _ s

theorem airStep_closeCycle (y : Cycle) (a : Air) : AirStep a (closeCycle y a) :=
  ⟨by simp [closeCycle, List.length_filter_le], by simp [closeCycle, List.length_filter_le], fun _ z none => by simp [closeCycle] at none⟩

theorem follows_endCycle (y : Cycle) (s : State) : Follows s (endCycle y s) :=
  ((follows_makeReports y s).trans (follows_makeOwed _)).trans (follows_mapAir (airStep_closeCycle y _))

theorem answers_execCycleEnd (offpeak : Bool) (s : State) : Answers s (execCycleEnd offpeak s) := by
  refine answers_next ?_
  split
  · exact .refl s
  · split
    · exact ((follows_withOffpeak offpeak s).trans (follows_endCycle _ _)).trans (follows_startNextFree _)
    · exact .refl s

theorem follows_endAnyCycle (s : State) : Follows s (endAnyCycle s) := by
  unfold endAnyCycle
  split
  · exact follows_endCycle _ s
  · exact .refl s

/-! ## The Matcher -/

/-- R57: what is done with an acknowledgement, by its class. -/
theorem follows_acknowledge {k : Fin 256} {a : AckClass} {s : State} (out : a = .closed → SlotOut k s) :
    Follows s (acknowledge k a s) := by
  cases a
  case closed => exact follows_closeAttempt (out rfl) _
  case turned => exact follows_mapAttempt k _ s
  case direct => exact follows_endDelivery k _ s
  case stale => exact .refl s
  case duplicate => exact .refl s

/-- R99: a report that closes an attempt finds its delivery in AIR-PENDING or AWAIT-ACK. -/
theorem slotOut_of_closed {t : Tag} {s : State} (h : classify s t = .closed) : SlotOut (tagSlot t) s := by
  intro d held
  simp only [classify, held] at h
  split at h
  · constructor <;> intro state <;> simp [state] at h
  · simp at h

theorem follows_matchReport (t : Tag) (s : State) : Follows s (matchReport t s) :=
  (follows_mapMatcherCounts _ s).trans
    (follows_acknowledge fun closed => (slotOut_of_closed closed).of_store rfl)

theorem matcherFits_takeReport {chars : List RxChar} {s : State} (h : MatcherFits s.matcher) :
    MatcherFits (takeReport chars s).matcher := by
  refine ⟨?_, trivial⟩
  simp only [takeReport, State.mapMatcher_matcher]
  split
  · next taken =>
    unfold judge at taken
    dsimp only at taken
    split_ifs at taken with framing values sum quality wanted full
    simp only [Config.reverseFifoSize] at full
    simp only [List.length_append, List.length_singleton]
    omega
  · exact h.fifo

theorem follows_dropHead (s : State) : Follows s (dropHead s) :=
  follows_mapMatcher fun i => ⟨(List.tail_sublist _).length_le.trans i.fifo, i.run⟩

theorem follows_routeHead (r : Report) (s : State) : Follows s (routeHead r s) := by
  unfold routeHead
  split
  · exact (follows_dropHead s).trans (follows_matchReport _ _)
  · split
    · split
      · exact ((follows_dropHead s).trans (busStep_answerTo _ _ _ _ _).follows).trans (follows_mapMatcherCounts _ _)
      · exact .refl s
    · exact (follows_dropHead s).trans (follows_mapMatcherCounts _ _)

theorem follows_takeHeard (r : Report) (s : State) : Follows s (takeHeard r s) := by
  unfold takeHeard
  dsimp only
  split_ifs
  · exact (follows_mapMatcherCounts _ s).trans (follows_mapMatcherCounts _ _)
  · exact (follows_mapMatcherCounts _ s).trans (follows_mapMatcherCounts _ _)
  · exact (follows_mapMatcherCounts _ s).trans (follows_matchReport _ _)

theorem follows_purgeReports (station : Nat) (s : State) : Follows s (purgeReports station s) :=
  follows_mapMatcher fun i => ⟨(List.length_filter_le _ _).trans i.fifo, i.run⟩

theorem answers_execReportCharacterReceived (char : Byte) (framing : Bool) (s : State) :
    Answers s (execReportCharacterReceived char framing s) := by
  refine answers_next ?_
  split
  · exact .refl s
  · dsimp only
    split
    · split
      · next chars _ few =>
        exact follows_mapMatcher fun i => ⟨i.fifo, by simp only [RunFits, List.length_append, List.length_singleton]; omega⟩
      · exact .refl s
    · exact follows_mapMatcher fun i => ⟨i.fifo, by simp [RunFits]⟩

theorem answers_execReverseReport (char : Byte) (framing : Bool) (s : State) :
    Answers s (execReverseReport char framing s) := by
  refine answers_next ?_
  split
  · exact .refl s
  · split
    · split
      · exact .of_sound rfl rfl rfl fun _ i => { i with matcher := matcherFits_takeReport i.matcher }
      · exact .refl s
    · exact .refl s

theorem answers_execShortReport (s : State) : Answers s (execShortReport s) := by
  refine answers_next ?_
  split
  · exact .refl s
  · split
    · exact follows_mapMatcher fun i => ⟨i.fifo, trivial⟩
    · exact .refl s

theorem answers_execExtraReportCharacter (s : State) : Answers s (execExtraReportCharacter s) := by
  refine answers_next ?_
  split
  · exact .refl s
  · split
    · exact follows_mapMatcher fun i => ⟨i.fifo, trivial⟩
    · exact .refl s

theorem answers_execMatcherTakeHead (offpeak : Bool) (s : State) : Answers s (execMatcherTakeHead offpeak s) := by
  refine answers_next ?_
  split
  · exact .refl s
  · split
    · exact (follows_withOffpeak offpeak s).trans (follows_routeHead _ _)
    · exact .refl s

end Sys2Proof.Machine
end

section
/-! What the Intake Unit keeps (R19 to R38): the lines, the assembly and routing of entries, and the characters that wait
in LOOKUP. -/

namespace Sys2Proof.Machine

/-! ## Lines -/

/-- Only a line in LOOKUP holds characters in its FIFO. -/
theorem fifo_of_not_lookup {l : Line} (fits : LineFits l) (state : l.state ≠ .lookup) : l.fifo = [] :=
  fits.2.1.resolve_right fun waits => state waits.1

/-- A line written as it is. -/
theorem setLine_self (k : Fin 8) (s : State) : setLine k (lineAt s k) s = s := by
  simp [setLine, lineAt, State.mapIntake]

/-- The line after a verdict, when no character waits. -/
theorem lineFits_afterVerdict {v : Verdict} {l : Line} (fits : LineFits l) (empty : l.fifo = []) :
    LineFits (afterVerdict v l) :=
  ⟨fits.1, .inl empty, fits.2.2.1, by simp [afterVerdict]⟩

/-- R38: a verdict on a line that is not in LOOKUP. -/
theorem follows_produceVerdict {k : Fin 8} {v : Verdict} {s : State} (state : (lineAt s k).state ≠ .lookup) :
    Follows s (produceVerdict k v s) :=
  (follows_mapIntakeCounts _ s).trans
    (follows_mapLine fun fits => lineFits_afterVerdict fits (fifo_of_not_lookup fits state))

/-- A line stays as it is while nothing of the Intake Unit changes. -/
theorem lineAt_of_outsideStore {s t : State} (h : outsideStore t = outsideStore s) (k : Fin 8) :
    lineAt t k = lineAt s k := by
  simp only [outsideStore, Prod.mk.injEq] at h
  simp [lineAt, h]

/-! ## Routing (R31 to R33) -/

/-- R33: an entry claimed for a line that has room. -/
theorem follows_forwardEntry {k : Fin 8} {peer : Nat} {ask : ForwardAsk} {s : State} (state : s.life.state ≠ .leaving)
    (line : (lineAt s k).state ≠ .lookup) (free : outstandingFree s ≠ 0) (room : requestRoom s ≠ 0) :
    Follows s (forwardEntry k peer ask s) := by
  unfold forwardEntry
  refine .trans (follows_claimEntry ?_ ?_ fun leaving => absurd leaving state) (follows_mapLine fun fits => ?_)
  · simp only [requestRoom, Config.requestQueueSize] at room
    omega
  · simp only [outstandingFree, Config.outstandingSize] at free
    omega
  · have empty := fifo_of_not_lookup (l := lineAt s k) fits line
    exact ⟨fits.1, .inl empty, fits.2.2.1, by simp⟩

/-- R31: the routing of an entry by a station that is not UNCONFIGURED. -/
theorem follows_routeEntry {k : Fin 8} {ask : ForwardAsk} {s : State}
    (life : s.life.state ≠ .unconfigured) (line : (lineAt s k).state ≠ .lookup) :
    Follows s (routeEntry k ask s) := by
  unfold routeEntry
  split
  · exact follows_produceVerdict line
  · next state =>
    have member : s.life.state = .onBus ∨ s.life.state = .leaving := by
      revert state life
      cases s.life.state <;> simp
    split
    · exact follows_produceVerdict line
    · refine (follows_decideEntry member).trans (follows_produceVerdict ?_)
      rw [lineAt_of_outsideStore (outsideStore_decideEntry ..)]
      exact line
    · split_ifs with leaving absent full
      · exact follows_produceVerdict line
      · exact follows_produceVerdict line
      · exact follows_produceVerdict line
      · obtain ⟨free, room⟩ := not_or.mp full
        exact follows_forwardEntry leaving line free room

theorem follows_checkEntry {k : Fin 8} {e : EntryAssembly} {s : State}
    (life : s.life.state ≠ .unconfigured) (line : (lineAt s k).state ≠ .lookup) :
    Follows s (checkEntry k e s) := by
  unfold checkEntry
  split
  · exact follows_routeEntry life line
  · exact follows_produceVerdict line

/-! ## The assembler (R28) -/

/-- R28: an entry holds at most 88 characters. -/
theorem length_addChar {c : RxChar} {e : EntryAssembly} (h : e.chars.length ≤ 88) :
    (addChar c e).chars.length ≤ 88 := by
  unfold addChar
  split_ifs
  · exact h
  · simp only [List.length_append, List.length_singleton]; omega
  · exact h

/-- R28: the line whose assembler takes OPEN. -/
theorem lineFits_opened {l : Line} (fits : LineFits l) (state : l.state ≠ .lookup) (framing : Bool) (due : Tick) :
    LineFits { l with state := .collect, entry := some (newEntry framing), timer := some due } := by
  have empty := fifo_of_not_lookup fits state
  exact ⟨fits.1, .inl empty, fits.2.2.1, by simp [newEntry]⟩

/-- R28: the line whose entry takes a character. -/
theorem lineFits_added {l : Line} (fits : LineFits l) {e : EntryAssembly} (entry : l.entry = some e) (c : RxChar)
    (due : Tick) : LineFits { l with entry := some (addChar c e), timer := some due } :=
  ⟨fits.1, fits.2.1, fits.2.2.1, by simpa using length_addChar (fits.2.2.2 e entry)⟩

theorem follows_assemble {k : Fin 8} {c : RxChar} {s : State}
    (life : s.life.state ≠ .unconfigured) : Follows s (assemble k s c) := by
  unfold assemble
  split
  · next opening =>
    split
    · exact follows_mapLine fun fits => lineFits_opened fits (by simp [opening]) _ _
    · exact .refl s
  · next e collects entry =>
    split
    · refine .trans ?_ (follows_checkEntry life (by simp [mapLine, collects]))
      exact follows_mapLine fun fits => fits
    · exact follows_mapLine fun fits => lineFits_added fits entry _ _
  · exact .refl s

/-! ## The characters of a LOOKUP (R26) -/

/-- The line waits for an OPEN, or its entry has taken no CLOSE. -/
def Young (l : Line) : Prop := l.state = .awaitOpen ∨ ∀ e, l.entry = some e → e.awaitingCheck = false

/-- R28: a character that is no CHECK changes the line alone; in AWAIT-OPEN it can only be an OPEN. -/
theorem assemble_young {k : Fin 8} {s : State} (fits : LineFits (lineAt s k)) (young : Young (lineAt s k)) (c : RxChar) :
    ∃ l, LineFits l ∧ assemble k s c = setLine k l s ∧ ((lineAt s k).state = .awaitOpen → Young l) := by
  have same : s = setLine k (lineAt s k) s := (setLine_self k s).symm
  unfold assemble
  split
  · next opening =>
    split
    · exact ⟨_, lineFits_opened fits (by simp [opening]) c.framing (lineTimer s), rfl, fun _ => .inr (by simp [newEntry])⟩
    · exact ⟨_, fits, same, fun _ => young⟩
  · next e collects entry =>
    have early : e.awaitingCheck = false := young.elim (fun opening => by simp [opening] at collects) fun h => h e entry
    rw [early]
    exact ⟨_, lineFits_added fits entry c (lineTimer s), rfl, fun opening => by simp [opening] at collects⟩
  · exact ⟨_, fits, same, fun _ => young⟩

/-- R26: the two characters at most that waited change the line alone. -/
theorem drainFifo_line {k : Fin 8} {s : State} (fits : LineFits { lineAt s k with fifo := [] })
    (few : (lineAt s k).fifo.length ≤ 2) (none : (lineAt s k).state ≠ .awaitOpen → (lineAt s k).fifo = []) :
    ∃ l, LineFits l ∧ drainFifo k s = setLine k l s := by
  unfold drainFifo
  split
  · next opening =>
    generalize empty : mapLine k (fun l => { l with fifo := [] }) s = u
    have line : lineAt u k = { lineAt s k with fifo := [] } := by rw [← empty, mapLine, lineAt_setLine]
    have opens : (lineAt u k).state = .awaitOpen := by rw [line]; exact opening
    have whole : ∀ l, setLine k l u = setLine k l s := fun l => by rw [← empty, mapLine, setLine_setLine]
    have fits : LineFits (lineAt u k) := line ▸ fits
    match (lineAt s k).fifo, few with
    | [], _ => exact ⟨_, fits, by rw [← whole, setLine_self]; rfl⟩
    | [c], _ =>
      obtain ⟨l, fits, eq, -⟩ := assemble_young fits (.inl opens) c
      exact ⟨l, fits, by rw [← whole, ← eq]; rfl⟩
    | [c, c'], _ =>
      obtain ⟨l, fits, eq, young⟩ := assemble_young fits (.inl opens) c
      have now : lineAt (setLine k l u) k = l := lineAt_setLine ..
      obtain ⟨m, fits, eq', -⟩ := assemble_young (s := setLine k l u) (by rw [now]; exact fits)
        (by rw [now]; exact young opens) c'
      exact ⟨m, fits, by rw [← whole, ← setLine_setLine k l, ← eq', ← eq]; rfl⟩
  · next shut =>
    exact ⟨lineAt s k, by rw [show lineAt s k = { lineAt s k with fifo := [] } by rw [← none shut]]; exact fits,
      (setLine_self k s).symm⟩

/-- R34, R35: a verdict that ends a LOOKUP changes the line and the counts alone. -/
theorem leaveLookup_line {k : Fin 8} {v : Verdict} {s : State} (fits : LineFits (lineAt s k)) :
    ∃ l, LineFits l ∧ leaveLookup k v s = setLine k l (mapIntakeCounts (countVerdict v) s) := by
  generalize eq : produceVerdict k v s = u
  have line : lineAt u k = afterVerdict v (lineAt s k) := by rw [← eq, produceVerdict, mapLine, lineAt_setLine]; rfl
  obtain ⟨l, fits, drained⟩ : ∃ l, LineFits l ∧ drainFifo k u = setLine k l u := by
    refine drainFifo_line ?_ ?_ ?_
    · rw [line]
      exact ⟨Nat.zero_le _, .inl rfl, fits.2.2.1, by simp [afterVerdict]⟩
    · rw [line]
      exact fits.1
    · rw [line]
      intro halted
      refine fits.2.1.resolve_right fun waits => halted ?_
      simp [afterVerdict, waits.2]
  refine ⟨l, fits, ?_⟩
  rw [leaveLookup, eq, drained, ← eq, produceVerdict, mapLine, setLine_setLine]

/-! ## Every fold of the assembler -/

/-- What an event that loads nothing keeps of plans, ranges and records, whatever the sizes. -/
structure Loads (s t : State) : Prop where
  plans : t.plans = s.plans
  ranges : t.ranges = s.ranges
  records : RecordsMove s.directory t.directory

theorem Follows.loads {s t : State} (h : Follows s t) : Loads s t := ⟨h.plans, h.ranges, h.records⟩

theorem Loads.follows {s t : State} (h : Loads s t) (sound : ∀ q, Sound q s → Sound q t) : Follows s t :=
  ⟨h.plans, h.ranges, h.records, sound⟩

theorem Loads.trans {s t u : State} (h : Loads s t) (g : Loads t u) : Loads s u :=
  ⟨g.plans.trans h.plans, g.ranges.trans h.ranges, h.records.trans g.records⟩

theorem Loads.refl (s : State) : Loads s s := ⟨rfl, rfl, .refl _⟩

/-- A change of a line is no load. -/
theorem loads_mapLine (k : Fin 8) (f : Line → Line) (s : State) : Loads s (mapLine k f s) := ⟨rfl, rfl, .refl _⟩

theorem loads_produceVerdict (k : Fin 8) (v : Verdict) (s : State) : Loads s (produceVerdict k v s) :=
  ⟨rfl, rfl, .refl _⟩

theorem loads_decideEntry (n : Nat) (c : MessageClass) (body : List Byte) (o : Option Origin) (s : State) :
    Loads s (decideEntry n c body o s) := by
  unfold decideEntry
  split
  · next index k accepts found free =>
    obtain ⟨r, record, live, -⟩ := decision_accept accepts found
    rw [accept_eq]
    exact (⟨rfl, rfl, records_takeSlot record live⟩ : Loads s (takeSlot k index c body o s)).trans
      (follows_acceptCharge _ _ _).loads
  · exact .refl s

theorem loads_routeEntry (k : Fin 8) (ask : ForwardAsk) (s : State) : Loads s (routeEntry k ask s) := by
  unfold routeEntry
  split
  · exact loads_produceVerdict _ _ s
  · split
    · exact loads_produceVerdict _ _ s
    · exact (loads_decideEntry _ _ _ _ s).trans (loads_produceVerdict _ _ _)
    · split_ifs
      · exact loads_produceVerdict _ _ s
      · exact loads_produceVerdict _ _ s
      · exact loads_produceVerdict _ _ s
      · exact ⟨rfl, rfl, .refl _⟩

theorem loads_assemble (k : Fin 8) (s : State) (c : RxChar) : Loads s (assemble k s c) := by
  unfold assemble
  split
  · split
    · exact loads_mapLine _ _ s
    · exact .refl s
  · next e _ _ =>
    split
    · unfold checkEntry
      split
      · exact (loads_mapLine _ _ s).trans (loads_routeEntry _ _ _)
      · exact (loads_mapLine _ _ s).trans (loads_produceVerdict _ _ _)
    · exact loads_mapLine _ _ s
  · exact .refl s

/-- The characters of a FIFO, taken in turn. -/
theorem loads_assembleAll (k : Fin 8) (cs : List RxChar) (s : State) : Loads s (cs.foldl (assemble k) s) := by
  induction cs generalizing s with
  | nil => exact .refl s
  | cons c cs ih => exact (loads_assemble k s c).trans (ih _)

theorem follows_leaveLookup (k : Fin 8) (v : Verdict) (s : State) : Follows s (leaveLookup k v s) := by
  refine Loads.follows ?_ fun q i => ?_
  · unfold leaveLookup drainFifo
    refine (loads_produceVerdict k v s).trans ?_
    split
    · exact (loads_mapLine _ _ _).trans (loads_assembleAll _ _ _)
    · exact .refl _
  · obtain ⟨l, fits, eq⟩ := leaveLookup_line (v := v) (i.lines k)
    rw [eq]
    exact ((follows_mapIntakeCounts _ s).trans (follows_setLine fun _ => fits)).sound q i

/-! ## The receiver (R25 to R27) -/

/-- R26, R27: a character completed on a line in LOOKUP. -/
theorem lineFits_completeChar {l : Line} (fits : LineFits l) (state : l.state = .lookup) (runs : l.overrun = false)
    (c : RxChar) : LineFits (completeChar c l) := by
  unfold completeChar passShift
  dsimp only
  split
  · next room =>
    simp only [Config.receiverFifoSize] at room
    exact ⟨by simp only [List.length_append, List.length_singleton]; omega, .inr ⟨state, runs⟩, rfl, fits.2.2.2⟩
  · exact ⟨Nat.zero_le _, .inl rfl, rfl, fits.2.2.2⟩

/-- R25, R26: a character completed on an empty FIFO. -/
theorem completeChar_empty {l : Line} (empty : l.fifo = []) (c : RxChar) :
    completeChar c l = { l with rxShift := none, fifo := [c] } := by
  simp [completeChar, passShift, empty, Config.receiverFifoSize]

/-- R25 to R28: a character completes on a line whose receiver runs, in a station that is not UNCONFIGURED. -/
theorem follows_receiveChar {k : Fin 8} {c : RxChar} {s : State} (life : s.life.state ≠ .unconfigured)
    (runs : receiverRuns (lineAt s k) = true) : Follows s (feedAssembler k (mapLine k (completeChar c) s)) := by
  generalize eq : mapLine k (completeChar c) s = u
  have line : lineAt u k = completeChar c (lineAt s k) := by rw [← eq, mapLine, lineAt_setLine]
  have state : (lineAt u k).state = (lineAt s k).state := by
    rw [line]
    unfold completeChar passShift
    dsimp only
    split <;> rfl
  have loads : Loads s u := eq ▸ loads_mapLine _ _ s
  /- In AWAIT-OPEN and COLLECT the FIFO holds this character alone. -/
  have one : (lineAt s k).state ≠ .lookup → Follows s ((lineAt u k).fifo.foldl (assemble k)
      (mapLine k (fun l => { l with fifo := [] }) u)) := by
    intro other
    refine Loads.follows ((loads.trans (loads_mapLine _ _ _)).trans (loads_assembleAll _ _ _)) fun q i => ?_
    have fits := i.lines k
    have empty := fifo_of_not_lookup fits other
    rw [line, completeChar_empty empty]
    have back : mapLine k (fun l => { l with fifo := [] }) u
        = setLine k { lineAt s k with rxShift := none, fifo := [] } s := by
      rw [mapLine, line, completeChar_empty empty, ← eq, mapLine, setLine_setLine]
    rw [back]
    have kept : Follows s (setLine k { lineAt s k with rxShift := none, fifo := [] } s) :=
      follows_setLine fun fits => ⟨Nat.zero_le _, .inl rfl, rfl, fits.2.2.2⟩
    exact (kept.trans (follows_assemble life)).sound q i
  unfold feedAssembler
  split
  · next opening => exact one (by rw [← state, opening]; simp)
  · next collects => exact one (by rw [← state, collects]; simp)
  · next notOpen notCollect =>
    have lookup : (lineAt s k).state = .lookup ∧ (lineAt s k).overrun = false := by
      rw [state] at notOpen notCollect
      unfold receiverRuns at runs
      cases now : (lineAt s k).state <;> simp_all
    rw [← eq]
    exact follows_mapLine fun fits => lineFits_completeChar fits lookup.1 lookup.2 c

/-- The lines and the reverse port act in no UNCONFIGURED station. -/
theorem configured_of_running {s : State} (h : running s = true) : s.life.state ≠ .unconfigured := by
  simp only [running, Bool.and_eq_true, bne_iff_ne] at h
  exact h.2

theorem answers_execCharacterReceived (offpeak : Bool) (k : Fin 8) (char : Byte) (framing : Bool) (s : State) :
    Answers s (execCharacterReceived offpeak k char framing s) :=
  answers_ite fun ⟨runs, receives⟩ => (follows_withOffpeak offpeak s).trans
    (follows_receiveChar (configured_of_running runs) receives)

/-! ## Seizure, rate and the transmitter -/

theorem follows_cancelForward (key : EntryKey) (s : State) : Follows s (cancelForward key s) :=
  (busStep_convertEntry _ _ _ s).follows

/-- R35: the reply timer of a FORWARD has run out. -/
theorem follows_forwardTimedOut (e : Outstanding) (s : State) : Follows s (forwardTimedOut e s) := by
  unfold forwardTimedOut
  dsimp only
  split
  · split
    · exact (follows_cancelForward _ s).trans (follows_leaveLookup _ _ _)
    · exact follows_cancelForward _ s
  · exact follows_cancelForward _ s

theorem follows_recogniseSeize (k : Fin 8) (s : State) : Follows s (recogniseSeize k s) :=
  follows_mapLine fun fits => ⟨Nat.zero_le _, .inl rfl, rfl, fits.2.2.2⟩

theorem follows_recogniseRelease (k : Fin 8) (s : State) : Follows s (recogniseRelease k s) := by
  unfold recogniseRelease
  dsimp only
  refine .trans ?_ (follows_mapLine fun fits => ⟨Nat.zero_le _, .inl rfl, rfl, by simp [released]⟩)
  split
  · exact follows_cancelForward _ s
  · exact .refl s

/-- A change of a line that leaves its state, its characters and its entry alone. -/
theorem follows_mapLine_of_same {k : Fin 8} {f : Line → Line} {s : State} (fifo : ∀ l, (f l).fifo = l.fifo)
    (state : ∀ l, (f l).state = l.state) (overrun : ∀ l, (f l).overrun = l.overrun)
    (shift : ∀ l, (f l).rxShift = l.rxShift) (entry : ∀ l, (f l).entry = l.entry) : Follows s (mapLine k f s) :=
  follows_mapLine fun fits => by
    unfold LineFits at fits ⊢
    rwa [fifo, state, overrun, shift, entry]

/-- R23, R24: the line leaves RATE for AWAIT-OPEN. -/
theorem follows_leaveRate {k : Fin 8} {f : Line → Line} {s : State} (rate : (lineAt s k).state = .rate)
    (fifo : ∀ l, (f l).fifo = l.fifo) (shift : ∀ l, (f l).rxShift = l.rxShift) (entry : ∀ l, (f l).entry = l.entry) :
    Follows s (mapLine k f s) :=
  follows_mapLine fun fits => by
    have empty : (f (lineAt s k)).fifo = [] := by rw [fifo]; exact fifo_of_not_lookup fits (by simp [rate])
    exact ⟨by simp [empty], .inl empty, by rw [shift]; exact fits.2.2.1, by rw [entry]; exact fits.2.2.2⟩

theorem answers_execSeizeRecognised (k : Fin 8) (s : State) : Answers s (execSeizeRecognised k s) :=
  answers_ite fun _ => follows_recogniseSeize k s

theorem answers_execReleaseRecognised (k : Fin 8) (s : State) : Answers s (execReleaseRecognised k s) :=
  answers_ite fun _ => follows_recogniseRelease k s

theorem answers_execSeizeSample (k : Fin 8) (high : Bool) (s : State) : Answers s (execSeizeSample k high s) := by
  refine answers_next ?_
  split_ifs
  · exact .refl s
  · exact follows_mapLine_of_same (fun _ => rfl) (fun _ => rfl) (fun _ => rfl) (fun _ => rfl) (fun _ => rfl)
  · exact follows_recogniseRelease k s
  · exact follows_recogniseSeize k s
  · exact follows_mapLine_of_same (fun _ => rfl) (fun _ => rfl) (fun _ => rfl) (fun _ => rfl) (fun _ => rfl)

theorem answers_execCalibrationFirstEdge (k : Fin 8) (s : State) : Answers s (execCalibrationFirstEdge k s) :=
  answers_ite fun _ =>
    follows_mapLine_of_same (fun _ => rfl) (fun _ => rfl) (fun _ => rfl) (fun _ => rfl) (fun _ => rfl)

theorem answers_execRateChosen (k : Fin 8) (micros : Nat) (s : State) : Answers s (execRateChosen k micros s) :=
  answers_ite fun ⟨_, rate, _⟩ => follows_leaveRate rate (fun _ => rfl) (fun _ => rfl) (fun _ => rfl)

theorem answers_execMeasurementOverflow (k : Fin 8) (s : State) : Answers s (execMeasurementOverflow k s) :=
  answers_ite fun ⟨_, rate, _⟩ => follows_leaveRate rate (fun _ => rfl) (fun _ => rfl) (fun _ => rfl)

theorem answers_execCalibrationTimeout (k : Fin 8) (s : State) : Answers s (execCalibrationTimeout k s) :=
  answers_ite fun ⟨_, rate, _⟩ => follows_leaveRate rate (fun _ => rfl) (fun _ => rfl) (fun _ => rfl)

theorem answers_execEntryTimeout (k : Fin 8) (s : State) : Answers s (execEntryTimeout k s) :=
  answers_ite fun ⟨_, collects, _⟩ => follows_produceVerdict (by simp [collects])

theorem answers_execVerdictTransmission (k : Fin 8) (s : State) : Answers s (execVerdictTransmission k s) :=
  answers_ite fun _ => follows_mapLine fun fits => by
    unfold takeBuffer
    split <;> exact fits

end Sys2Proof.Machine
end

section
/-! What the events of the Page Store, the Retry Queue and the outstanding table keep (R47 to R50, R58, R64, R108, R162),
and those of the Exchange Unit (R163 to R168). -/

namespace Sys2Proof.Machine

/-! ## Issue (R48 to R50) -/

/-- R50: requests to remote zones, for which there is room, of a delivery that the station holds. -/
theorem follows_requestZones {k : Fin 256} {ask : AirAsk} {zones : List Nat} {s : State} (held : ¬ NoneHeld s.store)
    (room : zones.length ≤ 32 - s.bus.requests.length) (free : zones.length ≤ 96 - s.exchange.table.length) :
    Follows s (zones.foldl (requestZone k ask) s) := by
  induction zones generalizing s with
  | nil => exact .refl s
  | cons z zones ih =>
    simp only [List.length_cons] at room free
    refine .trans (follows_claimEntry (by omega) (by omega) fun _ => held) (ih held ?_ ?_)
    · simp only [claimEntry, takeSequence, State.mapExchange_bus, State.mapBus_bus, List.length_append,
        List.length_singleton]
      omega
    · simp only [claimEntry, takeSequence, State.mapExchange_exchange, State.mapBus_exchange,
        List.length_append, List.length_singleton]
      omega

theorem follows_requestOwn (k : Fin 256) (ask : AirAsk) (zone : Nat) (s : State) :
    Follows s (requestOwn k ask zone s) := (follows_admitAsk ask s).trans (follows_setZone _ _ _ _)

/-- R105: what state a delivery waited in is not seen once it waits to retry. -/
theorem enterRetry_mapDelivery {k : Fin 256} {d : Delivery} {s : State} (held : deliveryAt s k = some d)
    (a : DeliveryState) : enterRetry k (mapDelivery k (fun x => { x with state := a }) s) = enterRetry k s := by
  unfold enterRetry
  rw [deliveryAt_mapDelivery, held]
  simp only [Option.map_some, mapDelivery_mapDelivery]
  rfl

/-- R50: the issue of the head, when there is room for its requests. -/
theorem follows_issueHead {k : Fin 256} {d : Delivery} {rest : List (Fin 256)} {s : State}
    (head : s.store.issue = k :: rest) (held : deliveryAt s k = some d) (can : canIssue s d = true) :
    Follows s (issueHead k d s) := by
  obtain ⟨free, room⟩ : (remoteSent s (issueZones s d)).length ≤ 96 - s.exchange.table.length
      ∧ (remoteSent s (issueZones s d)).length ≤ 32 - s.bus.requests.length := by
    simp only [canIssue, Bool.and_eq_true] at can
    obtain ⟨⟨-, free⟩, room⟩ := can
    have free := of_decide_eq_true free
    have room := of_decide_eq_true room
    simp only [outstandingFree, Config.outstandingSize] at free
    simp only [requestRoom, Config.requestQueueSize] at room
    omega
  unfold issueHead
  dsimp only
  generalize opens : (fun x : Delivery => { x with
    issued := true, attempt := some (Attempt.mk (d.counted + 1) (issueZones s d) none none) }) = f
  have pending : Follows s (mapDelivery k (fun x => { x with state := .airPending })
      (mapDelivery k f (s.mapStore fun p => { p with issue := p.issue.tail }))) := by
    rw [mapDelivery_mapDelivery]
    exact follows_popIssue head held (by rw [← opens]) (by simp) (by simp)
  have opened : deliveryAt (mapDelivery k f (s.mapStore fun p => { p with issue := p.issue.tail })) k = some (f d) := by
    rw [deliveryAt_mapDelivery]
    change (deliveryAt s k).map f = some (f d)
    rw [held]
    rfl
  have waits : deliveryAt (mapDelivery k (fun x => { x with state := .airPending })
      (mapDelivery k f (s.mapStore fun p => { p with issue := p.issue.tail }))) k
        = some { f d with state := .airPending } := by
    rw [deliveryAt_mapDelivery, opened]
    rfl
  split
  · refine .trans ?_ (follows_afterResolved k _)
    refine .trans ?_ (follows_foldl (fun _ _ => follows_requestOwn _ _ _ _) _ _)
    exact .trans pending (follows_requestZones (not_noneHeld waits) room free)
  · rw [← enterRetry_mapDelivery opened .airPending]
    exact .trans pending (follows_enterRetry waits (by simp) (by simp))

theorem follows_issueHeads (fuel : Nat) (s : State) : Follows s (issueHeads fuel s) := by
  induction fuel generalizing s with
  | zero => exact .refl s
  | succ fuel ih =>
    unfold issueHeads
    split
    · exact .refl s
    · next k d issues =>
      obtain ⟨⟨rest, head⟩, held, can⟩ := issuable_some issues
      exact (follows_issueHead head held can).trans (ih _)

theorem answers_execIssue (offpeak : Bool) (s : State) : Answers s (execIssue offpeak s) := by
  refine answers_next ?_
  split
  · exact .refl s
  · next k d issues =>
    obtain ⟨⟨rest, head⟩, held, can⟩ := issuable_some issues
    exact (follows_withOffpeak offpeak s).trans (follows_issueHead head held can)

/-! ## Expiries and releases -/

theorem follows_expireLifetime {k : Fin 256} {d : Delivery} {s : State} (held : deliveryAt s k = some d) :
    Follows s (expireLifetime k d s) := by
  have expires : Follows s (mapDelivery k (fun x => { x with expiry := true }) s) :=
    follows_mapDelivery fun _ _ => .of_eq rfl rfl rfl
  have out : d.state ≠ .issuing → d.state ≠ .retryWait →
      SlotOut k (mapDelivery k (fun x => { x with expiry := true }) s) := fun issuing waiting => by
    refine slotOut_mapDelivery (fun x same => ?_) fun _ => rfl
    rw [← Option.some.inj (held.symm.trans same)]
    exact ⟨issuing, waiting⟩
  unfold expireLifetime
  split
  · exact follows_endDelivery k _ s
  · exact follows_endDelivery k _ s
  · next state => exact expires.trans (follows_closeAttempt (out (by simp [state]) (by simp [state])) _)
  · next state => exact expires.trans (follows_closeAttempt (out (by simp [state]) (by simp [state])) _)
  · exact expires

theorem answers_execLifetimeExpiry (offpeak : Bool) (k : Fin 256) (s : State) :
    Answers s (execLifetimeExpiry offpeak k s) := by
  refine answers_next ?_
  split
  · exact .refl s
  · next d held =>
    split
    · exact (follows_withOffpeak offpeak s).trans (follows_expireLifetime held)
    · exact .refl s

theorem answers_execAckWaitExpiry (offpeak : Bool) (k : Fin 256) (s : State) :
    Answers s (execAckWaitExpiry offpeak k s) := by
  refine answers_next ?_
  split
  · exact .refl s
  · next d held =>
    split
    · next waits =>
      refine (follows_withOffpeak offpeak s).trans (follows_closeAttempt (fun x same => ?_) _)
      rw [← Option.some.inj (held.symm.trans same)]
      constructor <;> simp [waits.1]
    · exact .refl s

theorem follows_completeEntry (e : Outstanding) (s : State) : Follows s (completeEntry e s) := by
  have freed := (busStep_freeEntry e.key s).follows
  unfold completeEntry
  split
  · exact follows_forwardTimedOut e s
  · exact freed.trans (follows_mapIntakeCounts _ _)
  all_goals
    split
    · exact freed.trans (follows_loseZone _ _ _)
    · exact freed

theorem answers_execReplyTimeout (offpeak : Bool) (key : EntryKey) (s : State) :
    Answers s (execReplyTimeout offpeak key s) := by
  refine answers_next ?_
  split
  · exact .refl s
  · split
    · exact ((follows_withOffpeak offpeak s).trans (busStep_mapExchangeCounts _ _).follows).trans
        (follows_completeEntry _ _)
    · exact .refl s

/-- R108: deliveries of the Retry Queue are released in turn. -/
theorem sound_releaseRetries {q : Prop} {ks : List (Fin 256)} {s : State} (i : Sound q s) (once : ks.Nodup)
    (wait : ∀ k ∈ ks, k ∈ s.store.retry) : Sound q (ks.foldl releaseRetry s) := by
  induction ks generalizing s with
  | nil => exact i
  | cons k ks ih =>
    obtain ⟨gone, once⟩ := List.nodup_cons.mp once
    refine ih ((follows_releaseRetry (wait k (List.mem_cons_self ..))).sound q i) once fun j mem => ?_
    have ne : j ≠ k := fun e => gone (e ▸ mem)
    exact List.mem_filter.mpr ⟨wait j (List.mem_cons_of_mem _ mem), by simpa using ne⟩

theorem answers_execRetryRelease (s : State) : Answers s (execRetryRelease s) := by
  refine answers_ite fun _ => ?_
  have due : (dueRetries s).Sublist s.store.retry := List.takeWhile_sublist _
  refine .of_sound ?_ ?_ ?_ fun q i => sound_releaseRetries i (i.queues.retryOnce.sublist due) fun k mem => due.subset mem
  · exact foldl_keeps State.plans releaseRetry (fun _ _ => rfl) _ s
  · exact foldl_keeps State.ranges releaseRetry (fun _ _ => rfl) _ s
  · exact foldl_keeps State.directory releaseRetry (fun _ _ => rfl) _ s

/-! ## The Exchange Unit -/

theorem follows_completeKey (s : State) (key : EntryKey) : Follows s (completeKey s key) := by
  unfold completeKey
  split
  · exact follows_completeEntry _ s
  · exact .refl s

theorem follows_completeKeys (keys : List EntryKey) (s : State) : Follows s (completeKeys keys s) := by
  unfold completeKeys
  dsimp only
  split
  · exact follows_foldl follows_completeKey _ s
  · exact (follows_foldl follows_completeKey _ s).trans (follows_issueHeads _ _)

theorem follows_freshJoin (station : Nat) (s : State) : Follows s (freshJoin station s) := by
  unfold freshJoin
  dsimp only
  have purged := ((follows_purgeAir station s).trans (follows_purgeReports station _)).trans
    (busStep_removeAnswers (fun f => f.kind == .heard && f.dest.toNat == station) _).follows
  split
  · exact (purged.trans (follows_completeKeys _ _)).trans (follows_ordinaryPresence _)
  · exact purged.trans (follows_completeKeys _ _)

theorem answers_execPresenceTimeout (peer : Nat) (s : State) : Answers s (execPresenceTimeout peer s) :=
  answers_ite fun _ => ((busStep_setPresence _ _ s).trans (busStep_mapExchangeCounts _ _)).follows

theorem answers_execPresenceInterval (s : State) : Answers s (execPresenceInterval s) := by
  refine answers_ite fun _ => ?_
  have stopped : Follows s (s.mapExchange fun x => { x with intervalDue := none }) :=
    (busStep_mapExchange (le_refl _)).follows
  dsimp only
  split
  · exact stopped
  · exact stopped.trans (follows_ordinaryPresence _)

theorem answers_execListenTimer (s : State) : Answers s (execListenTimer s) := by
  refine answers_ite fun _ => ?_
  refine .trans ?_ (follows_makePresence fun h => by simp at h)
  exact (busStep_mapExchange (le_refl _)).follows

theorem answers_execDrain (s : State) : Answers s (execDrain s) :=
  answers_ite fun ⟨state, _, holds⟩ => follows_announceLeaving state holds

end Sys2Proof.Machine
end

section
/-! What the reception of characters (R140, R141), the frames taken from the bus (R142, R156 to R163) and the bus line
(R143 to R150, R167, R168) keep. -/

namespace Sys2Proof.Machine

/-! ## Reception -/

/-- R138, R140: a further character leaves a frame that is not yet as long as its length asks for. -/
theorem rxFits_joinFrame {c : BusChar} {bytes : List Byte} (fits : RxFits bytes) :
    ∀ next ∈ (joinFrame c bytes).1, RxFits next := by
  intro next joined
  unfold joinFrame at joined
  dsimp only at joined
  split_ifs at joined with framing long short crc <;> simp at joined
  subst joined
  obtain ⟨one, whole⟩ := fits
  rw [List.length_append, List.length_singleton] at long short
  refine ⟨by simp, fun five => ?_⟩
  rw [List.length_append, List.length_singleton] at five ⊢
  have length : (byteAt (bytes ++ [dataOf c]) 4).toNat ≤ 96 := by
    by_cases fifth : bytes.length = 4
    · have : byteAt (bytes ++ [dataOf c]) 4 = dataOf c := by simp [byteAt, fifth]
      rw [this]
      by_contra above
      exact long ⟨by omega, by omega⟩
    · have : byteAt (bytes ++ [dataOf c]) 4 = byteAt bytes 4 := by
        simp only [byteAt, List.getD_eq_getElem?_getD]
        rw [List.getElem?_append_left (by omega)]
      rw [this]
      exact (whole (by omega)).1
  simp only [frameLength] at short
  exact ⟨length, by omega⟩

/-- R137, R140: a character leaves a frame under reception within its size. -/
theorem rxFits_receiveChar {mine : Byte → Bool} {rx : Option (List Byte)} {c : BusChar} (fits : ∀ bytes ∈ rx, RxFits bytes) :
    ∀ bytes ∈ (receiveChar mine rx c).1, RxFits bytes := by
  unfold receiveChar
  split
  · exact fits
  · split
    · unfold openFrame
      dsimp only
      split_ifs <;> simp [RxFits]
    · split
      · simp
      · next bytes => exact rxFits_joinFrame (fits bytes rfl)

theorem busStep_hearChar (c : BusChar) (s : State) : BusStep s (hearChar c s).1 := by
  rw [hearChar_state]
  split
  · exact ⟨rfl, id, id, rxFits_receiveChar, le_refl _, .refl _⟩
  · exact .refl s

/-- R140: the characters heard are a step on the bus. -/
theorem busStep_listen {heard : List BusChar} {s t : State} {e : RxEvent} (h : listen heard s = some (t, e)) :
    BusStep s t := by
  induction heard generalizing s with
  | nil =>
    simp only [listen, Option.some.injEq, Prod.mk.injEq] at h
    exact h.1 ▸ .refl s
  | cons c rest ih =>
    have first := busStep_hearChar c s
    unfold listen at h
    split at h
    · simp only [Option.some.injEq] at h
      rwa [h] at first
    · split at h
      · exact first.trans (ih h)
      · simp at h

theorem busStep_listenOn (heard : List BusChar) (s : State) : BusStep s (listenOn heard s) := by
  unfold listenOn
  split
  · next t eq => exact busStep_listen eq
  · exact .refl s

/-- A change of the bus that lets no frame in: of its queues, its transmission and its reception. -/
theorem busStep_of_fewer {f : Bus → Bus} {s : State} (answers : (f s.bus).answers.length ≤ s.bus.answers.length)
    (requests : (f s.bus).requests.length ≤ s.bus.requests.length)
    (rx : (f s.bus).rx = s.bus.rx ∨ (f s.bus).rx = none) (kept : (keptIn (f s.bus)).Sublist (keptIn s.bus)) :
    BusStep s (s.mapBus f) where
  outside := rfl
  answers := answers.trans
  requests := requests.trans
  reception fits := by
    rw [State.mapBus_bus]
    rcases rx with same | gone
    · rwa [same]
    · simp [gone]
  table := le_refl _
  kept := by
    rw [presencesKept, presencesKept, keptRequests_eq, keptRequests_eq]
    exact kept.filter _

theorem busStep_countDiscards (causes : List DiscardCause) (s : State) : BusStep s (countDiscards causes s) :=
  busStep_mapBusCounts _ s

theorem busStep_cutFrame (s : State) : BusStep s (cutFrame s) := by
  unfold cutFrame
  split
  · exact (busStep_of_fewer (f := fun b => { b with rx := none }) (le_refl _) (le_refl _) (.inr rfl) (.refl _)).trans
      (busStep_countDiscards _ _)
  · exact .refl s

theorem busStep_measureRun (bits : Nat) (s : State) : BusStep s (measureRun bits s) := by
  unfold measureRun
  split
  · refine busStep_of_fewer (le_refl _) (le_refl _) (.inl rfl) ?_
    split
    · next breaks => simp [keptIn, breaks.1]
    · exact .refl _
  · exact .refl s

/-! ## Taking a frame -/

/-- R140, R142, R163: a frame taken, when what is done with it follows. -/
theorem follows_takeFrame {kind : Byte → Bool} {heard : List BusChar} {act : Received → State → State} {s : State}
    (h : ∀ f t, Follows t (act f t)) : Follows s (takeFrame kind heard act s) := by
  unfold takeFrame
  split
  · next t bytes heardAll =>
    dsimp only
    split
    · refine .trans ((busStep_listen heardAll).trans ?_).follows (h _ _)
      exact (busStep_mapBusCounts _ t).trans (busStep_setPresence _ _ _)
    · exact .refl s
  · exact .refl s

/-- R156: checks 2 and 3. -/
theorem follows_checked {α : Type} {f : Received} {content : Option α} {act : α → State → State} {s : State}
    (h : ∀ x, Follows s (act x s)) : Follows s (checked f content act s) := by
  unfold checked
  split
  · exact (busStep_mapExchangeCounts _ s).follows
  · split
    · exact h _
    · exact (busStep_mapExchangeCounts _ s).follows

/-- R157: what is done by a member of the office. -/
theorem follows_membersOnly {act : State → State} {s : State} (h : member s = true → Follows s (act s)) :
    Follows s (membersOnly act s) := by
  unfold membersOnly
  split
  · next isMember => exact h isMember
  · exact (busStep_mapExchangeCounts _ s).follows

/-- R161: a reply handed to the owner of its entry. -/
theorem follows_matched {f : Received} {kind : EntryKind} {act : Outstanding → State → State} {s : State}
    (h : ∀ e, Follows s (act e s)) : Follows s (matched f kind act s) := by
  unfold matched
  split
  · split
    · exact h _
    · exact (busStep_mapExchangeCounts _ s).follows
  · exact (busStep_mapExchangeCounts _ s).follows

/-- R157: a member is ON-BUS or LEAVING. -/
theorem state_of_member {s : State} (h : member s = true) : s.life.state = .onBus ∨ s.life.state = .leaving := by
  unfold member at h
  split at h
  · next onBus => exact .inl onBus
  · next leaving => exact .inr leaving
  · simp at h

theorem answers_execForward (offpeak : Bool) (heard : List BusChar) (s : State) :
    Answers s (execForward offpeak heard s) :=
  answers_next <| (follows_withOffpeak offpeak s).trans <| follows_takeFrame fun _ _ => follows_checked fun _ =>
    follows_membersOnly fun isMember =>
      (follows_decideEntry (state_of_member isMember)).trans (busStep_answerTo _ _ _ _ _).follows

theorem follows_cancelOrigin (o : Origin) (s : State) : Follows s (cancelOrigin o s) := by
  unfold cancelOrigin
  split
  · exact follows_endDelivery _ _ s
  · exact .refl s

theorem answers_execCancel (offpeak : Bool) (heard : List BusChar) (s : State) :
    Answers s (execCancel offpeak heard s) :=
  answers_next <| (follows_withOffpeak offpeak s).trans <| follows_takeFrame fun _ _ => follows_checked fun _ =>
    follows_membersOnly fun _ => (follows_cancelOrigin _ _).trans (busStep_answerTo _ _ _ _ _).follows

theorem answers_execAirRequest (heard : List BusChar) (s : State) : Answers s (execAirRequest heard s) :=
  answers_next <| follows_takeFrame fun _ _ => follows_checked fun _ => follows_membersOnly fun _ =>
    (follows_admitAsk _ _).trans (busStep_answerTo _ _ _ _ _).follows

theorem follows_takeWithdraw (f : Received) (t : Tag) (s : State) : Follows s (takeWithdraw f t s) := by
  unfold takeWithdraw
  dsimp only
  split
  · exact (follows_withdrawAir _ _ s).trans (busStep_answerTo _ _ _ _ _).follows
  · exact follows_withdrawAir _ _ s
  · exact (follows_withdrawAir _ _ s).trans (busStep_answerTo _ _ _ _ _).follows

theorem answers_execWithdraw (heard : List BusChar) (s : State) : Answers s (execWithdraw heard s) :=
  answers_next <| follows_takeFrame fun _ _ => follows_checked fun _ => follows_membersOnly fun _ =>
    follows_takeWithdraw _ _ _

theorem answers_execAired (offpeak : Bool) (heard : List BusChar) (s : State) :
    Answers s (execAired offpeak heard s) :=
  answers_next <| (follows_withOffpeak offpeak s).trans <| follows_takeFrame fun _ _ => follows_checked fun _ =>
    follows_membersOnly fun _ => follows_foldl (fun _ _ => follows_takeAired _ _ _) _ _

theorem answers_execHeard (offpeak : Bool) (heard : List BusChar) (s : State) :
    Answers s (execHeard offpeak heard s) :=
  answers_next <| (follows_withOffpeak offpeak s).trans <| follows_takeFrame fun _ _ => follows_checked fun _ =>
    follows_membersOnly fun _ => follows_takeHeard _ _

/-! ## Replies -/

theorem follows_takeTaken (code : Byte) (e : Outstanding) (s : State) : Follows s (takeTaken code e s) := by
  have freed := (busStep_freeEntry e.key s).follows
  unfold takeTaken
  dsimp only
  split
  · split
    · refine freed.trans (.trans ?_ (follows_leaveLookup _ _ _))
      exact follows_mapLine fun fits => by
        unfold countBadTaken
        split <;> exact fits
    · exact freed
  · exact freed

theorem answers_execTaken (heard : List BusChar) (s : State) : Answers s (execTaken heard s) :=
  answers_next <| follows_takeFrame fun _ _ => follows_checked fun _ => follows_matched fun _ => follows_takeTaken _ _ _

theorem answers_execCancelAnswer (heard : List BusChar) (s : State) : Answers s (execCancelAnswer heard s) :=
  answers_next <| follows_takeFrame fun _ _ => follows_checked fun _ => follows_matched fun _ =>
    (busStep_freeEntry _ _).follows.trans (follows_mapIntakeCounts _ _)

theorem follows_takeAirAnswer (code : AirCode) (e : Outstanding) (s : State) : Follows s (takeAirAnswer code e s) := by
  unfold takeAirAnswer
  split
  · exact .refl s
  · split
    · exact .refl s
    · split_ifs
      · exact .refl s
      · exact (busStep_freeEntry _ s).follows.trans (follows_resolveZone _ _ _ _)
      · exact (follows_setZone _ _ _ s).trans (busStep_mapEntry _ _ _).follows
      · exact (follows_setZone _ _ _ s).trans (busStep_convertEntry _ _ _ _).follows

theorem answers_execAirAnswer (offpeak : Bool) (heard : List BusChar) (s : State) :
    Answers s (execAirAnswer offpeak heard s) :=
  answers_next <| (follows_withOffpeak offpeak s).trans <| follows_takeFrame fun _ _ => follows_checked fun _ =>
    follows_matched fun _ => follows_takeAirAnswer _ _ _

theorem follows_takeWithdrawn (e : Outstanding) (s : State) : Follows s (takeWithdrawn e s) := by
  unfold takeWithdrawn
  split
  · exact .refl s
  · split
    · exact (busStep_freeEntry _ s).follows.trans (follows_resolveZone _ _ _ _)
    · exact .refl s

theorem answers_execWithdrawn (offpeak : Bool) (heard : List BusChar) (s : State) :
    Answers s (execWithdrawn offpeak heard s) :=
  answers_next <| (follows_withOffpeak offpeak s).trans <| follows_takeFrame fun _ _ => follows_checked fun _ =>
    follows_matched fun _ => follows_takeWithdrawn _ _

/-! ## PRESENCE and frames that are not taken -/

theorem follows_takePresence (src : Nat) (b : PresenceBody) (s : State) : Follows s (takePresence src b s) := by
  have noted := busStep_setPresence src (refreshedBy s b) s
  unfold takePresence
  dsimp only
  split_ifs
  · exact ((noted.trans (busStep_setPresence _ _ _)).trans (busStep_mapExchangeCounts _ _)).follows
  · exact (noted.trans (busStep_mapExchangeCounts _ _)).follows.trans (follows_freshJoin _ _)
  · exact noted.follows

theorem answers_execPresence (offpeak : Bool) (heard : List BusChar) (s : State) :
    Answers s (execPresence offpeak heard s) := by
  refine answers_next <| (follows_withOffpeak offpeak s).trans <| follows_takeFrame fun f t => ?_
  split
  · exact follows_takePresence _ _ _
  · exact (busStep_mapExchangeCounts _ _).follows

theorem answers_execBadKindFrame (kind : Byte) (heard : List BusChar) (s : State) :
    Answers s (execBadKindFrame kind heard s) :=
  answers_next <| follows_takeFrame fun _ _ => (busStep_mapExchangeCounts _ _).follows

theorem answers_execFrameDroppedBySource (src : Byte) (heard : List BusChar) (s : State) :
    Answers s (execFrameDroppedBySource src heard s) := by
  refine answers_next ?_
  split
  · next t bytes heardAll =>
    split
    · refine ((busStep_listen heardAll).trans ?_).follows
      unfold dropFrame
      split
      · exact busStep_mapBusCounts _ _
      · exact busStep_mapBusCounts _ _
      · exact .refl _
      · exact .refl _
    · exact .refl s
  · exact .refl s

theorem answers_execFrameDiscard (heard : List BusChar) (s : State) : Answers s (execFrameDiscard heard s) := by
  refine answers_next ?_
  split
  · next t causes heardAll =>
    split
    · exact .refl s
    · exact ((busStep_listen heardAll).trans (busStep_countDiscards _ _)).follows
  · exact .refl s

/-! ## Breaks, marks and a transmission given up -/

theorem busStep_endRun (s : State) : BusStep s (endRun s) :=
  (busStep_cutFrame s).trans (busStep_mapBus rfl rfl rfl rfl rfl)

theorem busStep_endOwnRun (s : State) : BusStep s (endOwnRun s) := by
  refine busStep_of_fewer (le_refl _) (le_refl _) (.inl rfl) ?_
  split
  · next breaks => simp [keptIn, breaks]
  · exact .refl _

theorem answers_execBreakHeard (bits : Nat) (s : State) : Answers s (execBreakHeard bits s) := by
  refine answers_ite fun _ => ?_
  split
  · exact ((busStep_endRun s).trans (busStep_endOwnRun _)).follows
  · exact ((busStep_endRun s).trans (busStep_mapBusCounts _ _)).follows.trans (follows_takeMark _)

theorem answers_execShortBreak (bits : Nat) (s : State) : Answers s (execShortBreak bits s) :=
  answers_ite fun _ => ((busStep_endRun s).trans (busStep_mapBusCounts _ _)).follows

/-- R144: nothing is in transmission when a transmission may begin. -/
theorem tx_of_mayTransmit {s : State} (h : mayTransmit s = true) : s.bus.tx = .idle := by
  simp only [mayTransmit, Bool.and_eq_true, beq_iff_eq] at h
  exact h.1.2

/-- What BUS_TX begins with no removal called for keeps every request. -/
theorem busStep_begin {f : Bus → Bus} {s : State} (idle : s.bus.tx = .idle) (tx : removing (f s.bus).tx = false)
    (answers : (f s.bus).answers = s.bus.answers) (requests : (f s.bus).requests = s.bus.requests)
    (waiting : (f s.bus).waiting = s.bus.waiting) (rx : (f s.bus).rx = s.bus.rx) : BusStep s (s.mapBus f) := by
  refine busStep_of_fewer (by rw [answers]) (by rw [requests]) (.inl rx) ?_
  simp [keptIn, tx, requests, waiting, idle]

theorem answers_execBreakStart (gap : Nat) (s : State) : Answers s (execBreakStart gap s) :=
  answers_ite fun ⟨may, _⟩ => by
    have drives : BusStep s (driveBreak s) := busStep_begin (tx_of_mayTransmit may) rfl rfl rfl rfl rfl
    exact ((drives.trans (busStep_clearMark _)).follows.trans (follows_takeMark _)).trans (follows_mapAirCounts _ _)

theorem answers_execTransmissionStart (gap : Nat) (s : State) : Answers s (execTransmissionStart gap s) := by
  refine answers_ite fun ⟨may, _⟩ => ?_
  have idle := tx_of_mayTransmit may
  split
  · split
    · exact (busStep_begin idle rfl rfl rfl rfl rfl).follows
    · exact .refl s
  · split
    · exact (busStep_begin idle rfl rfl rfl rfl rfl).follows
    · exact .refl s
  · exact .refl s

/-- R146, R153: a transmission given up keeps the requests that are kept. -/
theorem busStep_giveUp (s : State) : BusStep s (giveUp s) := by
  unfold giveUp
  split
  · next tx =>
    exact busStep_of_fewer (List.tail_sublist _).length_le (le_refl _) (.inl rfl) (by simp [keptIn, tx])
  · next tx =>
    exact (busStep_of_fewer (f := fun b => { b with tx := .idle, requests := b.requests.tail }) (le_refl _)
      (List.tail_sublist _).length_le (.inl rfl) (by simp [keptIn, tx])).trans (busStep_refill _)
  · next notAnswer notRequest =>
    refine busStep_of_fewer (le_refl _) (le_refl _) (.inl rfl) ?_
    have : removing s.bus.tx = false := by
      unfold removing
      split
      · next chars tx => exact absurd tx (notRequest chars)
      · rfl
    simp [keptIn, this]

theorem answers_execLostArbitration (txFault : Bool) (s : State) : Answers s (execLostArbitration txFault s) :=
  answers_ite fun _ => ((busStep_giveUp s).trans (busStep_mapBusCounts _ _)).follows

theorem busStep_stopBus (s : State) : BusStep s (stopBus s) :=
  ((busStep_cutFrame s).trans (busStep_giveUp _)).trans (busStep_mapBus rfl rfl rfl rfl rfl)

theorem answers_execStuckLine (s : State) : Answers s (execStuckLine s) :=
  answers_ite fun _ => by
    refine .trans ?_ (busStep_mapExchange (le_refl _)).follows
    refine .trans ?_ (follows_mapPort _ _)
    exact ((busStep_stopBus s).trans (busStep_mapBusCounts _ _)).follows

theorem answers_execStoppedConditionEnd (quiet : Nat) (s : State) : Answers s (execStoppedConditionEnd quiet s) :=
  answers_ite fun _ => (busStep_mapBus rfl rfl rfl rfl rfl).follows

/-! ## A PRESENCE sent whole (R165, R167, R168) -/

/-- R167: a joining station enters ON-BUS. -/
theorem follows_enterOnBus {s : State} (joining : s.life.state = .joining) : Follows s (enterOnBus s) := by
  unfold enterOnBus
  refine .trans ?_ (follows_mapAir ⟨le_refl _, le_refl _, id⟩)
  refine .of_sound rfl rfl rfl fun q i => { i with members := fun notOnBus => absurd rfl notOnBus, leaving := fun leaves => ?_ }
  have := (i.leaving leaves).1
  simp [joining] at this

/-- R53: with no delivery held, no tag of a report applies. -/
theorem takeAired_of_none {s : State} (none : NoneHeld s.store) (zone : Nat) (t : Tag) : takeAired zone s t = s := by
  have : (deliveryAt s (tagSlot t)).isSome = false := by
    rw [show deliveryAt s (tagSlot t) = Option.none from none (tagSlot t)]
    rfl
  simp [takeAired, airedApplies, tagMatches, this]

/-- A step on the bus leaves the Page Store as it is. -/
theorem BusStep.noneHeld {s t : State} (h : BusStep s t) (none : NoneHeld s.store) : NoneHeld t.store := by
  obtain ⟨-, -, -, -, -, -, store, -⟩ := eq_of_outsideBus h.outside
  rwa [store]

/-- A fold of effects that are steps on the bus while no delivery is held. -/
theorem busStep_foldl {α : Type} {f : State → α → State} (h : ∀ s a, NoneHeld s.store → BusStep s (f s a))
    (xs : List α) {s : State} (none : NoneHeld s.store) : BusStep s (xs.foldl f s) := by
  induction xs generalizing s with
  | nil => exact .refl s
  | cons a xs ih =>
    have first := h s a none
    exact first.trans (ih (first.noneHeld none))

theorem busStep_reportHome (tags : List Tag) (s : State) (home : Byte) (none : NoneHeld s.store) :
    BusStep s (reportHome tags s home) := by
  unfold reportHome
  dsimp only
  split
  · exact busStep_foldl (fun t a none => by rw [takeAired_of_none none]; exact .refl t) _ none
  · exact busStep_foldl (fun t a _ => busStep_answerTo _ _ _ _ t) _ none

theorem busStep_answerOwed (s : State) (e : AirEntry) (none : NoneHeld s.store) : BusStep s (answerOwed s e) := by
  unfold answerOwed
  split
  · split
    · have : attemptAt s (tagSlot e.tag) = Option.none := by
        rw [attemptAt, show deliveryAt s (tagSlot e.tag) = Option.none from none (tagSlot e.tag)]
        rfl
      rw [ownWithdrawn, this]
      exact .refl s
    · exact busStep_answerTo _ _ _ _ s
  · exact .refl s

/-- R89: a cycle that ends with no delivery held keeps the store empty and lets no request in. -/
theorem endAnyCycle_of_none {s : State} (none : NoneHeld s.store) (quiet : presencesKept s = []) :
    NoneHeld (endAnyCycle s).store ∧ presencesKept (endAnyCycle s) = [] := by
  unfold endAnyCycle
  split
  · next y _ =>
    have reports : BusStep s (makeReports y s) := busStep_foldl (busStep_reportHome _) _ none
    have owed : BusStep (makeReports y s) (makeOwed (makeReports y s)) :=
      busStep_foldl (fun _ _ => busStep_foldl busStep_answerOwed _) _ (reports.noneHeld none)
    have ends := reports.trans owed
    exact ⟨ends.noneHeld none, List.sublist_nil.mp (quiet ▸ ends.kept)⟩
  · exact ⟨none, quiet⟩

/-- R168: a station with no delivery and no PRESENCE left enters CONFIGURED. -/
theorem follows_enterConfigured {s t : State} (before : Follows s t)
    (empty : ∀ q, Sound q s → NoneHeld t.store ∧ presencesKept t = []) : Follows s (enterConfigured t) := by
  generalize eq : ((ignoreReports (clearMark ((endAnyCycle t).mapAir fun a => { a with timer := none }))).mapExchange
    fun x => { x with intervalDue := none, leaveMade := false }) = u
  have ended : Follows s u := by
    rw [← eq]
    refine .trans ?_ (busStep_mapExchange (le_refl _)).follows
    refine .trans ?_ (follows_mapMatcher fun i => ⟨Nat.zero_le _, i.run⟩)
    refine .trans ?_ (busStep_clearMark _).follows
    refine .trans ?_ (follows_mapAir ⟨le_refl _, le_refl _, id⟩)
    exact before.trans (follows_endAnyCycle t)
  have store : u.store = (endAnyCycle t).store := by rw [← eq]; rfl
  have kept : presencesKept u = presencesKept (endAnyCycle t) := by rw [← eq]; rfl
  have configured : enterConfigured t = u.mapLife fun l => { l with state := .configured } := by rw [← eq]; rfl
  rw [configured]
  refine ⟨ended.plans, ended.ranges, ended.records, fun q i => ?_⟩
  obtain ⟨none, quiet⟩ := endAnyCycle_of_none (empty q i).1 (empty q i).2
  rw [← store] at none
  rw [← kept] at quiet
  exact { ended.sound q i with
    members := fun _ _ => none
    leaving := fun ⟨f, mem, _⟩ => by
      have : f ∈ presencesKept u := mem
      simp [quiet] at this }

/-- R145: the head of the request queue has been sent. -/
def requestLeft (s : State) : State := countSent (s.mapBus fun b => { b with tx := .idle, requests := b.requests.tail })

/-- The requests kept once the head has been sent: all but the head. -/
theorem keptRequests_left (s : State) : keptRequests (requestLeft s) = s.bus.requests.tail ++ s.bus.waiting := rfl

theorem busStep_requestLeft {s : State} {chars : List BusChar} {removed : Bool} (tx : s.bus.tx = .request chars removed) :
    BusStep s (requestLeft s) := by
  unfold requestLeft countSent
  refine .trans (busStep_of_fewer (le_refl _) (List.tail_sublist _).length_le (.inl rfl) ?_) (busStep_mapBusCounts _ _)
  cases removed
  · simp [keptIn, tx, (List.tail_sublist _).append_right]
  · simp [keptIn, tx]

/-- R168: the leaving PRESENCE sent whole leaves a drained station with no other PRESENCE. -/
theorem empty_of_leavingSent {q : Prop} {s : State} {chars : List BusChar} {f : Frame} {rest : List Frame}
    {b : PresenceBody} (i : Sound q s) (tx : s.bus.tx = .request chars false) (head : s.bus.requests = f :: rest)
    (kind : f.kind = .presence) (body : readPresence f.payload = some b) (leaves : b.leaving = true) :
    NoneHeld s.store ∧ presencesKept (requestLeft s) = [] := by
  have kept : presencesKept s = f :: presencesKept (requestLeft s) := by
    rw [presencesKept, presencesKept, keptRequests_left, keptRequests_eq, keptIn, tx, head]
    simp [kind]
  refine ⟨(i.leaving ⟨f, by simp [kept], kind, ?_⟩).2.1, ?_⟩
  · unfold readPresence at body
    split at body
    · next st fl payload =>
      split at body
      · refine ⟨st, fl, payload, ?_⟩
        rw [← Option.some.inj body] at leaves
        exact leaves
      · simp at body
    · simp at body
  · have := i.onePresence
    rw [kept, List.length_cons] at this
    exact List.length_eq_zero_iff.mp (by omega)

theorem follows_requestSent {s : State} {chars : List BusChar} {removed : Bool} {f : Frame} {rest : List Frame}
    (tx : s.bus.tx = .request chars removed) (head : s.bus.requests = f :: rest) :
    Follows s (requestSent f removed s) := by
  have left := busStep_requestLeft tx
  refine .trans ?_ (busStep_refill _).follows
  change Follows s (if f.kind = .presence then presenceWhole f removed (requestLeft s)
    else if removed = true then requestLeft s else markSent f (requestLeft s))
  split
  · next kind =>
    unfold presenceWhole
    dsimp only
    generalize eq : (requestLeft s).mapExchange _ = sent
    have counted : BusStep (requestLeft s) sent := by rw [← eq]; exact busStep_mapExchange (le_refl _)
    have follows := (left.trans counted).follows
    split
    · next b body =>
      split_ifs with marked joins leaves
      · exact follows
      · exact follows.trans (follows_enterOnBus (by rw [← eq]; exact joins.2))
      · refine follows_enterConfigured follows fun q i => ?_
        rw [Bool.not_eq_true] at marked
        obtain ⟨none, quiet⟩ := empty_of_leavingSent i (marked ▸ tx) head kind body leaves.1
        exact ⟨(left.trans counted).noneHeld none, List.sublist_nil.mp (quiet ▸ counted.kept)⟩
      · exact follows
    · exact follows
  · split
    · exact left.follows
    · exact (left.trans (busStep_mapExchange (by simp))).follows

theorem answers_execFrameSent (s : State) : Answers s (execFrameSent s) := by
  refine answers_next ?_
  split
  · exact .refl s
  · split
    · next tx answers =>
      refine ((busStep_of_fewer (f := fun b => { b with tx := .idle, answers := _ }) ?_ (le_refl _) (.inl rfl) ?_).trans
        (busStep_mapBusCounts _ _)).follows
      · simp [answers]
      · simp [keptIn, tx]
    · next tx head => exact follows_requestSent tx head
    · exact .refl s

end Sys2Proof.Machine
end

section
/-! What the Supervisory Port (R171 to R190), the resets (R186 to R188), the period close (R132) and the tick of the clock
keep. -/

namespace Sys2Proof.Machine

/-! ## The station's state -/

/-- A change of the station's life that leaves its state alone. -/
theorem follows_mapLife {f : Life → Life} {s : State} (state : (f s.life).state = s.life.state) :
    Follows s (s.mapLife f) :=
  .of_sound rfl rfl rfl fun q i =>
    { i with
      members := by rw [State.mapLife_life, state]; exact i.members
      leaving := by rw [State.mapLife_life, state]; exact i.leaving }

/-- R185: a station with no leaving PRESENCE comes to another state; one that holds deliveries is a member then too. -/
theorem follows_setState {a : StationState} {s : State} (stays : s.life.state ≠ .leaving)
    (empty : a ≠ .onBus → a ≠ .leaving → ∀ q, Sound q s → NoneHeld s.store) :
    Follows s (s.mapLife fun l => { l with state := a }) :=
  .of_sound rfl rfl rfl fun q i =>
    { i with
      members := fun onBus leaving => empty onBus leaving q i
      leaving := fun leaves => absurd (i.leaving leaves).1 stays }

theorem follows_startJoining {s : State} (state : s.life.state = .configured) : Follows s (startJoining s) := by
  refine .trans ?_ (busStep_mapExchange (le_refl _)).follows
  exact follows_setState (by simp [state]) fun _ _ _ i => i.members (by simp [state]) (by simp [state])

@[simp] theorem outsideBus_makePresence (b : PresenceBody) (s : State) : outsideBus (makePresence b s) = outsideBus s := by
  unfold makePresence
  dsimp only
  split
  · simp
  · split
    · rfl
    · simp

theorem follows_startLeaving {s : State} (state : s.life.state = .onBus) : Follows s (startLeaving s) := by
  generalize eq : ordinaryPresence ((s.mapLife fun l => { l with state := .leaving }).mapExchange
    fun x => { x with leaveMade := false }) = t
  have announced : Follows s t := by
    rw [← eq]
    refine .trans (.trans ?_ (busStep_mapExchange (le_refl _)).follows) (follows_ordinaryPresence _)
    exact follows_setState (by simp [state]) fun _ notLeaving => absurd rfl notLeaving
  have leaving : t.life.state = .leaving := by
    obtain ⟨-, life, -⟩ := eq_of_outsideBus (s := (s.mapLife fun l => { l with state := .leaving }).mapExchange
      fun x => { x with leaveMade := false }) (outsideBus_makePresence _ _)
    rw [← eq, ordinaryPresence, life]
    rfl
  unfold startLeaving
  dsimp only
  rw [eq]
  split
  · next holds => exact announced.trans (follows_announceLeaving leaving holds)
  · exact announced

/-! ## The frames of the port -/

theorem follows_endFrame (s : State) : Follows s (endFrame s) := follows_mapPort _ s

theorem follows_respond (p : Previous) (r : Result) (data : List Byte) (s : State) : Follows s (respond p r data s) :=
  follows_mapPort _ s

theorem follows_frameEnds {act : State → State} {s : State} (h : Follows s (act s)) : Follows s (frameEnds act s) := by
  unfold frameEnds
  split_ifs
  · exact follows_endFrame s
  · exact .refl s
  · exact h

/-- R173, R186: a host's command leaves but a response, or has the effect of its ruling, where it is accepted. -/
theorem supervise_cases (code : Byte) (accepted : Bool) (count : Nat) (params : List Byte) (rule : State → Ruling)
    (s : State) : ∃ u f, supervise code accepted count params rule s = u.mapPort f
      ∧ (u = s ∨ (accepted = true ∧ ∃ data, rule s = .done data u)) := by
  unfold supervise frameEnds
  split_ifs with ignored held
  · exact ⟨s, _, rfl, .inl rfl⟩
  · exact ⟨s, id, rfl, .inl rfl⟩
  · unfold execute
    split_ifs with refused wrong
    · exact ⟨s, _, rfl, .inl rfl⟩
    · exact ⟨s, _, rfl, .inl rfl⟩
    · split
      · exact ⟨s, _, rfl, .inl rfl⟩
      · exact ⟨s, _, rfl, .inl rfl⟩
      · next data after ruling => exact ⟨after, _, rfl, .inr ⟨by simpa using refused, data, ruling⟩⟩

theorem follows_supervise {code : Byte} {accepted : Bool} {count : Nat} {params : List Byte} {rule : State → Ruling}
    {s : State} (h : accepted = true → ∀ data after, rule s = .done data after → Follows s after) :
    Follows s (supervise code accepted count params rule s) := by
  obtain ⟨u, f, eq, same | ⟨accepts, data, ruling⟩⟩ := supervise_cases code accepted count params rule s
  · rw [eq, same]
    exact follows_mapPort f s
  · rw [eq]
    exact (h accepts data u ruling).trans (follows_mapPort f u)

theorem answers_execFrameStart (s : State) : Answers s (execFrameStart s) := by
  refine answers_next ?_
  split
  · exact .refl s
  · exact follows_mapPort _ s

theorem answers_execTransferFaultFrame (bits : List Bool) (s : State) : Answers s (execTransferFaultFrame bits s) := by
  refine answers_next ?_
  split
  · exact follows_frameEnds (follows_mapPort _ s)
  · exact .refl s

theorem answers_execUnknownCommand (code : Byte) (params : List Byte) (s : State) :
    Answers s (execUnknownCommand code params s) := by
  refine answers_next ?_
  split
  · exact .refl s
  · exact follows_frameEnds (follows_respond _ _ _ s)

theorem answers_execPoll (params : List Byte) (s : State) : Answers s (execPoll params s) :=
  answers_next <| follows_supervise fun _ data after ruling => by
    obtain ⟨-, rfl⟩ := Ruling.done.inj ruling
    exact .refl s

/-! ## LOAD-CONFIG, JOIN and LEAVE -/

/-- R20: a line that restarts. -/
theorem lineFits_restartLine (l : Line) : LineFits (restartLine l) :=
  ⟨Nat.zero_le _, .inl rfl, rfl, by simp [restartLine, Line.fresh]⟩

/-- R178: a station that is UNCONFIGURED or CONFIGURED holds no delivery. -/
theorem noneHeld_of_loadable {q : Prop} {s : State} (i : Sound q s) (h : loadable s = true) : NoneHeld s.store := by
  simp only [loadable, Bool.or_eq_true, beq_iff_eq] at h
  exact i.members (by rcases h with e | e <;> simp [e]) (by rcases h with e | e <;> simp [e])

theorem follows_loadConfig {c : StationConfig} {s : State} (h : loadable s = true) : Follows s (loadConfig c s) :=
  .of_sound rfl rfl rfl fun q i =>
    have none := noneHeld_of_loadable i h
    { i with
      matcher := ⟨i.matcher.fifo, trivial⟩
      bus := ⟨Nat.zero_le _, Nat.zero_le _, by simp [loadConfig, restartBus, Bus.fresh]⟩
      lines := fun k => by
        have : lineAt (loadConfig c s) k = restartLine (lineAt s k) := by simp [loadConfig, lineAt]
        rw [this]
        exact lineFits_restartLine _
      members := fun _ _ => none
      onePresence := Nat.zero_le _
      leaving := fun ⟨f, mem, _⟩ => by
        have : f ∈ ([] : List Frame) := mem
        simp at this }

theorem answers_execLoadConfig (params : List Byte) (s : State) : Answers s (execLoadConfig params s) :=
  answers_next <| follows_supervise fun may data after ruling => by
    split at ruling
    · obtain ⟨-, rfl⟩ := Ruling.done.inj ruling
      exact follows_loadConfig may
    · simp at ruling

theorem answers_execJoin (params : List Byte) (s : State) : Answers s (execJoin params s) :=
  answers_next <| follows_supervise fun may data after ruling => by
    obtain ⟨-, rfl⟩ := Ruling.done.inj ruling
    exact follows_startJoining (by simpa using may)

theorem answers_execLeave (params : List Byte) (s : State) : Answers s (execLeave params s) :=
  answers_next <| follows_supervise fun may data after ruling => by
    obtain ⟨-, rfl⟩ := Ruling.done.inj ruling
    exact follows_startLeaving (by simpa using may)

/-! ## The commands on records, bills and counts -/

theorem recordStep_setState (st : SubscriberState) : RecordStep fun r => { r with state := st } :=
  ⟨fun _ => rfl, fun _ => rfl, fun _ => id⟩

theorem answers_execSetState (params : List Byte) (s : State) : Answers s (execSetState params s) :=
  answers_next <| follows_supervise fun _ data after ruling => by
    unfold ruleState at ruling
    dsimp only at ruling
    split at ruling
    · split at ruling
      · obtain ⟨-, rfl⟩ := Ruling.done.inj ruling
        exact follows_modifyRecord (recordStep_setState _) s
      · simp at ruling
    · simp at ruling

theorem answers_execReadSubscriber (params : List Byte) (s : State) : Answers s (execReadSubscriber params s) :=
  answers_next <| follows_supervise fun _ data after ruling => by
    unfold ruleRead at ruling
    dsimp only at ruling
    split at ruling
    · split at ruling
      · split at ruling
        · obtain ⟨-, rfl⟩ := Ruling.done.inj ruling
          exact .refl s
        · simp at ruling
      · simp at ruling
    · simp at ruling

theorem answers_execTakeRecords (params : List Byte) (s : State) : Answers s (execTakeRecords params s) :=
  answers_next <| follows_supervise fun _ data after ruling => by
    unfold ruleTake at ruling
    dsimp only at ruling
    split at ruling
    · obtain ⟨-, rfl⟩ := Ruling.done.inj ruling
      exact follows_mapBilling fun fits => (List.drop_sublist _ _).length_le.trans fits
    · simp at ruling

theorem answers_execClosePeriod (params : List Byte) (s : State) : Answers s (execClosePeriod params s) :=
  answers_next <| follows_supervise fun _ data after ruling => by
    unfold ruleClose at ruling
    split at ruling
    · simp at ruling
    · obtain ⟨-, rfl⟩ := Ruling.done.inj ruling
      exact follows_mapBilling id

theorem answers_execReadCounts (params : List Byte) (seen : LineSeen) (s : State) :
    Answers s (execReadCounts params seen s) := by
  refine answers_next ?_
  have found : Follows s (atReading seen s) := ((busStep_listenOn _ s).trans (busStep_measureRun _ _)).follows
  refine found.trans (follows_supervise fun _ data after ruling => ?_)
  unfold ruleCounts at ruling
  split at ruling
  · obtain ⟨-, rfl⟩ := Ruling.done.inj ruling
    exact .refl _
  · simp at ruling

theorem answers_execClearFaults (params : List Byte) (s : State) : Answers s (execClearFaults params s) :=
  answers_next <| follows_supervise fun _ data after ruling => by
    unfold ruleClear at ruling
    dsimp only at ruling
    split at ruling
    · obtain ⟨-, rfl⟩ := Ruling.done.inj ruling
      exact follows_mapPort _ s
    · simp at ruling

theorem answers_execPeriodCloseStep (offpeak : Bool) (s : State) : Answers s (execPeriodCloseStep offpeak s) := by
  refine answers_next ?_
  split
  · exact .refl s
  · split
    · exact (follows_withOffpeak offpeak s).trans (follows_walkStep _ _)
    · exact .refl s

/-! ## Warm resets and RESET_N -/

/-- An empty Page Store counts no delivery. -/
theorem heldCount_of_none {p : PageStore} (none : NoneHeld p) (i : Nat) : heldCount p i = 0 := by
  rw [heldCount_eq, List.countP_eq_zero]
  intro x mem
  obtain ⟨k, bound, rfl⟩ := List.mem_iff_getElem.mp mem
  have := none ⟨k, by simpa using bound⟩
  simp only [heldIn] at this
  simp [this]

/-- R15: with no delivery held, every live count is 0. -/
theorem liveSound_of_none {d : List Subscriber} {p : PageStore} (none : NoneHeld p) (live : ∀ r ∈ d, r.live = 0) :
    LiveSound d p where
  owned k x held := absurd none (not_noneHeld held)
  live i r at_ := by rw [heldCount_of_none none, live r (List.mem_of_getElem? at_)]

/-- R47, R106: the queues of an empty Page Store. -/
theorem queuesSound_of_none {p : PageStore} (none : NoneHeld p) (issue : p.issue = []) (retry : p.retry = []) :
    QueuesSound p where
  issueOnce := by simp [issue]
  retryOnce := by simp [retry]
  issuing k := by simp [issue, none k]
  waiting k := by simp [retry, none k]

/-- R66: a warm reset frees every slot. -/
theorem noneHeld_resetStore (p : PageStore) : NoneHeld (resetStore p) := fun k => by
  simp [heldIn, resetStore, resetSlot]

theorem airFits_fresh : AirFits Air.fresh := ⟨Nat.zero_le _, Nat.zero_le _, by simp [Air.fresh]⟩

theorem busFits_fresh : BusFits Bus.fresh := ⟨Nat.zero_le _, Nat.zero_le _, by simp [Bus.fresh]⟩

theorem lineFits_fresh : LineFits Line.fresh := ⟨Nat.zero_le _, .inl rfl, rfl, by simp [Line.fresh]⟩

theorem follows_warmReset (kind : ResetKind) (s : State) : Follows s (warmReset kind s) where
  plans := rfl
  ranges := rfl
  records := by
    refine ⟨by simp [warmReset], fun valid r mem => ?_⟩
    obtain ⟨x, old, rfl⟩ := List.mem_map.mp mem
    obtain ⟨number, address, zones, total, usage, accepted, missed, -⟩ := valid x old
    exact ⟨number, address, zones, total, usage, accepted, missed, Nat.zero_le _⟩
  sound q i :=
    { i with
      directory := by simpa [warmReset] using i.directory
      air := airFits_fresh
      matcher := ⟨Nat.zero_le _, trivial⟩
      bus := busFits_fresh
      table := Nat.zero_le _
      lines := fun k => by
        have : lineAt (warmReset kind s) k = Line.fresh := by simp [lineAt, warmReset, resetIntake]
        rw [this]
        exact lineFits_fresh
      queues := queuesSound_of_none (noneHeld_resetStore _) rfl rfl
      live := liveSound_of_none (noneHeld_resetStore _) fun r mem => by
        obtain ⟨x, -, rfl⟩ := List.mem_map.mp mem
        rfl
      members := fun _ _ => noneHeld_resetStore _
      onePresence := Nat.zero_le _
      leaving := fun ⟨f, mem, _⟩ => by
        have : f ∈ ([] : List Frame) := mem
        simp at this
      retry := fun h => ⟨(i.retry h).caps, by simp [warmReset, resetStore], List.Pairwise.nil⟩ }

theorem answers_execRestart (params : List Byte) (s : State) : Answers s (execRestart params s) :=
  answers_next <| follows_supervise fun _ data after ruling => by
    obtain ⟨-, rfl⟩ := Ruling.done.inj ruling
    exact follows_warmReset _ s

theorem follows_pinReset (s : State) : Follows s (pinReset s) := by
  unfold pinReset
  split
  · exact (follows_warmReset _ s).trans (follows_respond _ _ _ _)
  · exact .refl s

theorem follows_recogniseLow (s : State) : Follows s (recogniseLow s) := by
  refine .trans ?_ (follows_mapPort _ _)
  exact (follows_pinReset s).trans (follows_mapLife rfl)

theorem follows_sampleReset (s : State) (high : Bool) : Follows s (sampleReset s high) := by
  have sampled : Follows s (takeSample high s) := follows_mapLife rfl
  unfold sampleReset
  dsimp only
  split_ifs
  · exact sampled.trans (follows_mapLife rfl)
  · exact sampled.trans (follows_recogniseLow _)
  · exact sampled

theorem follows_levelComes (high : Bool) (s : State) : Follows s (levelComes high s) :=
  (follows_mapPins _ s).trans (follows_foldl follows_sampleReset _ _)

theorem answers_execResetNFall (s : State) : Answers s (execResetNFall s) := answers_next (follows_levelComes false s)

theorem answers_execResetNRise (s : State) : Answers s (execResetNRise s) := answers_next (follows_levelComes true s)

/-! ## The tick -/

/-- R1, R38: a tick counted keeps every size; the order of the Retry Queue does not rest on the counter. -/
theorem sound_countTick {s : State} (i : Sound False s) : Sound False (countTick s) :=
  { i with
    lines := fun k => by
      have line : lineAt (countTick s) k = endShift (s.tick + 1) (lineAt s k) := countTick_line s k
      have fits := i.lines k
      rw [line]
      unfold endShift
      split
      · exact fits
      · split <;> exact fits
    retry := False.elim }

theorem sound_passTick {s : State} (i : Sound False s) : Sound False (passTick s) :=
  (follows_sampleReset _ _).sound _ (sound_countTick i)

/-- A tick loads nothing. -/
theorem loads_passTick (s : State) : Loads s (passTick s) :=
  (⟨rfl, rfl, .refl _⟩ : Loads s (countTick s)).trans (follows_sampleReset _ _).loads

/-- R186, R187: a sample leaves the Page Store as it is, or empties it. -/
theorem sampleReset_store (s : State) (high : Bool) :
    (sampleReset s high).store = s.store ∨ (sampleReset s high).store = resetStore s.store := by
  unfold sampleReset
  dsimp only
  split_ifs
  · exact .inl rfl
  · unfold recogniseLow pinReset
    split
    · exact .inr rfl
    · exact .inl rfl
  · exact .inl rfl

end Sys2Proof.Machine
end

section
/-! The loads (R112, R182, R183), power-on (R188), and what every step keeps: the sizes, the Page Store and its queues
(O54), the directory, the home map and the plans (O56). -/

namespace Sys2Proof.Machine

/-! ## What a command keeps -/

/-- The directory, the home map and the plans are sound (R2 to R5, R111, R112). -/
structure DataSound (s : State) : Prop where
  directory : DirectorySound s.directory
  ranges : MapSound s.ranges
  plans : ∀ k : Fin 16, PlanValid s.plans[k.val]

/-- What every command keeps. -/
structure Keeps (s t : State) : Prop where
  sound : ∀ q, Sound q s → Sound q t
  data : DataSound s → DataSound t

theorem Loads.data {s t : State} (h : Loads s t) (sound : DataSound s) : DataSound t :=
  ⟨h.records.sound sound.directory, h.ranges ▸ sound.ranges, h.plans ▸ sound.plans⟩

theorem Follows.keeps {s t : State} (h : Follows s t) : Keeps s t := ⟨h.sound, h.loads.data⟩

theorem Keeps.mapPort {s t : State} (h : Keeps s t) (f : Port → Port) : Keeps s (t.mapPort f) :=
  ⟨fun q i => (follows_mapPort f t).sound q (h.sound q i), fun i => (follows_mapPort f t).loads.data (h.data i)⟩

/-- A command answers with a state that keeps what every command keeps. -/
def AnswersKeeping (s : State) (o : Host.Outcome State Fault Refusal) : Prop := ∃ t, o = .next t ∧ Keeps s t

theorem Answers.keeping {s : State} {o : Host.Outcome State Fault Refusal} (h : Answers s o) : AnswersKeeping s o := by
  obtain ⟨t, eq, follows⟩ := h
  exact ⟨t, eq, follows.keeps⟩

/-- R173: a load keeps it when the effect of its ruling does. -/
theorem keeping_supervise {code : Byte} {accepted : Bool} {count : Nat} {params : List Byte} {rule : State → Ruling}
    {s : State} (h : accepted = true → ∀ data after, rule s = .done data after → Keeps s after) :
    AnswersKeeping s (.next (supervise code accepted count params rule s)) := by
  obtain ⟨u, f, eq, same | ⟨accepts, data, ruling⟩⟩ := supervise_cases code accepted count params rule s
  · exact ⟨_, rfl, by rw [eq, same]; exact (follows_mapPort f s).keeps⟩
  · exact ⟨_, rfl, by rw [eq]; exact (h accepts data u ruling).mapPort f⟩

/-! ## LOAD-PLAN -/

/-- A field of one byte. -/
theorem field_one_le (p : List Byte) (n : Nat) : field p n 1 ≤ 255 := by
  unfold field numberOf
  cases rest : p.drop n with
  | nil => simp
  | cons b bs =>
    have := b.isLt
    simp
    omega

/-- R112: the clamps leave every field within its values. -/
theorem planValid_readPlan (p : List Byte) : PlanValid (readPlan p) := by
  have base := field_one_le p 22
  simp only [PlanValid, readPlan, clamp]
  omega

theorem answers_execLoadPlan (params : List Byte) (s : State) : AnswersKeeping s (execLoadPlan params s) := by
  refine keeping_supervise fun _ data after ruling => ?_
  split at ruling
  · next bound =>
    obtain ⟨-, rfl⟩ := Ruling.done.inj ruling
    have plan : ∀ (P : Plan → Prop), P (readPlan params) → (∀ k : Fin 16, P s.plans[k.val]) →
        ∀ k : Fin 16, P (s.plans.set (byteAt params 0).toNat (readPlan params) bound)[k.val] := by
      intro P new old k
      rw [Vector.getElem_set]
      split
      · exact new
      · exact old k
    have valid := planValid_readPlan params
    refine ⟨fun q i => { i with retry := fun h => ?_ }, fun i => ⟨i.directory, i.ranges, plan PlanValid valid i.plans⟩⟩
    obtain ⟨-, -, -, -, -, -, -, cap, -⟩ := valid
    obtain ⟨caps, near, order⟩ := i.retry h
    exact ⟨plan (fun p => p.backoffCap ≤ 3600) cap caps, near, order⟩
  · simp at ruling

/-! ## LOAD-RANGE -/

theorem mem_insertRange {r x : Range} {m : List Range} : x ∈ insertRange r m ↔ x = r ∨ x ∈ m := by
  induction m with
  | nil => simp [insertRange]
  | cons y m ih =>
    unfold insertRange
    split
    · simp
    · simp only [List.mem_cons, ih]
      tauto

theorem length_insertRange (r : Range) (m : List Range) : (insertRange r m).length = m.length + 1 := by
  induction m with
  | nil => rfl
  | cons y m ih =>
    unfold insertRange
    split
    · rfl
    · simp [ih]

/-- R5: a range that shares no number with those held finds its place. -/
theorem pairwise_insertRange {r : Range} {m : List Range} (order : m.Pairwise fun a b => a.last < b.first)
    (proper : ∀ x ∈ m, x.first ≤ x.last) (own : r.first ≤ r.last) (apart : ∀ x ∈ m, overlaps r x = false) :
    (insertRange r m).Pairwise fun a b => a.last < b.first := by
  induction m with
  | nil => simp [insertRange]
  | cons x m ih =>
    obtain ⟨first, order⟩ := List.pairwise_cons.mp order
    have hx := proper x (List.mem_cons_self ..)
    have clear := apart x (List.mem_cons_self ..)
    simp only [overlaps, Bool.and_eq_false_iff, decide_eq_false_iff_not] at clear
    unfold insertRange
    split
    · refine List.pairwise_cons.mpr ⟨fun y mem => ?_, List.pairwise_cons.mpr ⟨first, order⟩⟩
      rcases List.mem_cons.mp mem with rfl | mem
      · omega
      · have := first y mem
        omega
    · refine List.pairwise_cons.mpr ⟨fun y mem => ?_, ih order (fun y mem => proper y (List.mem_cons_of_mem _ mem))
        fun y mem => apart y (List.mem_cons_of_mem _ mem)⟩
      rcases mem_insertRange.mp mem with rfl | mem
      · omega
      · exact first y mem

theorem mapSound_filter {m : List Range} (i : MapSound m) (keep : Range → Bool) : MapSound (m.filter keep) :=
  ⟨i.1.filter _, fun x mem => i.2 x (List.mem_filter.mp mem).1⟩

/-- R182: the same bounds with another station. -/
theorem mapSound_restation {m : List Range} (i : MapSound m) {r : Range} (present : r.station ≠ 0)
    (within : r.station ≤ 24) :
    MapSound (m.map fun x => if sameBounds r x = true then { x with station := r.station } else x) := by
  refine ⟨List.pairwise_map.mpr (i.1.imp fun {a b} before => ?_), fun x mem => ?_⟩
  · split <;> split <;> exact before
  · obtain ⟨y, old, rfl⟩ := List.mem_map.mp mem
    obtain ⟨proper, last, values⟩ := i.2 y old
    split
    · exact ⟨proper, last, by dsimp only; omega⟩
    · exact ⟨proper, last, values⟩

/-- R182: the map a LOAD-RANGE leaves is sound and fits. -/
theorem newRanges_sound {r : Range} {s : State} {after : List Range} (h : newRanges r s = some after) :
    (MapSound s.ranges → MapSound after) ∧ (s.ranges.length ≤ 16 → after.length ≤ 16) := by
  unfold newRanges at h
  split at h
  · cases h
  next bad =>
  split at h
  · replace h := (Option.ite_none_right_eq_some.mp h).2
    cases Option.some.inj h
    split
    · exact ⟨fun i => mapSound_filter i _, fun fits => (List.length_filter_le _ _).trans fits⟩
    · next present => exact ⟨fun i => mapSound_restation i present (by omega), fun fits => by simpa using fits⟩
  split at h
  · cases h
  split at h
  · cases h
  next overlap =>
  split at h
  · cases h
  next room =>
  cases Option.some.inj h
  simp only [Config.homeMapSize] at room
  refine ⟨fun i => ⟨?_, fun x mem => ?_⟩, fun _ => by rw [length_insertRange]; omega⟩
  · refine pairwise_insertRange i.1 (fun x mem => (i.2 x mem).1) (by omega) fun x mem => ?_
    simpa using fun shares => overlap (List.any_eq_true.mpr ⟨x, mem, shares⟩)
  · rcases mem_insertRange.mp mem with rfl | old
    · omega
    · exact i.2 x old

theorem answers_execLoadRange (params : List Byte) (s : State) : AnswersKeeping s (execLoadRange params s) := by
  refine keeping_supervise fun _ data after ruling => ?_
  unfold ruleRange at ruling
  split at ruling
  · next map new =>
    obtain ⟨-, rfl⟩ := Ruling.done.inj ruling
    obtain ⟨sound, fits⟩ := newRanges_sound new
    exact ⟨fun q i => { i with ranges := fits i.ranges }, fun i => ⟨i.directory, sound i.ranges, i.plans⟩⟩
  · simp at ruling

/-! ## LOAD-SUBSCRIBER -/

theorem mem_insertRecord {r x : Subscriber} {d : List Subscriber} : x ∈ insertRecord r d ↔ x = r ∨ x ∈ d := by
  induction d with
  | nil => simp [insertRecord]
  | cons y d ih =>
    unfold insertRecord
    split
    · simp
    · simp only [List.mem_cons, ih]
      tauto

theorem length_insertRecord (r : Subscriber) (d : List Subscriber) : (insertRecord r d).length = d.length + 1 := by
  induction d with
  | nil => rfl
  | cons y d ih =>
    unfold insertRecord
    split
    · rfl
    · simp [ih]

/-- R2: a record with a new number finds its place. -/
theorem pairwise_insertRecord {r : Subscriber} {d : List Subscriber} (order : d.Pairwise fun a b => a.number < b.number)
    (new : ∀ x ∈ d, x.number ≠ r.number) : (insertRecord r d).Pairwise fun a b => a.number < b.number := by
  induction d with
  | nil => simp [insertRecord]
  | cons x d ih =>
    obtain ⟨first, order⟩ := List.pairwise_cons.mp order
    have other := new x (List.mem_cons_self ..)
    unfold insertRecord
    split
    · next before =>
      refine List.pairwise_cons.mpr ⟨fun y mem => ?_, List.pairwise_cons.mpr ⟨first, order⟩⟩
      rcases List.mem_cons.mp mem with rfl | mem
      · exact before
      · exact before.trans (first y mem)
    · refine List.pairwise_cons.mpr ⟨fun y mem => ?_, ih order fun y mem => new y (List.mem_cons_of_mem _ mem)⟩
      rcases mem_insertRecord.mp mem with rfl | mem
      · omega
      · exact first y mem

/-- R183, R190: what LOAD-SUBSCRIBER carries is within its values. -/
theorem readSubscriberLoad_valid {p : List Byte} {l : SubscriberLoad} (h : readSubscriberLoad p = some l) :
    l.number ≤ 9999999 ∧ l.address ≤ 2097151 ∧ l.homeZones ≠ 0 := by
  unfold readSubscriberLoad at h
  dsimp only at h
  split at h
  · next values =>
    split at h
    · split at h
      · obtain rfl := Option.some.inj h
        exact values
      · simp at h
    · simp at h
  · simp at h

/-- R183: a record loaded again keeps its accumulators. -/
theorem recordStep_reload {l : SubscriberLoad} (address : l.address ≤ 2097151) (zones : l.homeZones ≠ 0) :
    RecordStep (reloadSubscriber l) where
  number _ := rfl
  live _ := rfl
  valid r valid := by
    obtain ⟨number, -, -, rest⟩ := valid
    exact ⟨number, address, zones, rest⟩

/-- R4, R15: with no delivery held every live count is 0. -/
theorem live_of_none {d : List Subscriber} {p : PageStore} (h : LiveSound d p) (none : NoneHeld p) :
    ∀ r ∈ d, r.live = 0 := by
  intro r mem
  obtain ⟨i, at_⟩ := List.mem_iff_getElem?.mp mem
  rw [h.live i r at_, heldCount_of_none none]

theorem answers_execLoadSubscriber (params : List Byte) (s : State) :
    AnswersKeeping s (execLoadSubscriber params s) := by
  refine keeping_supervise fun may data after ruling => ?_
  unfold ruleSubscriber at ruling
  split at ruling
  · simp at ruling
  · next l load =>
    obtain ⟨number, address, zones⟩ := readSubscriberLoad_valid load
    split at ruling
    · obtain ⟨-, rfl⟩ := Ruling.done.inj ruling
      exact (follows_modifyRecord (recordStep_reload address zones) s).keeps
    · next missing =>
      split_ifs at ruling with outside full walking
      obtain ⟨-, rfl⟩ := Ruling.done.inj ruling
      simp only [Config.directorySize] at full
      have new : ∀ x ∈ s.directory, x.number ≠ l.number := by
        simpa [findRecord, List.findIdx?_eq_none_iff] using missing
      refine ⟨fun q i => ?_, fun i => ⟨⟨pairwise_insertRecord i.directory.1 new, fun r mem => ?_⟩, i.ranges, i.plans⟩⟩
      · have none := noneHeld_of_loadable i may
        refine { i with
          directory := by rw [State.mapDirectory_directory, length_insertRecord]; omega
          live := liveSound_of_none none fun r mem => ?_ }
        rcases mem_insertRecord.mp mem with rfl | old
        · rfl
        · exact live_of_none i.live none r old
      · rcases mem_insertRecord.mp mem with rfl | old
        · exact ⟨number, address, zones, Nat.zero_le _, Nat.zero_le _, Nat.zero_le _, Nat.zero_le _, Nat.zero_le _⟩
        · exact i.directory.2 r old

/-! ## Power-on -/

/-- R188: the power-on state. -/
theorem sound_reset (q : Prop) : Sound q State.reset :=
  have none : NoneHeld State.reset.store := fun k => by simp [heldIn, State.reset]
  { directory := Nat.zero_le _
    ranges := Nat.zero_le _
    billing := Nat.zero_le _
    air := airFits_fresh
    matcher := ⟨Nat.zero_le _, trivial⟩
    bus := busFits_fresh
    table := Nat.zero_le _
    lines := fun k => by
      have : lineAt State.reset k = Line.fresh := by simp [lineAt, State.reset]
      rw [this]
      exact lineFits_fresh
    queues := queuesSound_of_none none rfl rfl
    live := liveSound_of_none none fun r mem => by simp [State.reset] at mem
    members := fun _ _ => none
    onePresence := Nat.zero_le _
    leaving := fun ⟨f, mem, _⟩ => by
      have : f ∈ ([] : List Frame) := mem
      simp at this
    retry := fun _ => ⟨fun k => by simp [State.reset, Plan.powerOn], by simp [State.reset], List.Pairwise.nil⟩ }

theorem dataSound_reset : DataSound State.reset :=
  ⟨⟨List.Pairwise.nil, by simp [State.reset]⟩, ⟨List.Pairwise.nil, by simp [State.reset]⟩,
    fun k => by simp [State.reset, PlanValid, Plan.powerOn]⟩

theorem answers_execPowerOn (resetLow : Bool) (s : State) : AnswersKeeping s (execPowerOn resetLow s) :=
  ⟨_, rfl, fun q _ => { sound_reset q with }, fun _ => { dataSound_reset with }⟩

/-! ## Every command -/

/-- Every command answers with a next state, which keeps the invariant and sound data. -/
theorem exec_keeping (i : Instr) (s : State) : AnswersKeeping s (exec i s) := by
  cases i with
  | powerOn resetLow => exact answers_execPowerOn resetLow s
  | resetNFall => exact (answers_execResetNFall s).keeping
  | resetNRise => exact (answers_execResetNRise s).keeping
  | frameStart => exact (answers_execFrameStart s).keeping
  | transferFaultFrame bits => exact (answers_execTransferFaultFrame bits s).keeping
  | unknownCommand code params => exact (answers_execUnknownCommand code params s).keeping
  | poll params => exact (answers_execPoll params s).keeping
  | loadConfig params => exact (answers_execLoadConfig params s).keeping
  | loadPlan params => exact answers_execLoadPlan params s
  | loadRange params => exact answers_execLoadRange params s
  | loadSubscriber params => exact answers_execLoadSubscriber params s
  | join params => exact (answers_execJoin params s).keeping
  | leave params => exact (answers_execLeave params s).keeping
  | restart params => exact (answers_execRestart params s).keeping
  | setState params => exact (answers_execSetState params s).keeping
  | readSubscriber params => exact (answers_execReadSubscriber params s).keeping
  | takeRecords params => exact (answers_execTakeRecords params s).keeping
  | closePeriod params => exact (answers_execClosePeriod params s).keeping
  | readCounts params seen => exact (answers_execReadCounts params seen s).keeping
  | clearFaults params => exact (answers_execClearFaults params s).keeping
  | seizeRecognised line => exact (answers_execSeizeRecognised line s).keeping
  | releaseRecognised line => exact (answers_execReleaseRecognised line s).keeping
  | rateChosen line micros => exact (answers_execRateChosen line micros s).keeping
  | measurementOverflow line => exact (answers_execMeasurementOverflow line s).keeping
  | calibrationTimeout line => exact (answers_execCalibrationTimeout line s).keeping
  | characterReceived offpeak line char framing =>
    exact (answers_execCharacterReceived offpeak line char framing s).keeping
  | entryTimeout line => exact (answers_execEntryTimeout line s).keeping
  | verdictTransmission line => exact (answers_execVerdictTransmission line s).keeping
  | forward offpeak heard => exact (answers_execForward offpeak heard s).keeping
  | cancel offpeak heard => exact (answers_execCancel offpeak heard s).keeping
  | airRequest heard => exact (answers_execAirRequest heard s).keeping
  | withdraw heard => exact (answers_execWithdraw heard s).keeping
  | aired offpeak heard => exact (answers_execAired offpeak heard s).keeping
  | heard offpeak heard => exact (answers_execHeard offpeak heard s).keeping
  | taken heard => exact (answers_execTaken heard s).keeping
  | cancelAnswer heard => exact (answers_execCancelAnswer heard s).keeping
  | airAnswer offpeak heard => exact (answers_execAirAnswer offpeak heard s).keeping
  | withdrawn offpeak heard => exact (answers_execWithdrawn offpeak heard s).keeping
  | presence offpeak heard => exact (answers_execPresence offpeak heard s).keeping
  | badKindFrame kind heard => exact (answers_execBadKindFrame kind heard s).keeping
  | frameDroppedBySource src heard => exact (answers_execFrameDroppedBySource src heard s).keeping
  | frameDiscard heard => exact (answers_execFrameDiscard heard s).keeping
  | breakHeard bits => exact (answers_execBreakHeard bits s).keeping
  | shortBreak bits => exact (answers_execShortBreak bits s).keeping
  | stuckLine => exact (answers_execStuckLine s).keeping
  | stoppedConditionEnd quiet => exact (answers_execStoppedConditionEnd quiet s).keeping
  | breakStart gap => exact (answers_execBreakStart gap s).keeping
  | transmissionStart gap => exact (answers_execTransmissionStart gap s).keeping
  | frameSent => exact (answers_execFrameSent s).keeping
  | lostArbitration txFault => exact (answers_execLostArbitration txFault s).keeping
  | issue offpeak => exact (answers_execIssue offpeak s).keeping
  | lifetimeExpiry offpeak slot => exact (answers_execLifetimeExpiry offpeak slot s).keeping
  | ackWaitExpiry offpeak slot => exact (answers_execAckWaitExpiry offpeak slot s).keeping
  | replyTimeout offpeak key => exact (answers_execReplyTimeout offpeak key s).keeping
  | retryRelease => exact (answers_execRetryRelease s).keeping
  | freeCycleStart => exact (answers_execFreeCycleStart s).keeping
  | cycleTimerExpiry => exact (answers_execCycleTimerExpiry s).keeping
  | slotStart ready => exact (answers_execSlotStart ready s).keeping
  | cellHanded => exact (answers_execCellHanded s).keeping
  | cycleEnd offpeak => exact (answers_execCycleEnd offpeak s).keeping
  | reverseReport char framing => exact (answers_execReverseReport char framing s).keeping
  | shortReport => exact (answers_execShortReport s).keeping
  | extraReportCharacter => exact (answers_execExtraReportCharacter s).keeping
  | matcherTakeHead offpeak => exact (answers_execMatcherTakeHead offpeak s).keeping
  | presenceTimeout peer => exact (answers_execPresenceTimeout peer s).keeping
  | presenceInterval => exact (answers_execPresenceInterval s).keeping
  | listenTimer => exact (answers_execListenTimer s).keeping
  | drain => exact (answers_execDrain s).keeping
  | periodCloseStep offpeak => exact (answers_execPeriodCloseStep offpeak s).keeping
  | seizeSample line high => exact (answers_execSeizeSample line high s).keeping
  | calibrationFirstEdge line => exact (answers_execCalibrationFirstEdge line s).keeping
  | reportCharacterReceived char framing => exact (answers_execReportCharacterReceived char framing s).keeping

/-- A step is a tick on an empty queue, and otherwise keeps what a command keeps. -/
theorem step_cases {s t : State} (h : step s = .next t) : t = passTick s ∨ Keeps s t := by
  cases waiting : s.pending with
  | nil =>
    rw [step_of_nil waiting] at h
    exact .inl (Host.Outcome.next.inj h).symm
  | cons c rest =>
    rw [step_of_cons waiting] at h
    obtain ⟨u, eq, sound, data⟩ := exec_keeping c (s.setPending rest)
    obtain rfl := Host.Outcome.next.inj (eq.symm.trans h)
    exact .inr ⟨fun q i => sound q { i with }, fun i => data { i with }⟩

/-- R106: the order of the Retry Queue rests on the Page Store alone, and an empty one is in order. -/
theorem retryOrdered_passTick {s : State} (h : RetryOrdered s) : RetryOrdered (passTick s) := by
  change (passTick s).store.retry.Pairwise (comesBefore (dueIn (passTick s).store))
  rcases sampleReset_store (countTick s) s.pins.resetN with kept | emptied
  · rw [show (passTick s).store = s.store from kept]
    exact h
  · rw [show (passTick s).store = resetStore s.store from emptied]
    exact List.Pairwise.nil

/-- Settles O54: a tick by the sizes alone; a command with the order of the Retry Queue as part of the invariant. -/
theorem stepKeepsSizes : Obligations.StepKeepsSizes := by
  intro s t fits store stepped
  rcases step_cases stepped with rfl | keeps
  · obtain ⟨fits, store, -⟩ := (sound_iff False _).mp
      (sound_passTick ((sound_iff False s).mpr ⟨fits, store, False.elim⟩))
    exact ⟨fits, store, fun _ _ => retryOrdered_passTick⟩
  · have sound := (sound_iff (RetrySound s.plans s.tick s.store) s).mpr ⟨fits, store, id⟩
    obtain ⟨fits, store, retry⟩ := (sound_iff _ t).mp (keeps.sound _ sound)
    exact ⟨fits, store, fun caps near order => (retry ⟨caps, near, order⟩).order⟩

/-- Settles O56: a tick loads nothing, and every command keeps directory, home map and plans sound. -/
theorem stepKeepsDirectoryAndMapSound : Obligations.StepKeepsDirectoryAndMapSound := by
  intro s t directory ranges plans stepped
  have before : DataSound s := ⟨directory, ranges, plans⟩
  obtain ⟨directory, ranges, plans⟩ : DataSound t := by
    rcases step_cases stepped with rfl | keeps
    · exact (loads_passTick s).data before
    · exact keeps.data before
  exact ⟨directory, ranges, plans⟩

end Sys2Proof.Machine
end

section
/-! The directory as a command and a decision read it (R2, R11, R12, R16, R17). -/

namespace Sys2Proof.Machine

/-! ## A record by its number -/

/-- R2: the numbers ascend, so that no two records share one. -/
theorem index_unique {d : List Subscriber} (sound : DirectorySound d) {i j : Nat} {r x : Subscriber}
    (ri : d[i]? = some r) (xj : d[j]? = some x) (same : x.number = r.number) : j = i := by
  obtain ⟨hi, rfl⟩ := List.getElem?_eq_some_iff.mp ri
  obtain ⟨hj, rfl⟩ := List.getElem?_eq_some_iff.mp xj
  have apart := List.pairwise_iff_getElem.mp sound.1
  rcases Nat.lt_trichotomy j i with below | eq | above
  · have := apart j i hj hi below
    omega
  · exact eq
  · have := apart i j hi hj above
    omega

/-- A search for a number finds the record that has it. -/
theorem findIdx?_record {d : List Subscriber} (sound : DirectorySound d) {i : Nat} {r : Subscriber}
    (record : d[i]? = some r) {p : Subscriber → Bool} (found : p r = true)
    (byNumber : ∀ x, p x = true → x.number = r.number) : d.findIdx? p = some i := by
  obtain ⟨hi, at_⟩ := List.getElem?_eq_some_iff.mp record
  refine List.findIdx?_eq_some_iff_getElem.mpr ⟨hi, by rw [at_, found], fun j below hit => ?_⟩
  have := index_unique sound record (List.getElem?_eq_getElem (below.trans hi)) (byNumber _ hit)
  omega

theorem findRecord_some {s : State} (sound : DirectorySound s.directory) {i : Nat} {r : Subscriber}
    (record : s.directory[i]? = some r) : findRecord s r.number = some i :=
  findIdx?_record sound record (by simp) fun x hit => by simpa using hit

theorem findRecord_none {s : State} {n : Nat} (absent : ∀ r ∈ s.directory, r.number ≠ n) : findRecord s n = none := by
  simpa [findRecord, List.findIdx?_eq_none_iff] using absent

theorem findForDecision_some {s : State} (sound : DirectorySound s.directory) {i : Nat} {r : Subscriber}
    (record : s.directory[i]? = some r) (own : inOwnRange s r.number = true) : findForDecision s r.number = some i :=
  findIdx?_record sound record (by simp [displaced, own]) fun x hit => by
    simp only [Bool.and_eq_true, beq_iff_eq] at hit
    exact hit.1

theorem findForDecision_none {s : State} {n : Nat} (absent : ∀ r ∈ s.directory, r.number = n → inOwnRange s n = false) :
    findForDecision s n = none := by
  simp only [findForDecision, displaced, List.findIdx?_eq_none_iff, Bool.and_eq_false_imp, beq_iff_eq]
  intro r mem number
  simp [number, absent r mem number]

/-- A change of the record at an index is a change of the record of its number. -/
theorem modify_eq_map {d : List Subscriber} (sound : DirectorySound d) {i : Nat} {r : Subscriber}
    (record : d[i]? = some r) (f : Subscriber → Subscriber) :
    d.modify i f = d.map fun x => if x.number = r.number then f x else x := by
  refine List.ext_getElem? fun j => ?_
  rw [List.getElem?_modify, List.getElem?_map]
  cases at_ : d[j]? with
  | none => rfl
  | some x =>
    by_cases e : i = j
    · subst e
      obtain rfl := Option.some.inj (record.symm.trans at_)
      simp
    · have other : x.number ≠ r.number := fun same => e (index_unique sound record at_ same).symm
      simp [e, other]

/-! ## SET-STATE and READ-SUBSCRIBER -/

/-- A field of one byte is that byte, 0 past the end. -/
theorem field_one (p : List Byte) (n : Nat) : field p n 1 = (byteAt p n).toNat := by
  simp only [field, byteAt, List.getD_eq_getElem?_getD, ← List.head?_drop]
  cases p.drop n with
  | nil => rfl
  | cons b rest => simp [numberOf]

/-- R16: the ruling on the record of the number. -/
theorem ruleState_record {p : List Byte} {s : State} {st : SubscriberState} (sound : DirectorySound s.directory)
    {i : Nat} {r : Subscriber} (record : s.directory[i]? = some r) (number : r.number = field p 0 3)
    (state : byteAt p 3 = if st = .active then 0 else 1) :
    ruleState p s = .done [] (modifyRecord i (fun r => { r with state := st }) s) := by
  have found : findRecord s (field p 0 3) = some i := number ▸ findRecord_some sound record
  have named : subscriberStateOf (field p 3 1) = some st := by
    rw [field_one, state]
    cases st <;> rfl
  have within : field p 0 3 ≤ 9999999 := number ▸ (sound.2 r (List.mem_of_getElem? record)).1
  simp only [ruleState, found, named, within, if_true]

theorem ruleState_missing {p : List Byte} {s : State} (absent : ∀ r ∈ s.directory, r.number ≠ field p 0 3) :
    ruleState p s = .badParam := by
  unfold ruleState
  dsimp only
  rw [findRecord_none absent]
  cases subscriberStateOf (field p 3 1) <;> rfl

/-- R17: the ruling on the record of the number. -/
theorem ruleRead_record {p : List Byte} {s : State} (sound : DirectorySound s.directory) {i : Nat} {r : Subscriber}
    (record : s.directory[i]? = some r) (number : r.number = field p 0 3) :
    ruleRead p s = .done (subscriberBytes i r (displaced s r.number)) s := by
  have found : findRecord s (field p 0 3) = some i := number ▸ findRecord_some sound record
  have within : field p 0 3 ≤ 9999999 := number ▸ (sound.2 r (List.mem_of_getElem? record)).1
  simp only [ruleRead, found, record, within, if_true]

theorem ruleRead_missing {p : List Byte} {s : State} (absent : ∀ r ∈ s.directory, r.number ≠ field p 0 3) :
    ruleRead p s = .badParam := by
  simp only [ruleRead, findRecord_none absent]

/-- The codes and flag weights of the record's 29 bytes (11_formats.md). -/
theorem subscriberBytes_eq (i : Nat) (r : Subscriber) (own : Bool) :
    subscriberBytes i r (!own) =
      be2 i ++ be3 r.number ++ be3 r.address ++ be1 r.plan.val ++ be1 (if r.state = .active then 0 else 1)
        ++ be3 r.homeZones.toNat ++ be3 r.wideZones.toNat ++ be4 r.periodTotal ++ be3 r.usage ++ be2 r.accepted
        ++ be2 r.missed ++ be1 ((if r.saturated then 1 else 0) + (if r.warnLow then 2 else 0)
          + (if r.warnHigh then 4 else 0) + (if own then 0 else 8)) ++ be1 r.live := by
  have code : subscriberStateCode r.state = if r.state = .active then 0 else 1 := by cases r.state <;> rfl
  have weight (b : Bool) (w : Nat) : w * flag b = if b then w else 0 := by cases b <;> simp [flag]
  have clear : (if (!own) = true then 8 else 0) = if own = true then 0 else 8 := by cases own <;> rfl
  rw [subscriberBytes, code, weight, weight, weight, clear]
  rfl

/-- R173: a command accepted in every state, with its count of parameters, whose ruling is that it is done. -/
theorem supervise_done {code : Byte} {count : Nat} {p data : List Byte} {rule : State → Ruling} {s after : State}
    (acts : portActs s) (length : p.length = count) (ruling : rule s = .done data after) :
    supervise code true count p rule s = answered (.code code) .done data after := by
  rw [supervise_eq _ _ _ _ _ _ acts, if_neg (by simp), if_neg (by simpa using length), ruling]

/-- The same, whose ruling is BAD-PARAM. -/
theorem supervise_badParam {code : Byte} {count : Nat} {p : List Byte} {rule : State → Ruling} {s : State}
    (acts : portActs s) (length : p.length = count) (ruling : rule s = .badParam) :
    supervise code true count p rule s = answered (.code code) .badParam [] s := by
  rw [supervise_eq _ _ _ _ _ _ acts, if_neg (by simp), if_neg (by simpa using length), ruling]

theorem exec_setState (p : List Byte) (s : State) :
    exec (.setState p) s = .next (supervise 0x08 true 4 p (ruleState p) s) := rfl

theorem exec_readSubscriber (p : List Byte) (s : State) :
    exec (.readSubscriber p) s = .next (supervise 0x09 true 3 p (ruleRead p) s) := rfl

/-- Settles O11, by the ruling of each command on the record that the ascending numbers single out. -/
theorem setStateAndReadSubscriber : Obligations.SetStateAndReadSubscriber := by
  unfold Obligations.SetStateAndReadSubscriber
  refine fun p s acts sound => ⟨?_, ?_, ?_, ?_⟩
  · rintro st length state ⟨r, mem, number⟩
    obtain ⟨i, record⟩ := List.getElem?_of_mem mem
    rw [exec_setState, supervise_done acts length (ruleState_record sound record number state), ← number,
      ← modify_eq_map sound record]
    rfl
  · intro length absent
    rw [exec_setState, supervise_badParam acts length (ruleState_missing absent)]
  · intro i r length record number
    rw [exec_readSubscriber, supervise_done acts length (ruleRead_record sound record number), displaced,
      subscriberBytes_eq]
  · intro length absent
    rw [exec_readSubscriber, supervise_badParam acts length (ruleRead_missing absent)]

/-! ## The acceptance decision -/

theorem lowestFree_eq_none_iff {s : State} : lowestFree s = none ↔ ∀ k : Fin 256, (s.store.slots[k.val]).held ≠ none := by
  simp [lowestFree, deliveryAt, slotAt, List.find?_eq_none]

/-- R13: fewer than 16 entries of the 128 are free. -/
theorem billingFree_lt_reserve {s : State} : billingFree s < Config.billingReserve ↔ 112 < s.billing.queue.length := by
  simp only [billingFree, Config.billingQueueSize, Config.billingReserve]
  omega

/-- R11: the decision on the record found. -/
theorem decision_record {n : Nat} {c : MessageClass} {o : Option Origin} {s : State} {i : Nat} {r : Subscriber}
    (found : findForDecision s n = some i) (record : s.directory[i]? = some r) :
    decision n c o s = decideRecord r c s := by
  simp only [decision, found, Option.bind_some, record]

theorem decision_missing {n : Nat} {c : MessageClass} {o : Option Origin} {s : State}
    (missing : findForDecision s n = none) : decision n c o s = decideMissing s n o := by
  simp only [decision, missing, Option.bind_none]

theorem decideMissing_peer {s : State} {n p : Nat} {o : Option Origin} (forward : o ≠ none)
    (peer : homeLookup s n = .peer p) : decideMissing s n o = .notHome := by
  cases o with
  | none => exact absurd rfl forward
  | some origin => simp only [decideMissing, peer]

theorem decideMissing_unknown {s : State} {n : Nat} {o : Option Origin}
    (other : (∀ p, homeLookup s n ≠ .peer p) ∨ o = none) : decideMissing s n o = .unknown := by
  unfold decideMissing
  split
  · next p peer =>
    rcases other with noPeer | entry
    · exact absurd peer (noPeer p)
    · cases entry
  · rfl

/-- Settles O23: the record that the search finds is decided on in the order of `decideRecord`. -/
theorem decisionTakesFirstStep : Obligations.DecisionTakesFirstStep := by
  unfold Obligations.DecisionTakesFirstStep
  refine fun n c o s sound => ⟨?_, fun absent => ⟨fun p forward peer => ?_, fun other => ?_⟩⟩
  · rintro r mem rfl own
    obtain ⟨i, record⟩ := List.getElem?_of_mem mem
    rw [decision_record (findForDecision_some sound record own) record]
    simp only [decideRecord, Config.maxLiveDeliveries, lowestFree_eq_none_iff, billingFree_lt_reserve]
  · rw [decision_missing (findForDecision_none absent), decideMissing_peer forward peer]
  · rw [decision_missing (findForDecision_none absent), decideMissing_unknown other]

end Sys2Proof.Machine
end

section
/-! The reception of a FORWARD (R10, R157) and the acceptance it brings about (R14). -/

namespace Sys2Proof.Machine

/-! ## The level of OFFPEAK beside the reception -/

theorem hearChar_withOffpeak (level : Bool) (c : BusChar) (s : State) :
    hearChar c (withOffpeak level s) = (withOffpeak level (hearChar c s).1, (hearChar c s).2) := by
  have same : receives (withOffpeak level s) = receives s := rfl
  unfold hearChar
  rw [same]
  split <;> rfl

/-- The reception of characters does not depend on OFFPEAK. -/
theorem listen_withOffpeak {heard : List BusChar} {level : Bool} {s t : State} {e : RxEvent}
    (h : listen heard s = some (t, e)) : listen heard (withOffpeak level s) = some (withOffpeak level t, e) := by
  induction heard generalizing s with
  | nil =>
    obtain ⟨rfl, rfl⟩ := Prod.mk.inj (Option.some.inj h)
    rfl
  | cons c rest ih =>
    unfold listen at h ⊢
    rw [hearChar_withOffpeak]
    dsimp only
    split at h
    · next last => rw [if_pos last, Option.some.inj h]
    · next more =>
      obtain ⟨silent, h⟩ := Option.ite_none_right_eq_some.mp h
      rw [if_neg more, if_pos silent, ih h]

theorem hears_withOffpeak {heard : List BusChar} {f : Received} {s : State} (level : Bool) (h : hears heard f s) :
    hears heard f (withOffpeak level s) := by
  obtain ⟨⟨t, bytes, heardFrame, parts⟩, source⟩ := h
  exact ⟨⟨_, bytes, listen_withOffpeak heardFrame, parts⟩, source⟩

/-! ## A FORWARD for this station -/

theorem checked_some {α : Type} {f : Received} {content : Option α} {x : α} (own : f.dest ≠ 0) (good : content = some x)
    (act : α → State → State) (s : State) : checked f content act s = act x s := by
  have byNumber : f.dest.toNat ≠ 0 := fun zero => own (BitVec.eq_of_toNat_eq zero)
  simp only [checked, byNumber, good, if_false]

theorem membersOnly_member {s : State} (h : member s = true) (act : State → State) : membersOnly act s = act s :=
  if_pos h

/-- R189: a payload that agrees with the layout of a FORWARD. -/
theorem readForward_some {p : List Byte} {c : MessageClass} (agrees : payloadAgrees .forward p = true)
    (known : classOf (byteAt p 3) = some c) :
    readForward p = some { number := field p 0 3, cls := c, body := p.drop 4 } := by
  simp only [payloadAgrees, Bool.and_eq_true, decide_eq_true_eq] at agrees
  simp only [readForward, agrees.1, and_self, if_true, known, Option.map_some]

/-- R10, R157: a FORWARD that a member takes is decided and answered. -/
theorem exec_forward {offpeak : Bool} {heard : List BusChar} {f : Received} {c : MessageClass} {s : State}
    (own : hearsOwn .forward heard f s) (joined : member s = true) (agrees : payloadAgrees .forward f.payload = true)
    (known : classOf (byteAt f.payload 3) = some c) :
    exec (.forward offpeak heard) s = .next (takeForward f
      { number := field f.payload 0 3, cls := c, body := f.payload.drop 4 } (withOffpeak offpeak (noted f s))) := by
  obtain ⟨heardFrame, kind, dest⟩ := own
  have forward : ofKind .forward f.kind = true := by rw [kind]; decide
  have act : exec (.forward offpeak heard) s = .next (takeFrame (ofKind .forward) heard (fun f =>
      checked f (readForward f.payload) fun ask => membersOnly (takeForward f ask)) (withOffpeak offpeak s)) := rfl
  rw [act, takeFrame_of_hears (hears_withOffpeak offpeak heardFrame) forward,
    checked_some dest (readForward_some agrees known), membersOnly_member (s := noted f (withOffpeak offpeak s)) joined]
  rfl

/-! ## The decision that accepts -/

/-- R42: the lowest of the free slots. -/
theorem lowestFree_some {s : State} {k : Fin 256} (free : (s.store.slots[k.val]).held = none)
    (lowest : ∀ j : Fin 256, j < k → (s.store.slots[j.val]).held ≠ none) : lowestFree s = some k := by
  refine List.find?_eq_some_iff_getElem.mpr ⟨by simp [deliveryAt, slotAt, free], k.val, by simp, by simp, ?_⟩
  intro j below
  have taken := lowest ⟨j, below.trans k.isLt⟩ below
  simpa [deliveryAt, slotAt, Option.isSome_iff_ne_none] using taken

theorem decideMissing_ne_accept (s : State) (n : Nat) (o : Option Origin) : decideMissing s n o ≠ .accept := by
  unfold decideMissing
  split <;> simp

/-- R11, R13: a decision to accept is about the record of the number, and the billing queue has room. -/
theorem found_of_accept {c : MessageClass} {o : Option Origin} {s : State} {i : Nat} {r : Subscriber}
    (sound : DirectorySound s.directory) (record : s.directory[i]? = some r)
    (accepts : decision r.number c o s = .accept) :
    findForDecision s r.number = some i ∧ s.billing.queue.length < 128 := by
  have found : findForDecision s r.number = some i := by
    refine findForDecision_some sound record (Bool.not_eq_false _ ▸ fun displaced => ?_)
    rw [decision_missing (findForDecision_none fun _ _ _ => displaced)] at accepts
    exact decideMissing_ne_accept _ _ _ accepts
  refine ⟨found, ?_⟩
  rw [decision_record found record, decideRecord] at accepts
  split_ifs at accepts with suspended priority quota busy
  simp only [billingFree_lt_reserve] at busy
  omega

/-! ## The acceptance -/

theorem modify_eq_set {d : List Subscriber} {i : Nat} {r : Subscriber} (record : d[i]? = some r)
    (f : Subscriber → Subscriber) : d.modify i f = d.set i (f r) := by
  rw [List.modify_eq_set_getElem?, record]
  rfl

/-- R44: the cells of a body, by its coding. -/
theorem cellCount_eq (m : Medium) (n : Nat) : cellCount m n = 2 + (codeBits m * n + 23) / 24 := by
  cases m <;> simp [cellCount, bitCount, codeBits]

theorem planAt_eq {s : State} {i : Nat} {r : Subscriber} (record : s.directory[i]? = some r) :
    planAt s i = s.plans[r.plan.val] := by
  simp only [planAt, record]

theorem produceFor_eq {s : State} {i : Nat} {r : Subscriber} (record : s.directory[i]? = some r)
    (fill : Subscriber → BillingRecord) : produceFor i fill s = produceRecord (fill r) s := by
  simp only [produceFor, record]

/-- R127: a record produced while the queue has room. -/
theorem produceRecord_room {r : BillingRecord} {s : State} (room : s.billing.queue.length < 128) :
    produceRecord r s = { s with billing := { s.billing with
      queue := s.billing.queue ++ [{ r with seq := s.billing.seq, offpeak := s.pins.offpeak }],
      seq := s.billing.seq + 1 } } :=
  if_pos room

/-- R14: the record with the delivery counted. -/
def countedIn (r : Subscriber) : Subscriber := { r with live := r.live + 1, accepted := raise r.accepted }

theorem takeSlot_directory {k : Fin 256} {i : Nat} {c : MessageClass} {body : List Byte} {o : Option Origin} {s : State}
    {r : Subscriber} (record : s.directory[i]? = some r) :
    (takeSlot k i c body o s).directory = s.directory.set i (countedIn r) :=
  modify_eq_set record _

/-- R14, R42, R47: the slot holds the new delivery, changed as its accept charge does, in the issue queue. -/
theorem store_mapDelivery_takeSlot (k : Fin 256) (i : Nat) (c : MessageClass) (body : List Byte) (o : Option Origin)
    (f : Delivery → Delivery) (s : State) :
    (mapDelivery k f (takeSlot k i c body o s)).store = { s.store with
      issue := s.store.issue ++ [k]
      slots := s.store.slots.set k.val (Slot.mk (s.store.slots[k.val]).gen (some (f (newDelivery s i c body o)))) } := by
  simp [mapDelivery, setSlot, takeSlot, modifyRecord, deliveryAt, slotAt, State.mapStore, State.mapDirectory]

/-- R42: taking a slot keeps its generation. -/
theorem gen_takeSlot (k : Fin 256) (i : Nat) (c : MessageClass) (body : List Byte) (o : Option Origin) (s : State) :
    (slotAt (takeSlot k i c body o s) k).gen = (s.store.slots[k.val]).gen := by
  simp [slotAt, takeSlot, setSlot, modifyRecord, State.mapStore, State.mapDirectory]

/-- R114: the accept charge on the record and on the delivery, with its billing record. -/
theorem acceptCharge_eq {k : Fin 256} {i : Nat} {r : Subscriber} {s : State} (record : s.directory[i]? = some r)
    (room : s.billing.queue.length < 128) :
    acceptCharge k i s =
      let amount := acceptAmount (s.plans[r.plan.val])
      let charged := addCharge amount r
      { mapDelivery k (fun d => { d with charged := amount, retryCharges := 0 }) s with
        directory := s.directory.set i charged
        billing := { s.billing with
          queue := s.billing.queue ++ [{ recordFor .acceptFee charged with
            seq := s.billing.seq, delivery := some (BitVec.ofFin k, (slotAt s k).gen), amount := amount,
            offpeak := s.pins.offpeak }]
          seq := s.billing.seq + 1 } } := by
  have length : i < s.directory.length := (List.getElem?_eq_some_iff.mp record).1
  unfold acceptCharge
  dsimp only
  rw [planAt_eq record, produceFor_eq (r := addCharge (acceptAmount (s.plans[r.plan.val])) r), produceRecord_room]
  · simp only [mapDelivery, setSlot, State.mapStore, modifyRecord, State.mapDirectory, modify_eq_set record]
    rfl
  · exact room
  · simp [mapDelivery, setSlot, State.mapStore, modifyRecord, State.mapDirectory, modify_eq_set record, length]

/-- R14: what `accept` does, written out. -/
theorem accept_eq_acceptedInto {k : Fin 256} {i : Nat} {r : Subscriber} {c : MessageClass} {body : List Byte}
    {o : Option Origin} {s : State} (record : s.directory[i]? = some r) (room : s.billing.queue.length < 128) :
    accept k i c body o s = acceptedInto k i r c body o s := by
  have length : i < s.directory.length := (List.getElem?_eq_some_iff.mp record).1
  have directory := takeSlot_directory (k := k) (c := c) (body := body) (o := o) record
  have counted : (takeSlot k i c body o s).directory[i]? = some (countedIn r) := by simp [directory, length]
  rw [accept_eq, acceptCharge_eq counted room]
  unfold acceptedInto
  dsimp only
  rw [store_mapDelivery_takeSlot, gen_takeSlot, directory, List.set_set]
  simp only [newDelivery, cellCount_eq, planAt_eq record]
  rfl

/-- R10, R14: a decision to accept is carried out on the record of the number and the lowest free slot. -/
theorem decideEntry_eq_acceptedInto {c : MessageClass} {o : Option Origin} {s : State} {i : Nat} {r : Subscriber}
    {k : Fin 256} (sound : DirectorySound s.directory) (record : s.directory[i]? = some r)
    (accepts : decision r.number c o s = .accept) (free : lowestFree s = some k) (body : List Byte) :
    decideEntry r.number c body o s = acceptedInto k i r c body o s := by
  obtain ⟨found, room⟩ := found_of_accept sound record accepts
  simp only [decideEntry, accepts, found, free, accept_eq_acceptedInto record room]

/-- An answer changes the bus alone. -/
theorem answerTo_bus (x : FrameKind) (dest : Nat) (seq : Byte) (payload : List Byte) (s : State) :
    answerTo x dest seq payload s = { s with bus := (answerTo x dest seq payload s).bus } := by
  unfold answerTo pushAnswer
  split <;> rfl

/-- R157: the answer to a frame noted, put in the queue while it has room. -/
theorem answerTo_noted {f : Received} {s t : State} (room : s.bus.answers.length < 24) (bus : t.bus = (noted f s).bus)
    (life : t.life = s.life) (x : FrameKind) (payload : List Byte) :
    (answerTo x f.src.toNat f.seq payload t).bus = (answeredFrame f x payload s).bus := by
  have same : t.bus.answers.length < 24 := by rw [bus]; exact room
  have frame : frameFrom t x f.src.toNat f.seq payload =
      { kind := x, dest := f.src, src := BitVec.ofNat 8 (ownNumber s), seq := f.seq, payload := payload } := by
    simp only [frameFrom, ownNumber, cfg, life, BitVec.ofNat_toNat, BitVec.setWidth_eq]
  rw [answerTo, pushAnswer_room same, frame, bus]
  rfl

/-- Settles O25: the station that has noted the frame decides as it stood before, and its decision is carried out. -/
theorem acceptanceIsOneEvent : Obligations.AcceptanceIsOneEvent := by
  unfold Obligations.AcceptanceIsOneEvent
  rintro offpeak heard f c o i r k s own joined agrees known rfl sound record number accepts free lowest
  have effect := decideEntry_eq_acceptedInto (s := withOffpeak offpeak (noted f s)) sound record accepts
    (lowestFree_some free lowest) (f.payload.drop 4)
  have decided : decision r.number c (some { station := f.src.toNat, seq := f.seq }) (withOffpeak offpeak (noted f s)) =
      .accept := accepts
  rw [exec_forward own joined agrees known, ← number, takeForward]
  dsimp only
  rw [decided, effect]
  exact ⟨_, rfl, answerTo_bus _ _ _ _ _, fun room => answerTo_noted room (by rfl) (by rfl) _ _⟩

end Sys2Proof.Machine
end

section
/-! The outstanding table under a claim and a conversion (R158 to R160). -/

namespace Sys2Proof.Machine

/-! ## A sequence that no entry holds (R158) -/

/-- R158: when the fuel runs out on a value still held, every value passed over is held. -/
theorem clearSequence_held {table : List Outstanding} {peer : Nat} {kind : EntryKind} (fuel : Nat) (v : Byte) (skips : Nat)
    (held : ∃ e ∈ table, e.key = { peer := peer, seq := (clearSequence table peer kind fuel v skips).1, kind := kind })
    (i : Nat) (below : i < fuel) : ∃ e ∈ table, e.key = { peer := peer, seq := v + BitVec.ofNat 8 i, kind := kind } := by
  induction fuel generalizing v skips i with
  | zero => omega
  | succ fuel ih =>
    unfold clearSequence at held
    split at held
    · next taken =>
      have now : ∃ e ∈ table, e.key = { peer := peer, seq := v, kind := kind } := by simpa using taken
      cases i with
      | zero => simpa using now
      | succ i =>
        have next : v + BitVec.ofNat 8 (i + 1) = v + 1 + BitVec.ofNat 8 i := by
          rw [Nat.add_comm, BitVec.ofNat_add, BitVec.add_assoc]
          rfl
        rw [next]
        exact ih (v + 1) (skips + 1) held i (by omega)
    · next free =>
      exact absurd (by simpa using held) free

/-- R158: the key with the `i`-th value after the sequence counter's. -/
def keyAfter (s : State) (peer : Nat) (kind : EntryKind) (i : Nat) : EntryKey :=
  { peer := peer, seq := s.exchange.seq + 1 + BitVec.ofNat 8 i, kind := kind }

theorem nodup_keysAfter (s : State) (peer : Nat) (kind : EntryKind) :
    ((List.range 255).map (keyAfter s peer kind)).Nodup := by
  refine List.Nodup.map_on (fun i hi j hj same => ?_) List.nodup_range
  have seq : s.exchange.seq + 1 + BitVec.ofNat 8 i = s.exchange.seq + 1 + BitVec.ofNat 8 j := congrArg EntryKey.seq same
  have value := congrArg BitVec.toNat ((BitVec.add_right_inj _).mp seq)
  simp only [List.mem_range, BitVec.toNat_ofNat] at hi hj value
  omega

/-- R158: the table's entries cannot hold every value passed over, so the value reached is free. -/
theorem nextSequence_free {s : State} (few : s.exchange.table.length < 255) (peer : Nat) (kind : EntryKind) :
    ∀ x ∈ s.exchange.table, x.key ≠ { peer := peer, seq := (nextSequence s peer kind).1, kind := kind } := by
  intro x mem same
  have held : (List.range 255).map (keyAfter s peer kind) ⊆ s.exchange.table.map (·.key) := by
    intro key within
    obtain ⟨i, below, rfl⟩ := List.mem_map.mp within
    obtain ⟨e, mem, key⟩ := clearSequence_held 255 _ 0 ⟨x, mem, same⟩ i (List.mem_range.mp below)
    exact List.mem_map.mpr ⟨e, mem, key⟩
  have many := ((nodup_keysAfter s peer kind).subperm held).length_le
  simp only [List.length_map, List.length_range] at many
  omega

/-! ## A conversion (R160) -/

/-- R152: a refill changes phases alone in the table. -/
theorem mem_removeRequests {drop : Frame → Bool} {s : State} {e : Outstanding} (mem : e ∈ s.exchange.table) :
    ∃ x ∈ (removeRequests drop s).exchange.table, x.key = e.key := by
  refine ⟨_, List.mem_map.mpr ⟨e, mem, rfl⟩, ?_⟩
  split <;> rfl

@[simp] theorem exchange_joinRequests (f : Frame) (s : State) : (joinRequests f s).exchange = s.exchange := by
  rw [joinRequests_eq]
  split <;> rfl

theorem mem_joinRequests (f : Frame) (s : State) : f ∈ (joinRequests f s).bus.requests ++ (joinRequests f s).bus.waiting := by
  rw [joinRequests_eq]
  split <;> simp

/-- R160: the entry converted, with its new frame. -/
theorem convertEntry_mem {key : EntryKey} {s : State} {e : Outstanding} (found : findEntry s key = some e)
    (kind : EntryKind) (payload : List Byte) :
    ∃ x ∈ (convertEntry key kind payload s).exchange.table, x.key.kind = kind ∧ x.key.peer = key.peer ∧ x.owner = e.owner
      ∧ x.due = none ∧ ∃ f ∈ (convertEntry key kind payload s).bus.requests ++ (convertEntry key kind payload s).bus.waiting,
        f.kind = frameKindOf kind ∧ f.payload = payload ∧ f.seq = x.key.seq := by
  obtain ⟨mem, eq⟩ := findEntry_some found
  obtain ⟨x, mem, key⟩ := mem_removeRequests (drop := frameOf key) (s := takeSequence key.peer kind s) mem
  simp only [convertEntry, found, exchange_joinRequests]
  refine ⟨_, List.mem_map.mpr ⟨x, mem, if_pos (key.trans eq)⟩, rfl, rfl, rfl, rfl, _, mem_joinRequests _ _, rfl, rfl, rfl⟩

/-- R160: a conversion adds no entry and loses none. -/
theorem length_convertEntry (key : EntryKey) (kind : EntryKind) (payload : List Byte) (s : State) :
    (convertEntry key kind payload s).exchange.table.length = s.exchange.table.length := by
  unfold convertEntry
  split
  · rfl
  · simp [mapEntry, removeRequests, refill, takeSequence]

end Sys2Proof.Machine
end

section
/-! A line between SEIZE and its first character (R21 to R24). -/

namespace Sys2Proof.Machine

/-! ## Seizure -/

theorem sampleAgrees_iff {s : State} {k : Fin 8} {high : Bool} :
    sampleAgrees s k high = true ↔ (lineAt s k).seized = (high == (cfg s).lines[k.val].activeHigh) := by
  rw [sampleAgrees, beq_iff_eq, eq_comm]

theorem fifthSample_iff (l : Line) : fifthSample l = true ↔ 4 ≤ l.disagree := decide_eq_true_iff

theorem frame_of_outsideBus {s t : State} (h : outsideBus t = outsideBus s) :
    t = { s with bus := t.bus, exchange := t.exchange } := by
  simp only [outsideBus, Prod.mk.injEq] at h
  cases t
  simp_all

theorem execSeizeSample_agrees {k : Fin 8} {high : Bool} {s : State} (run : running s = true)
    (agrees : (lineAt s k).seized = (high == (cfg s).lines[k.val].activeHigh)) :
    execSeizeSample k high s = .next (mapLine k (fun l => { l with disagree := 0 }) s) := by
  simp only [execSeizeSample, run, Bool.true_eq_false, if_false, sampleAgrees_iff.mpr agrees, if_true]

theorem execSeizeSample_counts {k : Fin 8} {high : Bool} {s : State} (run : running s = true)
    (differs : (lineAt s k).seized ≠ (high == (cfg s).lines[k.val].activeHigh)) (early : (lineAt s k).disagree < 4) :
    execSeizeSample k high s = .next (mapLine k (fun l => { l with disagree := l.disagree + 1 }) s) := by
  have few : ¬ fifthSample (lineAt s k) = true := fun h => by
    rw [fifthSample_iff] at h
    omega
  simp only [execSeizeSample, run, Bool.true_eq_false, if_false, mt sampleAgrees_iff.mp differs, few,
    Bool.false_eq_true]

theorem execSeizeSample_seize {k : Fin 8} {high : Bool} {s : State} (run : running s = true)
    (released : (lineAt s k).seized = false) (fifth : 4 ≤ (lineAt s k).disagree)
    (active : high = (cfg s).lines[k.val].activeHigh) : execSeizeSample k high s = .next (recogniseSeize k s) := by
  have differs : ¬ sampleAgrees s k high = true := fun agrees => by
    rw [sampleAgrees_iff, released, active, beq_self_eq_true] at agrees
    exact Bool.false_ne_true agrees
  simp only [execSeizeSample, run, Bool.true_eq_false, if_false, differs, (fifthSample_iff _).mpr fifth, if_true, released,
    Bool.false_eq_true]

theorem execSeizeRecognised_seize {k : Fin 8} {s : State} (run : running s = true)
    (released : (lineAt s k).seized = false) (fifth : 4 ≤ (lineAt s k).disagree) :
    execSeizeRecognised k s = .next (recogniseSeize k s) := by
  rw [execSeizeRecognised, if_pos ⟨run, released, (fifthSample_iff _).mpr fifth⟩]

/-- R36: the state in which the line is released: its FORWARD entry, if it waits for one, is a CANCEL. -/
def forwardCancelled (l : Line) (s : State) : State :=
  match l.state, l.lookup with
  | .lookup, some key => cancelForward key s
  | _, _ => s

theorem recogniseRelease_eq (k : Fin 8) (s : State) : recogniseRelease k s =
    mapLine k (released ((lineAt s k).state == .collect || (lineAt s k).state == .lookup))
      (forwardCancelled (lineAt s k) s) := rfl

theorem outsideBus_forwardCancelled (l : Line) (s : State) : outsideBus (forwardCancelled l s) = outsideBus s := by
  unfold forwardCancelled
  split
  · exact outsideBus_convertEntry _ _ _ s
  · rfl

theorem forwardCancelled_lookup {l : Line} {key : EntryKey} (state : l.state = .lookup) (lookup : l.lookup = some key)
    (s : State) : forwardCancelled l s = convertEntry key .cancel [key.seq] s := by
  rw [forwardCancelled, state, lookup]
  rfl

theorem forwardCancelled_other {l : Line} (state : l.state ≠ .lookup) (s : State) : forwardCancelled l s = s := by
  unfold forwardCancelled
  split
  · next lookup _ => exact absurd lookup state
  · rfl

theorem recogniseRelease_frame (k : Fin 8) (s : State) : recogniseRelease k s = { s with
    intake := (recogniseRelease k s).intake, bus := (recogniseRelease k s).bus,
    exchange := (recogniseRelease k s).exchange } := by
  rw [recogniseRelease_eq, frame_of_outsideBus (outsideBus_forwardCancelled (lineAt s k) s)]
  rfl

/-- R22: a release writes the one line of the Intake Unit. -/
theorem recogniseRelease_intake (k : Fin 8) (s : State) : (recogniseRelease k s).intake = (setLine k
    { seized := false, disagree := 0, state := .idle, rate := none, rateFallback := false, overrun := false,
      measuring := none, rxShift := none, fifo := [], entry := none, timer := none, lookup := none,
      txBuffer := (lineAt s k).txBuffer, txShift := (lineAt s k).txShift,
      counts := { (lineAt s k).counts with abandoned :=
        if (lineAt s k).state = .collect ∨ (lineAt s k).state = .lookup then min ((lineAt s k).counts.abandoned + 1) 65535
        else (lineAt s k).counts.abandoned } } s).intake := by
  have abandons : ((lineAt s k).state == .collect || (lineAt s k).state == .lookup) =
      decide ((lineAt s k).state = .collect ∨ (lineAt s k).state = .lookup) := by
    rw [Bool.decide_or]
    rfl
  rw [recogniseRelease_eq, frame_of_outsideBus (outsideBus_forwardCancelled (lineAt s k) s), abandons]
  simp only [mapLine, released, decide_eq_true_eq]
  rfl

/-- R22: a release outside LOOKUP has no entry to convert. -/
theorem recogniseRelease_other {k : Fin 8} {s : State} (state : (lineAt s k).state ≠ .lookup) :
    (recogniseRelease k s).bus = s.bus ∧ (recogniseRelease k s).exchange = s.exchange := by
  rw [recogniseRelease_eq, forwardCancelled_other state]
  exact ⟨rfl, rfl⟩

/-- Settles O16: the sample by its agreement and count; the release by its conversion and its line. -/
theorem seizeAndReleaseAreRecognised : Obligations.SeizeAndReleaseAreRecognised := by
  unfold Obligations.SeizeAndReleaseAreRecognised
  refine ⟨?_, ?_⟩
  · rintro k high l s run rfl
    refine ⟨fun agrees => execSeizeSample_agrees run agrees, fun differs early => execSeizeSample_counts run differs early,
      ?_⟩
    rintro idle fifth t rfl
    exact ⟨execSeizeRecognised_seize run idle fifth, fun active => execSeizeSample_seize run idle fifth active⟩
  · rintro k l s run rfl seized fifth
    have release : exec (.releaseRecognised k) s = .next (recogniseRelease k s) :=
      congrArg _ (if_pos ⟨run, seized, (fifthSample_iff _).mpr fifth⟩)
    refine ⟨_, release, recogniseRelease_frame k s, recogniseRelease_intake k s,
      recogniseRelease_other, fun e state lookup found _ => ?_⟩
    rw [recogniseRelease_eq, forwardCancelled_lookup (l := lineAt s k) state lookup]
    obtain ⟨x, mem, kind, peer, owner, due, -⟩ := convertEntry_mem found .cancel [e.key.seq]
    exact ⟨⟨x, mem, kind, peer, owner, due⟩, length_convertEntry _ _ _ s⟩

/-! ## Calibration -/

/-- R23: the thresholds of the four rates. -/
theorem rateFor_iff (micros : Nat) :
    (rateFor micros = .r300 ↔ 16667 ≤ micros) ∧ (rateFor micros = .r1200 ↔ 5000 ≤ micros ∧ micros < 16667)
      ∧ (rateFor micros = .r2400 ↔ 2083 ≤ micros ∧ micros < 5000) ∧ (rateFor micros = .r9600 ↔ micros < 2083) := by
  unfold rateFor
  split_ifs <;> simp <;> omega

theorem timerReached_of_toInt {now due : Tick} {timer : Option Tick} (runs : timer = some due)
    (h : 0 ≤ (now - due).toInt) : timerReached now timer = true := by
  rw [runs, timerReached_some]
  exact (reached_iff now due).mpr h

/-- Settles O17: each event of RATE meets its condition and writes the line once. -/
theorem calibrationChoosesRate : Obligations.CalibrationChoosesRate := by
  unfold Obligations.CalibrationChoosesRate
  rintro k l s run rfl rate
  have state : (lineAt s k).state = .rate := rate
  refine ⟨fun quiet => ?_, fun micros measures bound => ?_, ?_⟩
  · have edge : (lineAt s k).measuring = none := quiet
    show execCalibrationFirstEdge k s = _
    rw [execCalibrationFirstEdge, if_pos ⟨run, state, edge⟩]
    rfl
  · have started : (lineAt s k).measuring.isSome = true := Option.isSome_iff_ne_none.mpr measures
    refine ⟨rateFor micros, ?_, rateFor_iff micros⟩
    show execRateChosen k micros s = _
    rw [execRateChosen, if_pos ⟨run, state, started, bound⟩]
    rfl
  · rintro t rfl
    refine ⟨fun measures => ?_, fun quiet due timer late => ?_⟩
    · have started : (lineAt s k).measuring.isSome = true := Option.isSome_iff_ne_none.mpr measures
      show execMeasurementOverflow k s = _
      rw [execMeasurementOverflow, if_pos ⟨run, state, started⟩]
      rfl
    · have edge : (lineAt s k).measuring = none := quiet
      have expired : timerReached s.tick (lineAt s k).timer = true := timerReached_of_toInt timer late
      show execCalibrationTimeout k s = _
      rw [execCalibrationTimeout, if_pos ⟨run, state, edge, expired⟩]
      rfl

end Sys2Proof.Machine
end

section
/-! The characters of a line (R25 to R28), the verdict or the FORWARD that its CHECK brings (R30 to R33), and the
transmitter (R38). -/

namespace Sys2Proof.Machine

/-! ## One character by the state of its line -/

theorem receiverRuns_of_open {l : Line} (state : l.state = .awaitOpen ∨ l.state = .collect ∨ l.state = .lookup)
    (runs : l.overrun = false) : receiverRuns l = true := by
  unfold receiverRuns
  rcases state with state | state | state <;> rw [state, runs] <;> rfl

theorem receiverRuns_stopped {l : Line} (stopped : l.state = .idle ∨ l.state = .rate ∨ l.state = .halted ∨ l.overrun = true) :
    receiverRuns l = false := by
  unfold receiverRuns
  rcases stopped with state | state | state | overrun
  · rw [state]
  · rw [state]
  · rw [state]
  · cases l.state <;> simp [overrun]

theorem exec_characterReceived_stopped {k : Fin 8} {s : State} (offpeak : Bool) (char : Byte) (framing : Bool)
    (stopped : receiverRuns (lineAt s k) = false) : exec (.characterReceived offpeak k char framing) s = .next s :=
  congrArg _ (if_neg fun runs => by simp [stopped] at runs)

theorem exec_characterReceived_runs {k : Fin 8} {s : State} (offpeak : Bool) (char : Byte) (framing : Bool)
    (run : running s = true) (runs : receiverRuns (lineAt s k) = true) :
    exec (.characterReceived offpeak k char framing) s =
      .next (feedAssembler k (mapLine k (completeChar { byte := char, framing := framing }) (withOffpeak offpeak s))) :=
  congrArg _ (if_pos ⟨run, runs⟩)

@[simp] theorem lineAt_withOffpeak (offpeak : Bool) (s : State) (k : Fin 8) :
    lineAt (withOffpeak offpeak s) k = lineAt s k := rfl

/-- R26: in AWAIT-OPEN and COLLECT the assembler takes the character at once, for nothing else waits. -/
theorem exec_characterReceived_assembles {k : Fin 8} {s : State} (offpeak : Bool) (char : Byte) (framing : Bool)
    (run : running s = true) (fits : LineFits (lineAt s k))
    (state : (lineAt s k).state = .awaitOpen ∨ (lineAt s k).state = .collect) (runs : (lineAt s k).overrun = false) :
    exec (.characterReceived offpeak k char framing) s =
      .next (assemble k (withOffpeak offpeak s) { byte := char, framing := framing }) := by
  have empty : (lineAt s k).fifo = [] := fifo_of_not_lookup fits (by rcases state with h | h <;> simp [h])
  have quiet : (lineAt s k).rxShift = none := fits.2.2.1
  rw [exec_characterReceived_runs offpeak char framing run
    (receiverRuns_of_open (state.imp_right Or.inl) runs)]
  generalize whole : mapLine k (completeChar { byte := char, framing := framing }) (withOffpeak offpeak s) = u
  have line : lineAt u k = { lineAt s k with rxShift := none, fifo := [{ byte := char, framing := framing }] } := by
    rw [← whole, mapLine, lineAt_setLine, lineAt_withOffpeak, completeChar_empty empty]
  have back : mapLine k (fun l => { l with fifo := [] }) u = withOffpeak offpeak s := by
    have same : ({ lineAt s k with rxShift := none, fifo := [] } : Line) = lineAt (withOffpeak offpeak s) k := by
      rw [lineAt_withOffpeak, ← quiet, ← empty]
    rw [mapLine, line, ← whole, mapLine, setLine_setLine, same, setLine_self]
  have feeds : feedAssembler k u = (lineAt u k).fifo.foldl (assemble k) (mapLine k (fun l => { l with fifo := [] }) u) := by
    unfold feedAssembler
    rw [line]
    rcases state with state | state <;> simp only [state]
  rw [feeds, back, line]
  rfl

/-- R26, R27: in LOOKUP the character waits in the FIFO. -/
theorem exec_characterReceived_waits {k : Fin 8} {s : State} (offpeak : Bool) (char : Byte) (framing : Bool)
    (run : running s = true) (state : (lineAt s k).state = .lookup) (runs : (lineAt s k).overrun = false) :
    exec (.characterReceived offpeak k char framing) s =
      .next (setLine k (completeChar { byte := char, framing := framing } (lineAt s k)) (withOffpeak offpeak s)) := by
  rw [exec_characterReceived_runs offpeak char framing run (receiverRuns_of_open (.inr (.inr state)) runs), mapLine,
    lineAt_withOffpeak]
  have stays : (completeChar { byte := char, framing := framing } (lineAt s k)).state = .lookup := by
    unfold completeChar passShift
    dsimp only
    split <;> exact state
  simp only [feedAssembler, lineAt_setLine, stays]

theorem completeChar_room {l : Line} (room : l.fifo.length < 2) (quiet : l.rxShift = none) (c : RxChar) :
    completeChar c l = { l with fifo := l.fifo ++ [c] } := by
  have same : ({ l with fifo := l.fifo ++ [c] } : Line) = { l with rxShift := none, fifo := l.fifo ++ [c] } := by rw [← quiet]
  rw [same, completeChar, passShift]
  exact if_pos room

theorem completeChar_full {l : Line} (full : 2 ≤ l.fifo.length) (quiet : l.rxShift = none) (c : RxChar) :
    completeChar c l = { l with
      fifo := [], overrun := true, counts := { l.counts with overruns := min (l.counts.overruns + 1) 65535 } } := by
  have same : ({ l with fifo := [], overrun := true, counts := { l.counts with
      overruns := min (l.counts.overruns + 1) 65535 } } : Line) = overrunLine l := by rw [overrunLine, ← quiet]; rfl
  rw [same, completeChar, passShift]
  exact if_neg (Nat.not_lt.mpr full)

/-! ## The assembler -/

section Assembler

variable {k : Fin 8} {s : State} {c : RxChar}

theorem assemble_discards (opens : (lineAt s k).state = .awaitOpen) (other : c.byte ≠ openChar) : assemble k s c = s := by
  simp only [assemble, opens, other, if_false]

theorem assemble_opens (opens : (lineAt s k).state = .awaitOpen) (first : c.byte = openChar) :
    assemble k s c = setLine k { lineAt s k with
      state := .collect, entry := some (newEntry c.framing), timer := some (lineTimer s) } s := by
  simp only [assemble, opens, first, if_true, mapLine]

theorem assemble_adds {e : EntryAssembly} (collects : (lineAt s k).state = .collect) (entry : (lineAt s k).entry = some e)
    (early : e.awaitingCheck = false) :
    assemble k s c = setLine k { lineAt s k with entry := some (addChar c e), timer := some (lineTimer s) } s := by
  simp only [assemble, collects, entry, early, Bool.false_eq_true, if_false, mapLine]

theorem assemble_checks {e : EntryAssembly} (collects : (lineAt s k).state = .collect) (entry : (lineAt s k).entry = some e)
    (last : e.awaitingCheck = true) :
    assemble k s c = checkEntry k (addCheck c e) (setLine k { lineAt s k with timer := none } s) := by
  simp only [assemble, collects, entry, last, if_true, mapLine]

end Assembler

/-- R28: the entry with one more character before its CHECK. -/
theorem addChar_eq (c : RxChar) {e : EntryAssembly} (early : e.awaitingCheck = false) : addChar c e =
    { chars := if c.byte ≠ 0x03 ∧ e.chars.length < 88 then e.chars ++ [c.byte] else e.chars,
      sum := e.sum + c.byte, framing := e.framing || c.framing,
      tooLong := e.tooLong || decide (c.byte ≠ 0x03 ∧ 88 ≤ e.chars.length),
      awaitingCheck := decide (c.byte = 0x03) } := by
  by_cases close : c.byte = 0x03
  · simp only [addChar, closeChar, close, if_true, ne_eq, not_true, false_and, if_false, decide_false, Bool.or_false,
      decide_true]
  · by_cases room : e.chars.length < 88
    · simp only [addChar, closeChar, close, if_false, room, if_true, ne_eq, not_false_eq_true, and_self, early,
        Nat.not_le.mpr room, and_false, decide_false, Bool.or_false]
    · simp only [addChar, closeChar, close, if_false, room, ne_eq, not_false_eq_true, and_false, early,
        Nat.not_lt.mp room, and_self, decide_true, Bool.or_true, decide_false]

/-- Settles O18: the receiver hands the character to the assembler or keeps it, by the state of the line. -/
theorem charactersAreAssembled : Obligations.CharactersAreAssembled := by
  unfold Obligations.CharactersAreAssembled
  rintro offpeak k char framing l s run line fits after rfl
  obtain rfl : l = lineAt s k := line
  have quiet : (lineAt s k).rxShift = none := fits.2.2.1
  refine ⟨fun state runs other => ?_, fun state runs first => ?_, fun e state runs entry early => ?_,
    fun state runs room => ?_, fun state runs full => ?_, fun stopped => ?_⟩
  · rw [exec_characterReceived_assembles offpeak char framing run fits (.inl state) runs, assemble_discards (s := withOffpeak offpeak s) state other]
    rfl
  · rw [exec_characterReceived_assembles offpeak char framing run fits (.inl state) runs,
      assemble_opens (s := withOffpeak offpeak s) (c := ⟨char, framing⟩) state first]
    rfl
  · rw [exec_characterReceived_assembles offpeak char framing run fits (.inr state) runs,
      assemble_adds (s := withOffpeak offpeak s) state entry early, addChar_eq _ early]
    rfl
  · rw [exec_characterReceived_waits offpeak char framing run state runs, completeChar_room room quiet]
    rfl
  · rw [exec_characterReceived_waits offpeak char framing run state runs, completeChar_full full quiet]
    rfl
  · exact exec_characterReceived_stopped offpeak char framing (receiverRuns_stopped stopped)

end Sys2Proof.Machine
end

section
/-! The CHECK of an entry: its validation (R30), its routing (R31 to R33), the verdicts (R29, R38) and their transmission
(R38). -/

namespace Sys2Proof.Machine

/-! ## Validation (R30) -/

theorem classOf_none_of_isDigit {b : Byte} (digit : isDigit b = true) : classOf b = none := by
  simp only [isDigit, Bool.and_eq_true, decide_eq_true_eq] at digit
  have other : ∀ v : Byte, 0x39 < v.toNat → b ≠ v := fun v above same => by
    rw [same] at digit
    omega
  simp only [classOf, other 0x4E (by decide), other 0x41 (by decide), other 0x54 (by decide), other 0x58 (by decide),
    other 0x59 (by decide), other 0x5A (by decide), if_false]

/-- R30: the characters after the seven digits, as the class character at place 7 and the body after it. -/
theorem drop_seven {cs : List Byte} {ch : Byte} {body : List Byte} (h : cs.drop 7 = ch :: body) :
    cs[7]? = some ch ∧ cs.drop 8 = body ∧ cs.length - 8 = body.length := by
  have rest : cs.drop 8 = body := by
    have := congrArg List.tail h
    rwa [List.tail_drop] at this
  refine ⟨?_, rest, ?_⟩
  · rw [← List.head?_drop, h]
    rfl
  · rw [← rest, List.length_drop]

/-- R30: what gives BAD-ENTRY. -/
theorem validate_none {e : EntryAssembly} (bad : e.framing = true ∨ e.tooLong = true ∨ e.sum ≠ 0
    ∨ (e.chars.takeWhile isDigit).length ≠ 7 ∨ (e.chars[7]?).bind classOf = none
    ∨ ∃ c, (e.chars[7]?).bind classOf = some c ∧ (maxBody c.medium < e.chars.length - 8
      ∨ ∃ b ∈ e.chars.drop 8, inBodySet c.medium b = false)) : validate e = none := by
  unfold validate
  dsimp only
  split
  · rfl
  · next whole =>
    obtain ⟨framing, long, digits, sum⟩ : ¬ e.framing = true ∧ ¬ e.tooLong = true
      ∧ ¬ (e.chars.takeWhile isDigit).length ≠ 7 ∧ ¬ e.sum ≠ 0 := by simpa only [not_or] using whole
    split
    · rfl
    · next ch body split =>
      obtain ⟨atSeven, rest, length⟩ := drop_seven split
      rw [atSeven, Option.bind_some, rest, length] at bad
      split
      · rfl
      · next c known =>
        rcases bad with h | h | h | h | h | ⟨c', named, h⟩
        · exact absurd h framing
        · exact absurd h long
        · exact absurd h sum
        · exact absurd h digits
        · rw [known] at h
          cases h
        · obtain rfl : c = c' := Option.some.inj (known.symm.trans named)
          refine if_neg fun ⟨short, inside⟩ => ?_
          rcases h with long | ⟨b, mem, outside⟩
          · omega
          · simp [List.all_eq_true.mp inside b mem] at outside

/-- R30: the content of a valid entry. -/
theorem validate_some {e : EntryAssembly} {digits body : List Byte} {ch : Byte} {c : MessageClass}
    (chars : e.chars = digits ++ ch :: body) (seven : digits.length = 7) (digit : digits.all isDigit = true)
    (known : classOf ch = some c) (short : body.length ≤ maxBody c.medium) (inside : body.all (inBodySet c.medium) = true)
    (sum : e.sum = 0) (framing : e.framing = false) (long : e.tooLong = false) :
    validate e = some { number := digitsValue digits, cls := c, body := body } := by
  have ends : isDigit ch = false := by
    by_contra h
    rw [classOf_none_of_isDigit (by simpa using h)] at known
    cases known
  have front : e.chars.takeWhile isDigit = digits := by
    rw [chars, List.takeWhile_append_of_pos (List.all_eq_true.mp digit), List.takeWhile_cons_of_neg (by simp [ends]),
      List.append_nil]
  have back : e.chars.drop 7 = ch :: body := by rw [chars, ← seven, List.drop_left]
  have whole : ¬ (e.framing = true ∨ e.tooLong = true ∨ digits.length ≠ 7 ∨ e.sum ≠ 0) := by
    simp [framing, long, seven, sum]
  simp only [validate, front, back, known, whole, if_false]
  exact if_pos ⟨short, inside⟩

/-! ## Routing (R31 to R33) -/

section Routing

variable {k : Fin 8} {ask : ForwardAsk} {s : State}

theorem routeEntry_outside (state : s.life.state = .configured ∨ s.life.state = .joining) :
    routeEntry k ask s = produceVerdict k .busy s := if_pos state

theorem not_outside {l : Life} (joined : l.state = .onBus ∨ l.state = .leaving) :
    ¬ (l.state = .configured ∨ l.state = .joining) := by
  rcases joined with state | state <;> simp [state]

theorem routeEntry_unknown (joined : s.life.state = .onBus ∨ s.life.state = .leaving)
    (home : homeLookup s ask.number = .none) : routeEntry k ask s = produceVerdict k .unknown s := by
  simp only [routeEntry, not_outside joined, if_false, home]

theorem routeEntry_own (joined : s.life.state = .onBus ∨ s.life.state = .leaving)
    (home : homeLookup s ask.number = .own) : routeEntry k ask s =
      produceVerdict k (verdictOf (decision ask.number ask.cls none s)) (decideEntry ask.number ask.cls ask.body none s) := by
  simp only [routeEntry, not_outside joined, if_false, home]

theorem routeEntry_leaving {p : Nat} (state : s.life.state = .leaving) (home : homeLookup s ask.number = .peer p) :
    routeEntry k ask s = produceVerdict k .busy s := by
  simp only [routeEntry, not_outside (.inr state), if_false, home]
  exact if_pos state

theorem routeEntry_absent {p : Nat} (state : s.life.state = .onBus) (home : homeLookup s ask.number = .peer p)
    (absent : (presenceAt s p).present = false) : routeEntry k ask s = produceVerdict k .unreachable s := by
  have stays : s.life.state ≠ .leaving := by simp [state]
  simp only [routeEntry, not_outside (.inl state), if_false, home, stays, absent, if_true]

/-- R31: no table entry or no request-queue room is free. -/
theorem noRoom_iff : (outstandingFree s = 0 ∨ requestRoom s = 0) ↔
    (96 ≤ s.exchange.table.length ∨ 32 ≤ s.bus.requests.length + s.bus.waiting.length) := by
  simp only [outstandingFree, requestRoom, Config.outstandingSize, Config.requestQueueSize]
  omega

theorem routeEntry_full {p : Nat} (state : s.life.state = .onBus) (home : homeLookup s ask.number = .peer p)
    (present : (presenceAt s p).present = true)
    (full : 96 ≤ s.exchange.table.length ∨ 32 ≤ s.bus.requests.length + s.bus.waiting.length) :
    routeEntry k ask s = produceVerdict k .busy s := by
  have stays : s.life.state ≠ .leaving := by simp [state]
  simp only [routeEntry, not_outside (.inl state), if_false, home, stays, present, Bool.true_eq_false,
    noRoom_iff.mpr full, if_true]

theorem routeEntry_forward {p : Nat} (state : s.life.state = .onBus) (home : homeLookup s ask.number = .peer p)
    (present : (presenceAt s p).present = true) (free : s.exchange.table.length < 96)
    (room : s.bus.requests.length + s.bus.waiting.length < 32) : routeEntry k ask s = forwardEntry k p ask s := by
  have stays : s.life.state ≠ .leaving := by simp [state]
  have space : ¬ (outstandingFree s = 0 ∨ requestRoom s = 0) := by
    rw [noRoom_iff]
    omega
  simp only [routeEntry, not_outside (.inl state), if_false, home, stays, present, Bool.true_eq_false, space]

theorem checkEntry_bad {e : EntryAssembly} (bad : validate e = none) : checkEntry k e s = produceVerdict k .badEntry s := by
  simp only [checkEntry, bad]

theorem checkEntry_valid {e : EntryAssembly} (valid : validate e = some ask) : checkEntry k e s = routeEntry k ask s := by
  simp only [checkEntry, valid]

theorem decideEntry_refused {n : Nat} {c : MessageClass} {o : Option Origin} (refused : decision n c o s ≠ .accept)
    (body : List Byte) : decideEntry n c body o s = s := by
  unfold decideEntry
  split
  · next accepts _ _ => exact absurd accepts refused
  · rfl

end Routing

/-! ## The station at a CHECK -/

/-- R28: the station that judges an entry: the level of OFFPEAK noted and the entry timer stopped. -/
def atCheck (offpeak : Bool) (k : Fin 8) (s : State) : State :=
  setLine k { lineAt s k with timer := none } (withOffpeak offpeak s)

/-- R28: the CHECK completes the entry. -/
theorem exec_characterReceived_checks {k : Fin 8} {s : State} {e : EntryAssembly} (offpeak : Bool) (char : Byte)
    (framing : Bool) (run : running s = true) (fits : LineFits (lineAt s k)) (collects : (lineAt s k).state = .collect)
    (runs : (lineAt s k).overrun = false) (entry : (lineAt s k).entry = some e) (last : e.awaitingCheck = true) :
    exec (.characterReceived offpeak k char framing) s = .next (checkEntry k
      { e with sum := e.sum + char, framing := e.framing || framing } (atCheck offpeak k s)) := by
  rw [exec_characterReceived_assembles offpeak char framing run fits (.inr collects) runs,
    assemble_checks (s := withOffpeak offpeak s) collects entry last]
  rfl

/-- A change of the line of the CHECK is one write of the line that took it. -/
theorem mapLine_atCheck {offpeak : Bool} {k : Fin 8} {s x : State} (intake : x.intake = (atCheck offpeak k s).intake)
    (f : Line → Line) : (mapLine k f x).intake = (setLine k (f { lineAt s k with timer := none }) s).intake := by
  simp [mapLine, setLine, lineAt, intake, atCheck, withOffpeak]

/-- R38: a verdict on the line of the CHECK, in a station `x` whose lines and pins are those of the CHECK. -/
theorem produceVerdict_atCheck {offpeak : Bool} {k : Fin 8} {s x : State} (intake : x.intake = (atCheck offpeak k s).intake)
    (pins : x.pins = (atCheck offpeak k s).pins) (runs : (lineAt s k).overrun = false) (v : Verdict) :
    produceVerdict k v x = setLine k { lineAt s k with
        txBuffer := some { byte := verdictChar v, rate := (lineAt s k).rate }, state := .awaitOpen, entry := none,
        timer := none, lookup := none }
      { x with pins := { s.pins with offpeak := offpeak },
               intake := { s.intake with counts := countVerdict v s.intake.counts } } := by
  have line : lineAt (mapIntakeCounts (countVerdict v) x) k = { lineAt s k with timer := none } := by
    simp only [lineAt, mapIntakeCounts, State.mapIntake_intake, intake, atCheck, setLine, Vector.getElem_set_self]
  have after : afterVerdict v { lineAt s k with timer := none } = { lineAt s k with
      txBuffer := some { byte := verdictChar v, rate := (lineAt s k).rate }, state := .awaitOpen, entry := none,
      timer := none, lookup := none } := by
    simp only [afterVerdict, runs, Bool.false_eq_true, if_false]
  rw [produceVerdict, mapLine, line, after]
  obtain ⟨⟩ := x
  subst intake pins
  simp [setLine, mapIntakeCounts, State.mapIntake, atCheck, withOffpeak]

/-! ## The routes of an entry -/

section Routes

variable {offpeak : Bool} {k : Fin 8} {char : Byte} {framing : Bool} {ask : ForwardAsk} {s : State}

/-- R31: a route that ends in a verdict with nothing else done. -/
theorem next_verdict {e : EntryAssembly} {v : Verdict} (runs : (lineAt s k).overrun = false)
    (check : exec (.characterReceived offpeak k char framing) s = .next (checkEntry k e (atCheck offpeak k s)))
    (route : checkEntry k e (atCheck offpeak k s) = produceVerdict k v (atCheck offpeak k s)) :
    exec (.characterReceived offpeak k char framing) s = .next (setLine k { lineAt s k with
        txBuffer := some { byte := verdictChar v, rate := (lineAt s k).rate }, state := .awaitOpen, entry := none,
        timer := none, lookup := none }
      { s with pins := { s.pins with offpeak := offpeak },
               intake := { s.intake with counts := countVerdict v s.intake.counts } }) := by
  rw [check, route, produceVerdict_atCheck rfl rfl runs]
  rfl

/-- R31: a route to the own station, whose decision is to accept. -/
theorem next_accepted {e : EntryAssembly} {i : Nat} {r : Subscriber} {j : Fin 256}
    (runs : (lineAt s k).overrun = false) (valid : validate e = some ask)
    (check : exec (.characterReceived offpeak k char framing) s = .next (checkEntry k e (atCheck offpeak k s)))
    (joined : s.life.state = .onBus ∨ s.life.state = .leaving) (home : homeLookup s ask.number = .own)
    (accepts : decision ask.number ask.cls none s = .accept) (sound : DirectorySound s.directory)
    (record : s.directory[i]? = some r) (number : r.number = ask.number) (free : (s.store.slots[j.val]).held = none)
    (lowest : ∀ m : Fin 256, m < j → (s.store.slots[m.val]).held ≠ none) :
    exec (.characterReceived offpeak k char framing) s = .next (setLine k { lineAt s k with
        txBuffer := some { byte := 0x41, rate := (lineAt s k).rate }, state := .awaitOpen, entry := none,
        timer := none, lookup := none }
      { acceptedInto j i r ask.cls ask.body none { s with pins := { s.pins with offpeak := offpeak } } with
          pins := { s.pins with offpeak := offpeak },
          intake := { s.intake with counts := countVerdict .accept s.intake.counts } }) := by
  have decided : decision r.number ask.cls none (atCheck offpeak k s) = .accept := by
    rw [number]
    exact accepts
  have effect := decideEntry_eq_acceptedInto (s := atCheck offpeak k s) sound record decided
    (lowestFree_some (s := atCheck offpeak k s) free lowest) ask.body
  rw [check, checkEntry_valid valid, routeEntry_own (s := atCheck offpeak k s) joined home, ← number, decided, effect,
    verdictOf, produceVerdict_atCheck (offpeak := offpeak) (s := s)
      (x := acceptedInto j i r ask.cls ask.body none (atCheck offpeak k s)) rfl rfl runs]
  rfl

end Routes

/-! ## The timer and the transmitter (R29, R38) -/

theorem exec_entryTimeout {k : Fin 8} {s : State} {due : Tick} (run : running s = true)
    (collects : (lineAt s k).state = .collect) (timer : (lineAt s k).timer = some due)
    (late : 0 ≤ (s.tick - due).toInt) : exec (.entryTimeout k) s = .next (produceVerdict k .timeout s) :=
  congrArg _ (if_pos ⟨run, collects, timerReached_of_toInt timer late⟩)

theorem exec_verdictTransmission {k : Fin 8} {s : State} {c : TxChar} (run : running s = true)
    (buffer : (lineAt s k).txBuffer = some c) (idle : (lineAt s k).txShift = none) :
    exec (.verdictTransmission k) s = .next (setLine k { lineAt s k with
      txShift := some { bits := serialBits c.byte, rate := c.rate, since := s.tick }, txBuffer := none } s) := by
  have act : exec (.verdictTransmission k) s = .next (mapLine k (takeBuffer s.tick) s) :=
    congrArg _ (if_pos ⟨run, by rw [buffer]; rfl, idle⟩)
  rw [act, mapLine, takeBuffer, buffer]

/-- Settles O19: the CHECK by its validation and its route; then the timer and the transmitter. -/
theorem lineGivesVerdicts : Obligations.LineGivesVerdicts := by
  unfold Obligations.LineGivesVerdicts
  refine ⟨?_, ?_⟩
  · rintro offpeak k char framing l e checked s run line fits collects runs entry last rfl gives n rfl rfl busy rfl
    obtain rfl : l = lineAt s k := line
    have check := exec_characterReceived_checks offpeak char framing run fits collects runs entry last
    refine ⟨fun bad => next_verdict runs check (checkEntry_bad (validate_none bad)),
      fun digits body ch c chars seven digit known short inside sum mark long =>
        validate_some chars seven digit known short inside sum mark long, fun ask valid => ⟨fun outside => ?_, fun joined =>
          ⟨fun home => ?_, fun home d decided own eq => ⟨fun refused => ?_, ?_⟩, fun p home => ⟨fun state => ?_,
            fun state absent => ?_, fun state present full => ?_⟩⟩⟩⟩
    · exact next_verdict runs check ((checkEntry_valid valid).trans (routeEntry_outside outside))
    · exact next_verdict runs check ((checkEntry_valid valid).trans (routeEntry_unknown joined home))
    · have refuses : decision ask.number ask.cls none (atCheck offpeak k s) = d := decided.symm
      have route := (checkEntry_valid (k := k) valid).trans (routeEntry_own (s := atCheck offpeak k s) joined home)
      rw [decideEntry_refused (refuses.trans_ne refused), refuses] at route
      rw [next_verdict runs check route, eq]
      cases d <;> rfl
    · rintro i r j rfl sound record number free lowest
      rw [next_accepted runs valid check joined home decided.symm sound record number free lowest, eq]
      rfl
    · exact next_verdict runs check ((checkEntry_valid valid).trans (routeEntry_leaving state home))
    · exact next_verdict runs check ((checkEntry_valid valid).trans (routeEntry_absent state home absent))
    · exact next_verdict runs check ((checkEntry_valid valid).trans (routeEntry_full state home present full))
  · rintro k l s run line
    obtain rfl : l = lineAt s k := line
    refine ⟨fun due collects timer late => exec_entryTimeout run collects timer late, fun c buffer =>
      ⟨fun idle => exec_verdictTransmission run buffer idle, fun busy => execVerdictTransmission_busy busy⟩⟩

/-- Settles O20: the claim takes a free sequence, queues its frame and starts its timer; the line waits for it. -/
theorem entryIsForwarded : Obligations.EntryIsForwarded := by
  unfold Obligations.EntryIsForwarded
  rintro offpeak k char framing l e ask p s run line fits collects runs entry last valid state home present free room
  obtain rfl : l = lineAt s k := line
  have check := exec_characterReceived_checks offpeak char framing run fits collects runs entry last
  have route := (checkEntry_valid (k := k) valid).trans
    (routeEntry_forward (s := atCheck offpeak k s) state home present free room)
  refine ⟨(nextSequence s p .forward).1, _, check.trans (congrArg _ route), rfl, nextSequence_free (by omega) p .forward,
    rfl, rfl, rfl, ?_⟩
  exact mapLine_atCheck (x := claimEntry p .forward (.line k) (forwardPayload ask) (atCheck offpeak k s)) rfl _

end Sys2Proof.Machine
end

section
/-! The replies that a line and its cancels wait for: TAKEN (R34) and CANCEL-ANSWER (R37, R39). -/

namespace Sys2Proof.Machine

/-! ## The end of a LOOKUP (R34, R38) -/

@[simp] theorem lineAt_mapIntakeCounts (f : IntakeCounts → IntakeCounts) (s : State) (k : Fin 8) :
    lineAt (mapIntakeCounts f s) k = lineAt s k := rfl

@[simp] theorem lineAt_mapLine (k : Fin 8) (f : Line → Line) (s : State) : lineAt (mapLine k f s) k = f (lineAt s k) :=
  lineAt_setLine k _ s

theorem lineAt_mapLine_ne {j k : Fin 8} (other : j ≠ k) (f : Line → Line) (s : State) :
    lineAt (mapLine k f s) j = lineAt s j := lineAt_setLine_ne other _ s

@[simp] theorem lineAt_produceVerdict (k : Fin 8) (v : Verdict) (s : State) :
    lineAt (produceVerdict k v s) k = afterVerdict v (lineAt s k) := lineAt_mapLine k _ _

/-- R26: with no character waiting, a verdict is all that ends a LOOKUP. -/
theorem leaveLookup_empty {k : Fin 8} {s : State} (empty : (lineAt s k).fifo = []) (v : Verdict) :
    leaveLookup k v s = produceVerdict k v s := by
  have quiet : (lineAt (produceVerdict k v s) k).fifo = [] := by rw [lineAt_produceVerdict]; exact empty
  have same : mapLine k (fun l => { l with fifo := [] }) (produceVerdict k v s) = produceVerdict k v s := by
    rw [mapLine, ← quiet]
    exact setLine_self k _
  rw [leaveLookup, drainFifo, quiet, same]
  exact ite_self _

/-! ## The codes -/

/-- R34: the verdict character that a TAKEN code brings. -/
theorem verdictChar_takenVerdict (code : Byte) :
    verdictChar (takenVerdict code) = ([0x41, 0x55, 0x55, 0x53, 0x50, 0x51, 0x42][code.toNat]?).getD 0x48 := by
  revert code
  decide

theorem decisionOf_eq_none_iff (code : Byte) : decisionOf code = none ↔ ¬ code.toNat ≤ 6 := by
  revert code
  decide

theorem cancelCodeOf_eq (code : Byte) : cancelCodeOf code = if code = 0 then some .cancelled
    else if code = 1 then some .tooLate else if code = 2 then some .unknown else none := by
  revert code
  decide

/-- R37, R39: the one count that a CANCEL-ANSWER raises. -/
theorem countCancel_cancelCodeOf (code : Byte) (n : IntakeCounts) : countCancel (cancelCodeOf code) n = { n with
    cancelDone := if code = 0 then min (n.cancelDone + 1) 65535 else n.cancelDone,
    cancelTooLate := if code = 1 then min (n.cancelTooLate + 1) 65535 else n.cancelTooLate,
    cancelUnknown := if code = 2 then min (n.cancelUnknown + 1) 65535 else n.cancelUnknown,
    cancelUnanswered := if 2 < code.toNat then min (n.cancelUnanswered + 1) 65535 else n.cancelUnanswered } := by
  rw [cancelCodeOf_eq]
  by_cases zero : code = 0
  · subst zero
    rfl
  by_cases one : code = 1
  · subst one
    rfl
  by_cases two : code = 2
  · subst two
    rfl
  have above : 2 < code.toNat := by
    have ne : ∀ v : Byte, code ≠ v → code.toNat ≠ v.toNat := fun v h same => h (BitVec.eq_of_toNat_eq same)
    have := ne 0 zero
    have := ne 1 one
    have := ne 2 two
    simp at *
    omega
  simp only [zero, one, two, above, if_false, if_true]
  rfl

theorem countBadTaken_counts (code : Byte) (l : Line) : (countBadTaken code l).counts.badTaken =
    if code.toNat ≤ 6 then l.counts.badTaken else min (l.counts.badTaken + 1) 65535 := by
  unfold countBadTaken
  by_cases listed : code.toNat ≤ 6
  · rw [if_neg (by rw [decisionOf_eq_none_iff]; exact not_not.mpr listed), if_pos listed]
  · rw [if_pos ((decisionOf_eq_none_iff code).mpr listed), if_neg listed]
    rfl

/-- R34: BAD-TAKEN apart, the line is as it was. -/
theorem countBadTaken_eq (code : Byte) (l : Line) :
    countBadTaken code l = { l with counts := (countBadTaken code l).counts } := by
  unfold countBadTaken
  split <;> rfl

/-! ## The entry answered (R161) -/

theorem matched_sent {f : Received} {e : Outstanding} {s : State} (found : findEntry s e.key = some e)
    (sent : e.phase = .sent) (peer : e.key.peer = f.src.toNat) (seq : e.key.seq = f.seq)
    (act : Outstanding → State → State) : matched f e.key.kind act s = act e s := by
  have key : ({ peer := f.src.toNat, seq := f.seq, kind := e.key.kind } : EntryKey) = e.key := by rw [← peer, ← seq]
  simp only [matched, key, found, sent, if_true]

/-- R34: the TAKEN of the FORWARD that a line waits for. -/
theorem takeTaken_lookup {k : Fin 8} {e : Outstanding} {s : State} (code : Byte) (owner : e.owner = .line k)
    (state : (lineAt s k).state = .lookup) (lookup : (lineAt s k).lookup = some e.key) (empty : (lineAt s k).fifo = []) :
    takeTaken code e s =
      produceVerdict k (takenVerdict code) (mapLine k (countBadTaken code) (freeEntry e.key s)) := by
  have quiet : (lineAt (mapLine k (countBadTaken code) (freeEntry e.key s)) k).fifo = [] := by
    rw [lineAt_mapLine, countBadTaken_eq]
    exact empty
  simp only [takeTaken, owner, state, lookup, and_self, if_true]
  exact leaveLookup_empty quiet _

theorem exec_taken {heard : List BusChar} {f : Received} {code : Byte} {e : Outstanding} {s : State}
    (own : hearsOwn .taken heard f s) (payload : f.payload = [code]) (found : findEntry s e.key = some e)
    (sent : e.phase = .sent) (peer : e.key.peer = f.src.toNat) (seq : e.key.seq = f.seq) (kind : e.key.kind = .forward) :
    exec (.taken heard) s = .next (takeTaken code e (noted f s)) := by
  obtain ⟨heardFrame, frameKind, dest⟩ := own
  have act : exec (.taken heard) s = .next (takeFrame (ofKind .taken) heard (fun f =>
    checked f (readByte f.payload) fun code => matched f .forward (takeTaken code)) s) := rfl
  rw [act, takeFrame_of_hears heardFrame (by rw [frameKind]; decide), checked_some dest (by rw [payload]; rfl), ← kind,
    matched_sent (s := noted f s) found sent peer seq]

theorem exec_cancelAnswer {heard : List BusChar} {f : Received} {code : Byte} {e : Outstanding} {s : State}
    (own : hearsOwn .cancelAnswer heard f s) (payload : f.payload = [code]) (found : findEntry s e.key = some e)
    (sent : e.phase = .sent) (peer : e.key.peer = f.src.toNat) (seq : e.key.seq = f.seq) (kind : e.key.kind = .cancel) :
    exec (.cancelAnswer heard) s =
      .next (mapIntakeCounts (countCancel (cancelCodeOf code)) (freeEntry e.key (noted f s))) := by
  obtain ⟨heardFrame, frameKind, dest⟩ := own
  have act : exec (.cancelAnswer heard) s = .next (takeFrame (ofKind .cancelAnswer) heard (fun f =>
    checked f (readByte f.payload) fun code => matched f .cancel fun e x =>
      mapIntakeCounts (countCancel (cancelCodeOf code)) (freeEntry e.key x)) s) := rfl
  rw [act, takeFrame_of_hears heardFrame (by rw [frameKind]; decide), checked_some dest (by rw [payload]; rfl), ← kind,
    matched_sent (s := noted f s) found sent peer seq]

/-- R34, R38: the verdict of a TAKEN on the line that waited, in a station `freed` without the FORWARD's entry. -/
theorem verdict_of_taken {k : Fin 8} {s freed : State} (outside : outsideBus freed = outsideBus s) (code : Byte) (t : State)
    (eq : t = produceVerdict k (takenVerdict code) (mapLine k (countBadTaken code) freed)) :
    t = { s with intake := t.intake, bus := t.bus, exchange := t.exchange }
      ∧ t.exchange = freed.exchange
      ∧ lineAt t k = afterVerdict (takenVerdict code) (countBadTaken code (lineAt s k))
      ∧ ∀ j, j ≠ k → lineAt t j = lineAt s j := by
  have line : ∀ j, lineAt freed j = lineAt s j := lineAt_of_outsideStore (outsideStore_of_outsideBus outside)
  subst eq
  refine ⟨?_, rfl, by rw [lineAt_produceVerdict, lineAt_mapLine, line], fun j other => ?_⟩
  · rw [frame_of_outsideBus outside]
    rfl
  · rw [produceVerdict, lineAt_mapLine_ne other, lineAt_mapIntakeCounts, lineAt_mapLine_ne other, line]

/-- Settles O33: the entry is freed; the verdict is the line's, the cancel count the station's. -/
theorem takenAndCancelAnswerComplete : Obligations.TakenAndCancelAnswerComplete := by
  unfold Obligations.TakenAndCancelAnswerComplete
  intro heard f code e s payload sent peer seq found
  have outside : outsideBus (freeEntry e.key (noted f s)) = outsideBus s := outsideBus_freeEntry e.key (noted f s)
  have table := freeEntry_table e.key (noted f s)
  refine ⟨fun k own kind owner state lookup empty => ?_, fun own kind => ?_⟩
  · have taken := exec_taken own payload found sent peer seq kind
    rw [takeTaken_lookup (s := noted f s) code owner state lookup empty] at taken
    obtain ⟨frame, exchange, line, others⟩ := verdict_of_taken outside code _ rfl
    rw [countBadTaken_eq] at line
    refine ⟨_, taken, frame, exchange ▸ table, ?_⟩
    rw [← verdictChar_takenVerdict]
    exact ⟨congrArg Line.state line, congrArg Line.lookup line, congrArg Line.txBuffer line,
      (congrArg (·.counts.badTaken) line).trans (countBadTaken_counts code (lineAt s k)), others⟩
  · refine ⟨_, exec_cancelAnswer own payload found sent peer seq kind, ?_, table, ?_⟩
    · rw [frame_of_outsideBus outside]
      rfl
    · rw [← countCancel_cancelCodeOf]
      rfl

end Sys2Proof.Machine
end

section
/-! The settling of a closed attempt (R61 to R63), written out: its charge and records (R115 to R121, R125, R127, R128), the
end of its delivery (R63, R123) and the wait for a retry (R105 to R107). -/

namespace Sys2Proof.Machine

/-! ## Billing records (R127, R128) -/

theorem produceRecord_full {b : BillingRecord} {s : State} (full : 128 ≤ s.billing.queue.length) :
    produceRecord b s = { s with
      billing := { s.billing with seq := s.billing.seq + 1, lost := min (s.billing.lost + 1) 65535 },
      port := { s.port with recordLost := true } } :=
  if_neg (Nat.not_lt.mpr full)

theorem recorded_nil (s : State) : recorded [] s = s := by
  simp [recorded]

/-- R127, R128: of several records the last is produced after the others. -/
theorem recorded_concat (made : List BillingRecord) (b : BillingRecord) (s : State) :
    recorded (made ++ [b]) s = produceRecord b (recorded made s) := by
  have next : s.billing.seq + BitVec.ofNat 16 made.length + 1 = s.billing.seq + BitVec.ofNat 16 (made.length + 1) := by
    rw [BitVec.ofNat_add, BitVec.add_assoc]
    rfl
  by_cases fits : made.length < 128 - s.billing.queue.length
  · have room : (recorded made s).billing.queue.length < 128 := by
      simp only [recorded, List.length_append, List.length_take, List.length_mapIdx]
      omega
    have all : ∀ l : List BillingRecord, l.length ≤ made.length + 1 → l.take (128 - s.billing.queue.length) = l :=
      fun l short => List.take_of_length_le (by omega)
    rw [produceRecord_room room]
    simp only [recorded, List.mapIdx_concat, List.length_append, List.length_singleton, next, all, List.length_mapIdx,
      Nat.le_add_right, Nat.le_refl, List.append_assoc, if_pos fits.le, if_pos (Nat.succ_le_of_lt fits),
      Nat.not_lt.mpr fits.le, Nat.not_lt.mpr (Nat.succ_le_of_lt fits)]
  · have full : 128 ≤ (recorded made s).billing.queue.length := by
      simp only [recorded, List.length_append, List.length_take, List.length_mapIdx]
      omega
    have exceeds : 128 - s.billing.queue.length < made.length + 1 := by omega
    have lost : min ((if made.length ≤ 128 - s.billing.queue.length then s.billing.lost
          else min (s.billing.lost + (made.length - (128 - s.billing.queue.length))) 65535) + 1) 65535 =
        min (s.billing.lost + (made.length + 1 - (128 - s.billing.queue.length))) 65535 := by
      split <;> omega
    rw [produceRecord_full full]
    simp only [recorded, List.mapIdx_concat, List.length_append, List.length_singleton, next, List.take_append,
      List.length_mapIdx, Nat.sub_eq_zero_of_le (Nat.le_of_not_lt fits), List.take_zero, List.append_nil, lost,
      if_neg (Nat.not_le.mpr exceeds), exceeds, decide_true, Bool.or_true]

theorem recorded_singleton (b : BillingRecord) (s : State) : recorded [b] s = produceRecord b s := by
  rw [← List.nil_append [b], recorded_concat, recorded_nil]

theorem recorded_append (xs ys : List BillingRecord) (s : State) : recorded (xs ++ ys) s = recorded ys (recorded xs s) := by
  induction ys using List.reverseRecOn with
  | nil => rw [List.append_nil, recorded_nil]
  | append_singleton ys b ih => rw [← List.append_assoc, recorded_concat, recorded_concat, ih]

/-- A change of a record, with a billing record about it as changed. -/
theorem produceFor_modifyRecord {i : Nat} {r : Subscriber} {s : State} (record : s.directory[i]? = some r)
    (f : Subscriber → Subscriber) (fill : Subscriber → BillingRecord) :
    produceFor i fill (modifyRecord i f s) = produceRecord (fill (f r)) { s with directory := s.directory.set i (f r) } := by
  have changed : modifyRecord i f s = { s with directory := s.directory.set i (f r) } := by
    rw [modifyRecord, ← modify_eq_set record]
    rfl
  have length : i < s.directory.length := (List.getElem?_eq_some_iff.mp record).1
  rw [changed, produceFor_eq (r := f r) (by simp [length])]

/-! ## The quota watch (R121) -/

/-- R121: the notice of a level crossed. -/
def watchNotice (high : Bool) (r : Subscriber) : BillingRecord :=
  { recordFor .quotaNotice r with watchHigh := some high }

/-- R121: the record with the mark of a level, if it is crossed. -/
def levelMarked (crossed high : Bool) (r : Subscriber) : Subscriber :=
  if high then { r with warnHigh := r.warnHigh || crossed } else { r with warnLow := r.warnLow || crossed }

/-- R121: the notices of one level. -/
def levelNotices (crossed high : Bool) (r : Subscriber) : List BillingRecord :=
  if crossed then [watchNotice high r] else []

/-- R121: the watch of one level. -/
def watchLevel (crossed high : Bool) (i : Nat) (s : State) : State :=
  if crossed then produceFor i (watchNotice high) (modifyRecord i (levelMarked true high) s) else s

/-- R121: the record with the marks of both levels. -/
def watchMarked (low high : Bool) (r : Subscriber) : Subscriber :=
  { r with warnLow := r.warnLow || low, warnHigh := r.warnHigh || high }

theorem levelMarked_levelMarked (low high : Bool) (r : Subscriber) :
    levelMarked high true (levelMarked low false r) = watchMarked low high r := rfl

theorem set_self {d : List Subscriber} {i : Nat} {r : Subscriber} (record : d[i]? = some r) : d.set i r = d := by
  obtain ⟨length, rfl⟩ := List.getElem?_eq_some_iff.mp record
  exact List.set_getElem_self length

/-- A mark shows in no notice. -/
theorem levelNotices_levelMarked (c c' high high' : Bool) (r : Subscriber) :
    levelNotices c high (levelMarked c' high' r) = levelNotices c high r := by
  cases high' <;> rfl

/-- R121: one level of the watch sets its mark and produces its notice when it is crossed. -/
theorem watchLevel_eq {i : Nat} {r : Subscriber} {s : State} (record : s.directory[i]? = some r) (crossed high : Bool) :
    watchLevel crossed high i s = recorded (levelNotices crossed high r)
      { s with directory := s.directory.set i (levelMarked crossed high r) } := by
  cases crossed with
  | false =>
    have same : levelMarked false high r = r := by cases high <;> simp [levelMarked]
    rw [same, set_self record]
    exact (recorded_nil s).symm
  | true =>
    have notice : watchNotice high (levelMarked true high r) = watchNotice high r := by cases high <;> rfl
    rw [watchLevel, if_pos rfl, produceFor_modifyRecord record, notice, ← recorded_singleton]
    rfl

/-- R121: the watch keeps the LOW level, then the HIGH level. -/
theorem quotaWatch_levels {i : Nat} {r : Subscriber} {s : State} (record : s.directory[i]? = some r) (before after : Nat) :
    quotaWatch i before after s = watchLevel (crosses (s.plans[r.plan.val]).highWatch before after) true i
      (watchLevel (crosses (s.plans[r.plan.val]).lowWatch before after) false i s) := by
  have low : levelMarked true false = fun r => { r with warnLow := true } := by
    funext r
    simp [levelMarked]
  have high : levelMarked true true = fun r => { r with warnHigh := true } := by
    funext r
    simp [levelMarked]
  rw [quotaWatch, planAt_eq record, watchLevel, watchLevel, low, high]
  rfl

/-- R121: the marks set and the notices produced, LOW before HIGH. -/
theorem quotaWatch_eq {i : Nat} {r : Subscriber} {s : State} (record : s.directory[i]? = some r) {before after : Nat}
    {low high : Bool} (isLow : low = crosses (s.plans[r.plan.val]).lowWatch before after)
    (isHigh : high = crosses (s.plans[r.plan.val]).highWatch before after) :
    quotaWatch i before after s =
      recorded ((if low = true then [watchNotice false r] else []) ++ (if high = true then [watchNotice true r] else []))
        { s with directory := s.directory.set i (watchMarked low high r) } := by
  have length : i < s.directory.length := (List.getElem?_eq_some_iff.mp record).1
  have marked : (watchLevel low false i s).directory[i]? = some (levelMarked low false r) := by
    rw [watchLevel_eq record]
    exact List.getElem?_set_self length
  rw [quotaWatch_levels record, ← isLow, ← isHigh, watchLevel_eq marked, watchLevel_eq record, levelNotices_levelMarked,
    ← levelMarked_levelMarked, recorded_append]
  simp only [recorded, List.set_set]
  rfl

theorem quotaWatch_record {i : Nat} {r : Subscriber} {s : State} (record : s.directory[i]? = some r) {before after : Nat}
    {low high : Bool} (isLow : low = crosses (s.plans[r.plan.val]).lowWatch before after)
    (isHigh : high = crosses (s.plans[r.plan.val]).highWatch before after) :
    (quotaWatch i before after s).directory[i]? = some (watchMarked low high r) := by
  rw [quotaWatch_eq record isLow isHigh]
  exact List.getElem?_set_self (List.getElem?_eq_some_iff.mp record).1

/-! ## A delivery in its slot -/

/-- The station with a delivery in a slot, whatever the slot held. -/
def putDelivery (k : Fin 256) (x : Delivery) (s : State) : State :=
  { s with store := { s.store with
    slots := s.store.slots.set k.val (Slot.mk (s.store.slots[k.val]).gen (some x)) } }

section Put

variable {k : Fin 256} {x : Delivery} {s : State}

@[simp] theorem slotAt_putDelivery (k : Fin 256) (x : Delivery) (s : State) :
    slotAt (putDelivery k x s) k = Slot.mk (s.store.slots[k.val]).gen (some x) := by
  simp [slotAt, putDelivery]

@[simp] theorem deliveryAt_putDelivery (k : Fin 256) (x : Delivery) (s : State) :
    deliveryAt (putDelivery k x s) k = some x := by
  rw [deliveryAt, slotAt_putDelivery]

@[simp] theorem putDelivery_putDelivery (k : Fin 256) (x y : Delivery) (s : State) :
    putDelivery k y (putDelivery k x s) = putDelivery k y s := by
  simp [putDelivery]

theorem mapDelivery_eq_put {d : Delivery} (held : deliveryAt s k = some d) (f : Delivery → Delivery) :
    mapDelivery k f s = putDelivery k (f d) s := by
  rw [mapDelivery, held]
  rfl

@[simp] theorem mapDelivery_putDelivery (k : Fin 256) (f : Delivery → Delivery) (x : Delivery) (s : State) :
    mapDelivery k f (putDelivery k x s) = putDelivery k (f x) s := by
  rw [mapDelivery_eq_put (deliveryAt_putDelivery k x s), putDelivery_putDelivery]

@[simp] theorem planAt_putDelivery (k : Fin 256) (x : Delivery) (s : State) (i : Nat) :
    planAt (putDelivery k x s) i = planAt s i := rfl

end Put

/-! ## The attempt charge (R61, R115 to R121) -/

theorem airedZones_eq (a : Attempt) : airedZones a = airedIn a := List.countP_eq_length_filter.symm

/-- R61, R62: with no AIRED zone the attempt is void. -/
theorem charged_of_void {d : Delivery} {a : Attempt} {s : State} (void : airedIn a = 0) (k : Fin 256) :
    deliveryCharged d a s = d ∧ attemptCharged k d a s = s := by
  unfold deliveryCharged attemptCharged
  constructor
  · split
    · exact if_pos void
    · rfl
  · split
    · exact if_pos void
    · rfl

/-- R115, R120: the record charged for the attempt. -/
def chargedRecord (d : Delivery) (a : Attempt) (s : State) (r : Subscriber) : Subscriber :=
  { addCharge (chargeFor r d a s) r with usage := min (r.usage + d.cells * airedIn a) maxUsage }

/-- R115: the station with the charge on the record and on the delivery, before the quota watch. -/
def chargedState (k : Fin 256) (d : Delivery) (a : Attempt) (s : State) (r : Subscriber) : State :=
  putDelivery k { deliveryCharged d a s with counted := d.counted }
    { s with directory := s.directory.set d.subscriber (chargedRecord d a s r) }

/-- R125: the ATTEMPT record of the charge, about the record as charged. -/
def attemptRecord (k : Fin 256) (d : Delivery) (a : Attempt) (s : State) (r x : Subscriber) : BillingRecord :=
  { recordFor .attempt x with
    delivery := some (BitVec.ofFin k, (s.store.slots[k.val]).gen), attempt := some a.number,
    cells := some (d.cells, airedIn a), amount := chargeFor r d a s }

section Charge

variable {k : Fin 256} {d : Delivery} {a : Attempt} {s : State} {r : Subscriber}

theorem deliveryCharged_aired (record : s.directory[d.subscriber]? = some r) (aired : airedIn a ≠ 0) :
    deliveryCharged d a s = { d with
      counted := d.counted + 1
      charged := raiseTo 65535 d.charged (chargeFor r d a s)
      retryCharges := if 2 ≤ a.number then raiseTo maxTotal d.retryCharges (chargeFor r d a s) else d.retryCharges } := by
  simp only [deliveryCharged, record, aired, if_false]
  rfl

/-- R115: the charge is made, then the watch is kept, then the record produced. -/
theorem attemptCharge_watched (record : s.directory[d.subscriber]? = some r) (aired : airedIn a ≠ 0) :
    attemptCharge k d a.number (airedIn a) (putDelivery k d s) =
      produceFor d.subscriber (attemptRecord k d a s r)
        (quotaWatch d.subscriber r.usage (chargedRecord d a s r).usage (chargedState k d a s r)) := by
  have found : (putDelivery k d s).directory[d.subscriber]? = some r := record
  have charged : chargedState k d a s r = modifyRecord d.subscriber (fun x =>
      { addCharge (chargeFor r d a s) x with usage := (chargedRecord d a s r).usage })
      (putDelivery k { deliveryCharged d a s with counted := d.counted } s) :=
    congrArg (fun l => { putDelivery k { deliveryCharged d a s with counted := d.counted } s with directory := l })
      (modify_eq_set record fun x =>
        { addCharge (chargeFor r d a s) x with usage := (chargedRecord d a s r).usage }).symm
  simp only [attemptCharge, found, planAt_eq found, mapDelivery_putDelivery, slotAt_putDelivery]
  rw [charged, deliveryCharged_aired record aired]
  rfl

/-- R115 to R121: the attempt charge with its notices and its record. -/
theorem attemptCharge_putDelivery (record : s.directory[d.subscriber]? = some r) (aired : airedIn a ≠ 0) :
    attemptCharge k d a.number (airedIn a) (putDelivery k d s) =
      putDelivery k { deliveryCharged d a s with counted := d.counted } (attemptCharged k d a s) := by
  have length : d.subscriber < s.directory.length := (List.getElem?_eq_some_iff.mp record).1
  have charged : (chargedState k d a s r).directory[d.subscriber]? = some (chargedRecord d a s r) :=
    List.getElem?_set_self length
  rw [attemptCharge_watched record aired, produceFor_eq (quotaWatch_record charged rfl rfl),
    quotaWatch_eq charged rfl rfl, ← recorded_concat]
  simp only [attemptCharged, record, aired, if_false, chargedState, putDelivery, List.set_set]
  rfl

/-- R61, R62, R115 to R121: a closed attempt counted and charged, or void. -/
theorem countAttempt_putDelivery (record : s.directory[d.subscriber]? = some r) :
    countAttempt k d a (putDelivery k d s) = putDelivery k (deliveryCharged d a s) (attemptCharged k d a s) := by
  by_cases void : airedIn a = 0
  · obtain ⟨same, unchanged⟩ := charged_of_void (d := d) (s := s) void k
    rw [same, unchanged, countAttempt, airedZones_eq, if_pos void]
  · rw [countAttempt, airedZones_eq, if_neg void, attemptCharge_putDelivery record void, mapDelivery_putDelivery,
      deliveryCharged_aired record void]

end Charge

/-! ## The end of a delivery (R42, R63, R123) -/

section Ends

variable {k : Fin 256} {d : Delivery} {s : State} {r : Subscriber}

/-- R42: the slot freed, whatever it held. -/
theorem freeSlot_putDelivery (k : Fin 256) (d : Delivery) (s : State) :
    freeSlot k (putDelivery k d s) = { s with store := slotEnded k s.store } := by
  simp [freeSlot, setSlot, putDelivery, slotEnded, State.mapStore, slotAt]

theorem endDelivery_delivered (k : Fin 256) (d : Delivery) (s : State) :
    endDelivery k .delivered (putDelivery k d s) = endedDelivered k d s := by
  rw [endDelivery, deliveryAt_putDelivery]
  exact freeSlot_putDelivery k d (modifyRecord d.subscriber (endCounts .delivered) s)

/-- R63, R123: the refund of a delivery that ends EXPIRED. -/
def refund (d : Delivery) (s : State) (r : Subscriber) : Nat :=
  missAmount (s.plans[r.plan.val]) d.retryCharges

/-- R123, R125: the MISS-CREDIT record of a refund. -/
def refundRecord (k : Fin 256) (d : Delivery) (s : State) (r x : Subscriber) : BillingRecord :=
  { recordFor .missCredit x with
    delivery := some (BitVec.ofFin k, (s.store.slots[k.val]).gen), amount := refund d s r, credit := true }

/-- R123, R124: the refund on the record, with its billing record when it is above 0. -/
theorem missCredit_putDelivery (record : s.directory[d.subscriber]? = some r) :
    missCredit k d (putDelivery k d s) = putDelivery k d
      (recorded (if refund d s r = 0 then [] else [refundRecord k d s r (takeCredit (refund d s r) r)])
        { s with directory := s.directory.set d.subscriber (takeCredit (refund d s r) r) }) := by
  have found : (putDelivery k d s).directory[d.subscriber]? = some r := record
  have amount : missAmount (planAt (putDelivery k d s) d.subscriber) d.retryCharges = refund d s r := by
    rw [planAt_eq found]
    rfl
  by_cases none : refund d s r = 0
  · have same : takeCredit 0 r = r := rfl
    simp only [missCredit, amount, none, if_true, recorded_nil, same, set_self record]
  · simp only [missCredit, amount, none, if_false, produceFor_modifyRecord found, recorded_singleton,
      slotAt_putDelivery]
    rw [← recorded_singleton, ← recorded_singleton]
    rfl

theorem endDelivery_expired (record : s.directory[d.subscriber]? = some r) :
    endDelivery k .expired (putDelivery k d s) = endedExpired k d s := by
  have length : d.subscriber < s.directory.length := (List.getElem?_eq_some_iff.mp record).1
  rw [endDelivery, deliveryAt_putDelivery]
  dsimp only
  rw [terminalCredit, missCredit_putDelivery record]
  have counted := modify_eq_set (d := s.directory.set d.subscriber (takeCredit (refund d s r) r)) (i := d.subscriber)
    (r := takeCredit (refund d s r) r) (by simp [length]) (endCounts .expired)
  rw [List.set_set] at counted
  generalize made : (if refund d s r = 0 then [] else [refundRecord k d s r (takeCredit (refund d s r) r)]) = records
  have freed := freeSlot_putDelivery k d (modifyRecord d.subscriber (endCounts .expired) (recorded records
    { s with directory := s.directory.set d.subscriber (takeCredit (refund d s r) r) }))
  have ended : endedExpired k d s = { recorded records { s with
      directory := s.directory.set d.subscriber (endCounts .expired (takeCredit (refund d s r) r)) } with
      store := slotEnded k s.store } := by
    rw [← made, endedExpired, record]
    rfl
  rw [ended, ← counted]
  exact freed

end Ends

/-! ## The wait for a retry (R105 to R107) -/

/-- R106: the others keep their places in the Retry Queue. -/
theorem filter_insertRetry (due : Fin 256 → Tick) (k : Fin 256) (l : List (Fin 256)) :
    (insertRetry due k l).filter (fun j => j != k) = l.filter fun j => j != k := by
  induction l with
  | nil => simp [insertRetry]
  | cons j rest ih =>
    unfold insertRetry
    split
    · simp
    · rw [List.filter_cons, ih, List.filter_cons]

theorem enterRetry_waits (k : Fin 256) (d : Delivery) (s : State) : RetryWaits k d s (enterRetry k (putDelivery k d s)) := by
  have held := deliveryAt_putDelivery k d s
  constructor
  · simp only [enterRetry, held, mapDelivery_putDelivery]
    rfl
  · rintro p rfl
    simp only [enterRetry, held, mapDelivery_putDelivery]
    rfl
  · simp only [enterRetry, held, State.mapStore_store]
    exact mem_insertRetry.mpr (.inl rfl)
  · simp only [enterRetry, held, State.mapStore_store]
    exact filter_insertRetry _ k _

/-! ## Settling (R61, R62) -/

section Settling

variable {k : Fin 256} {d : Delivery} {a : Attempt} {o : AttemptOutcome} {s t : State} {r : Subscriber}

/-- R115: a charge keeps whose the delivery is, and whether its lifetime has run out. -/
theorem deliveryCharged_keeps (d : Delivery) (a : Attempt) (s : State) :
    (deliveryCharged d a s).subscriber = d.subscriber ∧ (deliveryCharged d a s).expiry = d.expiry := by
  unfold deliveryCharged
  split
  · split <;> exact ⟨rfl, rfl⟩
  · exact ⟨rfl, rfl⟩

/-- R115: a charge keeps the plans, and the plan of the record it changes. -/
theorem attemptCharged_record (k : Fin 256) (a : Attempt) (record : s.directory[d.subscriber]? = some r) :
    ∃ r', (attemptCharged k d a s).directory[d.subscriber]? = some r'
      ∧ planAt (attemptCharged k d a s) d.subscriber = planAt s d.subscriber := by
  have length : d.subscriber < s.directory.length := (List.getElem?_eq_some_iff.mp record).1
  by_cases void : airedIn a = 0
  · rw [(charged_of_void (d := d) (s := s) void k).2]
    exact ⟨r, record, rfl⟩
  · generalize eq : attemptCharged k d a s = t
    simp only [attemptCharged, record, void, if_false] at eq
    subst eq
    refine ⟨_, List.getElem?_set_self length, ?_⟩
    rw [planAt_eq record, planAt_eq (List.getElem?_set_self length)]
    rfl

/-- R61: the delivery with its settled attempt removed. -/
def withoutAttempt (d : Delivery) : Delivery := { d with attempt := none }

theorem nextStep_acked (k : Fin 256) (d : Delivery) (s : State) :
    nextStep k .acked (putDelivery k d s) = endDelivery k .delivered (putDelivery k d s) := by
  rw [nextStep, deliveryAt_putDelivery]

theorem nextStep_expires (ends : d.expiry = true ∨ d.counted = (planAt s d.subscriber).maxAttempts) :
    nextStep k .missed (putDelivery k d s) = endDelivery k .expired (putDelivery k d s) := by
  rw [nextStep, deliveryAt_putDelivery]
  exact if_pos ends

theorem nextStep_retries (lasts : ¬ (d.expiry = true ∨ d.counted = (planAt s d.subscriber).maxAttempts)) :
    nextStep k .missed (putDelivery k d s) = enterRetry k (putDelivery k d s) := by
  rw [nextStep, deliveryAt_putDelivery]
  exact if_neg lasts

/-- R61, R62: what the step after the count turns on, in the station as charged. -/
theorem expires_iff (record : s.directory[d.subscriber]? = some r) :
    ((deliveryCharged d a s).expiry = true ∨ (deliveryCharged d a s).counted =
      (planAt (attemptCharged k d a s) (deliveryCharged d a s).subscriber).maxAttempts) ↔
    (d.expiry = true ∨ (deliveryCharged d a s).counted = (planAt s d.subscriber).maxAttempts) := by
  obtain ⟨subscriber, expiry⟩ := deliveryCharged_keeps d a s
  obtain ⟨_, _, plan⟩ := attemptCharged_record k a record
  rw [subscriber, expiry, plan]

/-- R61, R62: the step after the count and the charge, from the delivery and the station as charged. -/
theorem nextStep_settles (record : s.directory[d.subscriber]? = some r) : Settles k d a o s
    (nextStep k o (putDelivery k (withoutAttempt (deliveryCharged d a s)) (attemptCharged k d a s))) := by
  constructor
  · rintro rfl
    rw [nextStep_acked, endDelivery_delivered]
    rfl
  · rintro rfl ends
    obtain ⟨r', record', -⟩ := attemptCharged_record k a record
    rw [← (deliveryCharged_keeps d a s).1] at record'
    rw [nextStep_expires (d := withoutAttempt (deliveryCharged d a s)) ((expires_iff record).mpr ends),
      endDelivery_expired (d := withoutAttempt (deliveryCharged d a s)) record']
    rfl
  · rintro rfl young more
    have lasts : ¬ (d.expiry = true ∨ (deliveryCharged d a s).counted = (planAt s d.subscriber).maxAttempts) := by
      simp [young, more]
    have waits := enterRetry_waits k (withoutAttempt (deliveryCharged d a s)) (attemptCharged k d a s)
    rw [nextStep_retries (d := withoutAttempt (deliveryCharged d a s)) (mt (expires_iff record).mp lasts)]
    exact ⟨waits.rest, waits.slots, waits.queued, waits.others⟩

/-- R61: a delivery whose attempt has closed settles. -/
theorem settle_settles (attempt : d.attempt = some a) (outcome : a.outcome = some o)
    (record : s.directory[d.subscriber]? = some r) : Settles k d a o s (settle k (putDelivery k d s)) := by
  have model : settle k (putDelivery k d s) = nextStep k o
      (putDelivery k (withoutAttempt (deliveryCharged d a s)) (attemptCharged k d a s)) := by
    simp only [settle, deliveryAt_putDelivery, attempt, outcome, countAttempt_putDelivery record,
      mapDelivery_putDelivery]
    rfl
  rw [model]
  exact nextStep_settles record

/-- R61: what the settling rests on is neither the delivery's state nor the attempt's outcome and timer. -/
theorem Settles.of_closed {st : DeliveryState} {x : Option Attempt} {y : Option AttemptOutcome} {due : Option Tick}
    (h : Settles k { d with state := st, attempt := x } { a with outcome := y, ackDue := due } o s t) :
    Settles k d a o s t := by
  have charged : deliveryCharged { d with state := st, attempt := x } { a with outcome := y, ackDue := due } s =
      { deliveryCharged d a s with state := st, attempt := x } := by
    unfold deliveryCharged
    dsimp only
    split
    · by_cases void : airedIn a = 0
      · exact (if_pos void).trans (by rw [if_pos void])
      · exact (if_neg void).trans (by rw [if_neg void]; rfl)
    · rfl
  obtain ⟨acked, expired, retried⟩ := h
  rw [charged] at acked expired retried
  refine ⟨acked, expired, fun missed young more => ?_⟩
  obtain ⟨rest, slots, queued, others⟩ := retried missed young more
  exact ⟨rest, slots, queued, others⟩

end Settling

end Sys2Proof.Machine
end

section
/-! The end of an outstanding entry whose reply timer runs out (R162): the CANCEL (R37), the zone of an attempt (R55, R59,
R61) and the FORWARD of a line (R35). -/

namespace Sys2Proof.Machine

/-! ## What leaves the bus and the Exchange Unit alone -/

/-- The bus controller and the Exchange Unit. -/
def busUnits (s : State) : Bus × Exchange := (s.bus, s.exchange)

@[simp] theorem busUnits_produceFor (i : Nat) (fill : Subscriber → BillingRecord) (s : State) :
    busUnits (produceFor i fill s) = busUnits s := by
  unfold produceFor produceRecord
  split
  · dsimp only
    split <;> rfl
  · rfl

@[simp] theorem busUnits_modifyRecord (i : Nat) (f : Subscriber → Subscriber) (s : State) :
    busUnits (modifyRecord i f s) = busUnits s := rfl

@[simp] theorem busUnits_mapDelivery (k : Fin 256) (f : Delivery → Delivery) (s : State) :
    busUnits (mapDelivery k f s) = busUnits s := rfl

@[simp] theorem busUnits_quotaWatch (i before after : Nat) (s : State) :
    busUnits (quotaWatch i before after s) = busUnits s := by
  unfold quotaWatch
  dsimp only
  split <;> split <;> simp

@[simp] theorem busUnits_attemptCharge (k : Fin 256) (d : Delivery) (a z : Nat) (s : State) :
    busUnits (attemptCharge k d a z s) = busUnits s := by
  unfold attemptCharge
  split <;> simp

@[simp] theorem busUnits_countAttempt (k : Fin 256) (d : Delivery) (a : Attempt) (s : State) :
    busUnits (countAttempt k d a s) = busUnits s := by
  unfold countAttempt
  split <;> simp

@[simp] theorem busUnits_terminalCredit (k : Fin 256) (d : Delivery) (o : Terminal) (s : State) :
    busUnits (terminalCredit k d o s) = busUnits s := by
  cases o with
  | delivered => rfl
  | expired => unfold terminalCredit missCredit; dsimp only; split <;> simp
  | cancelled => simp [terminalCredit, cancelCredit]

@[simp] theorem busUnits_endDelivery (k : Fin 256) (o : Terminal) (s : State) :
    busUnits (endDelivery k o s) = busUnits s := by
  unfold endDelivery
  split
  · rfl
  · next d _ => exact busUnits_terminalCredit k d o s

@[simp] theorem busUnits_enterRetry (k : Fin 256) (s : State) : busUnits (enterRetry k s) = busUnits s := by
  unfold enterRetry
  split <;> rfl

@[simp] theorem busUnits_settle (k : Fin 256) (s : State) : busUnits (settle k s) = busUnits s := by
  have next : ∀ o t, busUnits (nextStep k o t) = busUnits t := by
    intro o t
    unfold nextStep
    repeat' split
    all_goals simp
  unfold settle
  repeat' split
  all_goals simp [next]

@[simp] theorem busUnits_settleIfResolved (k : Fin 256) (s : State) : busUnits (settleIfResolved k s) = busUnits s := by
  unfold settleIfResolved
  repeat' split
  all_goals simp

@[simp] theorem busUnits_decideEntry (n : Nat) (c : MessageClass) (body : List Byte) (o : Option Origin) (s : State) :
    busUnits (decideEntry n c body o s) = busUnits s := by
  unfold decideEntry
  split
  · simp [accept, acceptCharge]
    rfl
  · rfl

/-! ## A zone that is lost (R55, R59, R61) -/

/-- R59, R60: an attempt with no zone in SENT or ACCEPTED has none to withdraw. -/
theorem acceptedZones_of_exhausted {a : Attempt} (exhausted : (a.zones.all fun e => !couldAir e.state) = true) :
    acceptedZones a = [] := by
  rw [acceptedZones, List.map_eq_nil_iff, List.filter_eq_nil_iff]
  intro e mem accepted
  have past := List.all_eq_true.mp exhausted e mem
  rw [beq_iff_eq.mp accepted] at past
  exact absurd past (by decide)

/-- R59, R61: an exhausted attempt closes with nothing withdrawn. -/
theorem closeAttempt_of_exhausted {k : Fin 256} {d : Delivery} {a : Attempt} {s : State} (held : deliveryAt s k = some d)
    (attempt : d.attempt = some a) (exhausted : (a.zones.all fun e => !couldAir e.state) = true) (o : AttemptOutcome) :
    closeAttempt k o s = settleIfResolved k (mapDelivery k (fun x => { x with
      state := .settling, attempt := x.attempt.map fun y => { y with outcome := some o, ackDue := none } }) s) := by
  have current : attemptAt s k = some a := by rw [attemptAt, held, Option.bind_some, attempt]
  simp only [closeAttempt, current, acceptedZones_of_exhausted exhausted, List.foldl_nil]

@[simp] theorem busUnits_closeIfExhausted (k : Fin 256) (s : State) : busUnits (closeIfExhausted k s) = busUnits s := by
  unfold closeIfExhausted
  split
  · next d held =>
    split
    · next a attempt =>
      split
      · next exhausted =>
        rw [closeAttempt_of_exhausted held attempt exhausted.2, busUnits_settleIfResolved, busUnits_mapDelivery]
      · rfl
    · rfl
  · rfl

/-- R55: a zone that is lost withdraws nothing. -/
theorem busUnits_loseZone (k : Fin 256) (z : Nat) (s : State) : busUnits (loseZone k z s) = busUnits s := by
  unfold loseZone
  split
  · split
    · simp only [resolveZone, afterResolved, busUnits_settleIfResolved, busUnits_closeIfExhausted]
      rfl
    · rfl
  · rfl

section Resolved

variable {k : Fin 256} {d : Delivery} {a : Attempt} {o : AttemptOutcome} {s t : State} {r : Subscriber}

theorem closeIfExhausted_open (attempt : d.attempt = some a)
    (opens : d.state = .airPending → ∃ x ∈ a.zones, couldAir x.state = true) :
    closeIfExhausted k (putDelivery k d s) = putDelivery k d s := by
  simp only [closeIfExhausted, deliveryAt_putDelivery, attempt]
  refine if_neg fun ⟨pending, exhausted⟩ => ?_
  obtain ⟨x, mem, airs⟩ := opens pending
  simpa [airs] using List.all_eq_true.mp exhausted x mem

theorem settleIfResolved_open (attempt : d.attempt = some a)
    (opens : d.state = .settling → ∃ x ∈ a.zones, unresolved x.state = true) :
    settleIfResolved k (putDelivery k d s) = putDelivery k d s := by
  simp only [settleIfResolved, deliveryAt_putDelivery, attempt]
  refine if_neg fun ⟨settling, resolved⟩ => ?_
  obtain ⟨x, mem, waits⟩ := opens settling
  simpa [waits] using List.all_eq_true.mp resolved x mem

/-- R61: an attempt in SETTLING with every zone resolved settles. -/
theorem settleIfResolved_settles (attempt : d.attempt = some a) (settling : d.state = .settling)
    (outcome : a.outcome = some o) (resolved : allResolved a = true) (record : s.directory[d.subscriber]? = some r) :
    Settles k d a o s (settleIfResolved k (putDelivery k d s)) := by
  have settles : settleIfResolved k (putDelivery k d s) = settle k (putDelivery k d s) := by
    simp only [settleIfResolved, deliveryAt_putDelivery, attempt, settling, resolved, and_self, if_true]
  rw [settles]
  exact settle_settles attempt outcome record

/-- R61: a delivery that has settled has no attempt. -/
theorem Settles.attempt_none (record : s.directory[d.subscriber]? = some r) (h : Settles k d a o s t) :
    attemptAt t k = none := by
  have freed : ∀ u : State, u.store = slotEnded k (attemptCharged k d a s).store → attemptAt u k = none := by
    intro u store
    simp [attemptAt, deliveryAt, slotAt, store, slotEnded]
  cases o with
  | acked => rw [h.acked rfl]; exact freed _ rfl
  | missed =>
    by_cases ends : d.expiry = true ∨ (deliveryCharged d a s).counted = (planAt s d.subscriber).maxAttempts
    · obtain ⟨r', record', -⟩ := attemptCharged_record k a record
      rw [← (deliveryCharged_keeps d a s).1] at record'
      rw [h.expired rfl ends]
      exact freed _ (by rw [endedExpired, record']; rfl)
    · obtain ⟨young, more⟩ := not_or.mp ends
      have waits := (h.retried rfl (Bool.not_eq_true _ ▸ young) more).slots _ rfl
      simp [attemptAt, deliveryAt, slotAt, waits]

theorem settleIfResolved_of_no_attempt (none : attemptAt s k = none) : settleIfResolved k s = s := by
  unfold settleIfResolved
  split
  · next d held =>
    have : d.attempt = Option.none := by rw [attemptAt, held] at none; exact none
    rw [this]
  · rfl

/-- R55, R59, R61: nothing follows while the attempt is open, or another zone of it unresolved. -/
theorem afterResolved_open (attempt : d.attempt = some a) (pending : d.state = .airPending → ∃ x ∈ a.zones, couldAir x.state = true)
    (settling : d.state = .settling → ∃ x ∈ a.zones, unresolved x.state = true) :
    afterResolved k (putDelivery k d s) = putDelivery k d s := by
  rw [afterResolved, closeIfExhausted_open attempt pending, settleIfResolved_open attempt settling]

theorem afterResolved_settles (attempt : d.attempt = some a) (settling : d.state = .settling)
    (outcome : a.outcome = some o) (resolved : allResolved a = true) (record : s.directory[d.subscriber]? = some r) :
    Settles k d a o s (afterResolved k (putDelivery k d s)) := by
  rw [afterResolved, closeIfExhausted_open attempt fun pending => by simp [settling] at pending]
  exact settleIfResolved_settles attempt settling outcome resolved record

theorem not_couldAir_of_resolved (resolved : allResolved a = true) : (a.zones.all fun e => !couldAir e.state) = true := by
  refine List.all_eq_true.mpr fun x mem => ?_
  have past := List.all_eq_true.mp resolved x mem
  revert past
  cases x.state <;> decide

/-- R56: the attempt with its outcome, the ack wait given up. -/
def closedAs (o : AttemptOutcome) (a : Attempt) : Attempt := { a with outcome := some o, ackDue := none }

/-- R56: the delivery whose attempt has closed. -/
def closedDelivery (o : AttemptOutcome) (d : Delivery) (a : Attempt) : Delivery :=
  { d with state := .settling, attempt := some (closedAs o a) }

/-- R59, R61, R62: an open attempt whose last zone is resolved with none to air closes MISSED and settles. -/
theorem afterResolved_closes (attempt : d.attempt = some a) (pending : d.state = .airPending) (resolved : allResolved a = true)
    (record : s.directory[d.subscriber]? = some r) : Settles k d a .missed s (afterResolved k (putDelivery k d s)) := by
  have exhausted := not_couldAir_of_resolved resolved
  have close := closeAttempt_of_exhausted (deliveryAt_putDelivery k d s) attempt exhausted .missed
  rw [mapDelivery_putDelivery, attempt] at close
  have closes : closeIfExhausted k (putDelivery k d s) =
      settleIfResolved k (putDelivery k (closedDelivery .missed d a) s) := by
    simp only [closeIfExhausted, deliveryAt_putDelivery, attempt, pending, exhausted, and_self, if_true]
    exact close
  have settles : Settles k (closedDelivery .missed d a) (closedAs .missed a) .missed s
      (settleIfResolved k (putDelivery k (closedDelivery .missed d a) s)) :=
    settleIfResolved_settles rfl rfl rfl resolved record
  have none := Settles.attempt_none (d := closedDelivery .missed d a) record settles
  rw [afterResolved, closes, settleIfResolved_of_no_attempt none]
  exact settles.of_closed

end Resolved

/-- R55: the attempt with its entries for a zone LOST. -/
def zoneLost (z : Nat) (a : Attempt) : Attempt :=
  { a with zones := a.zones.map fun x => if x.zone = z then { x with state := .lost } else x }

/-- R55: an unresolved zone becomes LOST, with what follows. -/
theorem loseZone_eq {k : Fin 256} {z : Nat} {d : Delivery} {a : Attempt} {y : ZoneEntry} {s : State}
    (held : deliveryAt s k = some d) (attempt : d.attempt = some a)
    (entry : a.zones.find? (fun x => x.zone == z) = some y) (waits : unresolved y.state = true) :
    loseZone k z s = afterResolved k (putDelivery k { d with attempt := some (zoneLost z a) } s) := by
  have zone : ((attemptAt s k).bind fun a => zoneStateOf a z) = some y.state := by
    rw [attemptAt, held, Option.bind_some, attempt, Option.bind_some, zoneStateOf, entry, Option.map_some]
  have set : setZone k z .lost s = putDelivery k { d with attempt := some (zoneLost z a) } s := by
    rw [setZone, mapAttempt, mapDelivery_eq_put held, attempt]
    rfl
  simp only [loseZone, zone, waits, if_true, resolveZone, set]

theorem exists_zoneLost {z : Nat} {a : Attempt} {p : ZoneState → Bool} (other : ∃ x ∈ a.zones, x.zone ≠ z ∧ p x.state = true) :
    ∃ x ∈ (zoneLost z a).zones, p x.state = true := by
  obtain ⟨x, mem, ne, holds⟩ := other
  exact ⟨x, List.mem_map.mpr ⟨x, mem, if_neg ne⟩, holds⟩

theorem allResolved_zoneLost {z : Nat} {a : Attempt} (others : ∀ x ∈ a.zones, x.zone ≠ z → unresolved x.state = false) :
    allResolved (zoneLost z a) = true := by
  refine List.all_eq_true.mpr fun x mem => ?_
  obtain ⟨w, was, rfl⟩ := List.mem_map.mp mem
  by_cases zone : w.zone = z
  · rw [if_pos zone]
    rfl
  · rw [if_neg zone, others w was zone]
    rfl

/-! ## The count of reply timeouts (R162) -/

/-- R169: REPLY-TIMEOUTS. -/
def replyTimeoutsOf (s : State) : Nat := s.exchange.counts.replyTimeouts

theorem replyTimeoutsOf_of_busUnits {s t : State} (h : busUnits t = busUnits s) : replyTimeoutsOf t = replyTimeoutsOf s :=
  congrArg (fun u : Bus × Exchange => u.2.counts.replyTimeouts) h

theorem replyTimeoutsOf_convertEntry (key : EntryKey) (kind : EntryKind) (payload : List Byte) (s : State) :
    replyTimeoutsOf (convertEntry key kind payload s) = replyTimeoutsOf s := by
  unfold convertEntry
  split
  · rfl
  · simp only [replyTimeoutsOf, exchange_joinRequests]
    rfl

theorem replyTimeoutsOf_routeEntry (k : Fin 8) (ask : ForwardAsk) (s : State) :
    replyTimeoutsOf (routeEntry k ask s) = replyTimeoutsOf s := by
  unfold routeEntry
  split
  · rfl
  · split
    · rfl
    · exact replyTimeoutsOf_of_busUnits (busUnits_decideEntry ask.number ask.cls ask.body none s)
    · split_ifs <;> rfl

theorem replyTimeoutsOf_assemble (k : Fin 8) (s : State) (c : RxChar) :
    replyTimeoutsOf (assemble k s c) = replyTimeoutsOf s := by
  unfold assemble
  split
  · split <;> rfl
  · split
    · unfold checkEntry
      split
      · exact replyTimeoutsOf_routeEntry k _ _
      · rfl
    · rfl
  · rfl

/-- R26: the characters that waited in LOOKUP leave REPLY-TIMEOUTS alone. -/
theorem replyTimeoutsOf_leaveLookup (k : Fin 8) (v : Verdict) (s : State) :
    replyTimeoutsOf (leaveLookup k v s) = replyTimeoutsOf s := by
  unfold leaveLookup drainFifo
  split
  · exact foldl_keeps replyTimeoutsOf _ (replyTimeoutsOf_assemble k) _ _
  · rfl

theorem replyTimeoutsOf_forwardTimedOut (e : Outstanding) (s : State) :
    replyTimeoutsOf (forwardTimedOut e s) = replyTimeoutsOf s := by
  have cancelled : replyTimeoutsOf (cancelForward e.key s) = replyTimeoutsOf s := replyTimeoutsOf_convertEntry ..
  unfold forwardTimedOut
  dsimp only
  split
  · split
    · exact (replyTimeoutsOf_leaveLookup _ _ _).trans cancelled
    · exact cancelled
  · exact cancelled

theorem replyTimeoutsOf_completeEntry (e : Outstanding) (s : State) :
    replyTimeoutsOf (completeEntry e s) = replyTimeoutsOf s := by
  have freed : replyTimeoutsOf (freeEntry e.key s) = replyTimeoutsOf s := rfl
  have lost : ∀ k z, replyTimeoutsOf (loseZone k z (freeEntry e.key s)) = replyTimeoutsOf s := fun k z =>
    (replyTimeoutsOf_of_busUnits (busUnits_loseZone k z _)).trans freed
  unfold completeEntry
  split
  · exact replyTimeoutsOf_forwardTimedOut e s
  · exact freed
  · split
    · exact lost _ _
    · exact freed
  · split
    · exact lost _ _
    · exact freed

/-! ## The event -/

/-- R162: the station in which an entry completes, its timeout counted. -/
def timedOut (offpeak : Bool) (s : State) : State :=
  mapExchangeCounts (fun c => { c with replyTimeouts := raise c.replyTimeouts }) (withOffpeak offpeak s)

theorem exec_replyTimeout {e : Outstanding} {due : Tick} {s : State} (offpeak : Bool) (found : findEntry s e.key = some e)
    (phase : e.phase = .queued ∨ e.phase = .sent) (timer : e.due = some due) (late : 0 ≤ (s.tick - due).toInt) :
    exec (.replyTimeout offpeak e.key) s = .next (completeEntry e (timedOut offpeak s)) := by
  have runs : timed e.phase = true := by rcases phase with h | h <;> rw [h] <;> rfl
  have act : exec (.replyTimeout offpeak e.key) s = execReplyTimeout offpeak e.key s := rfl
  rw [act, execReplyTimeout, found]
  exact congrArg _ (if_pos ⟨runs, timerReached_of_toInt timer late⟩)

section Completion

variable {offpeak : Bool} {e : Outstanding} {s : State}

/-- R55: the entry of a zone completes. -/
theorem completeEntry_zone {k : Fin 256} {z : Nat} (owner : e.owner = .zone k z)
    (kind : e.key.kind = .airRequest ∨ e.key.kind = .withdraw) (s : State) :
    completeEntry e s = loseZone k z (freeEntry e.key s) := by
  rcases kind with kind | kind <;> simp only [completeEntry, kind, owner]

/-- R35: the FORWARD that a line waits for completes. -/
theorem completeEntry_forward {k : Fin 8} (kind : e.key.kind = .forward) (owner : e.owner = .line k)
    (state : (lineAt s k).state = .lookup) (lookup : (lineAt s k).lookup = some e.key) (empty : (lineAt s k).fifo = []) :
    completeEntry e s = produceVerdict k .unreachable (cancelForward e.key s) := by
  have line : lineAt (cancelForward e.key s) k = lineAt s k :=
    lineAt_of_outsideStore (outsideStore_convertEntry _ _ _ s) k
  simp only [completeEntry, kind, forwardTimedOut, owner, state, lookup, and_self, if_true]
  exact leaveLookup_empty (by rw [line]; exact empty) _

/-- R162: an entry freed at its timeout changes the bus, the Exchange Unit and the level of OFFPEAK alone. -/
theorem freeEntry_timedOut (offpeak : Bool) (key : EntryKey) (s : State) : freeEntry key (timedOut offpeak s) = { s with
    pins := { s.pins with offpeak := offpeak }, bus := (freeEntry key (timedOut offpeak s)).bus,
    exchange := (freeEntry key (timedOut offpeak s)).exchange } :=
  frame_of_outsideBus (s := { s with pins := { s.pins with offpeak := offpeak } })
    (outsideBus_freeEntry key (timedOut offpeak s))

/-- R37: a CANCEL completes. -/
theorem completeEntry_cancel (kind : e.key.kind = .cancel) (s : State) :
    completeEntry e s = mapIntakeCounts (countCancel none) (freeEntry e.key s) := by
  simp only [completeEntry, kind]

end Completion

/-- R55, R59, R61: the station after a zone is lost, `freed` being the one with its entry freed. -/
theorem loseZone_outcome {k : Fin 256} {z : Nat} {d : Delivery} {a lost : Attempt} {y : ZoneEntry} {freed t : State}
    (held : deliveryAt freed k = some d) (attempt : d.attempt = some a)
    (entry : a.zones.find? (fun x => x.zone == z) = some y) (waits : unresolved y.state = true)
    (isLost : lost = zoneLost z a) (eq : t = loseZone k z freed) :
    (d.state = .awaitAck
        ∨ (d.state = .airPending ∧ ∃ x ∈ a.zones, x.zone ≠ z ∧ couldAir x.state = true)
        ∨ (d.state = .settling ∧ ∃ x ∈ a.zones, x.zone ≠ z ∧ unresolved x.state = true) →
      t = putDelivery k { d with attempt := some lost } freed)
    ∧ ((freed.directory[d.subscriber]?).isSome = true → (∀ x ∈ a.zones, x.zone ≠ z → unresolved x.state = false) →
      (d.state = .airPending → Settles k d lost .missed freed t)
      ∧ ∀ o, d.state = .settling → a.outcome = some o → Settles k d lost o freed t) := by
  subst isLost eq
  rw [loseZone_eq held attempt entry waits]
  refine ⟨fun stays => ?_, fun known others => ?_⟩
  · refine afterResolved_open rfl (fun pending => ?_) fun settling => ?_
    · rcases stays with awaits | ⟨_, other⟩ | ⟨settles, _⟩
      · exact absurd (awaits.symm.trans pending) (by decide)
      · exact exists_zoneLost other
      · exact absurd (settles.symm.trans pending) (by decide)
    · rcases stays with awaits | ⟨pends, _⟩ | ⟨_, other⟩
      · exact absurd (awaits.symm.trans settling) (by decide)
      · exact absurd (pends.symm.trans settling) (by decide)
      · exact exists_zoneLost other
  · obtain ⟨r, record⟩ := Option.isSome_iff_exists.mp known
    have resolved := allResolved_zoneLost others
    refine ⟨fun pending => ?_, fun o settling outcome => ?_⟩
    · exact (afterResolved_closes (d := { d with attempt := some (zoneLost z a) }) rfl pending resolved record).of_closed
    · exact (afterResolved_settles (d := { d with attempt := some (zoneLost z a) }) rfl settling outcome resolved
        record).of_closed

/-- Settles O44: the entry completes by its kind; a zone by what its delivery waits for. -/
theorem replyTimeoutCompletesEntry : Obligations.ReplyTimeoutCompletesEntry := by
  unfold Obligations.ReplyTimeoutCompletesEntry
  intro offpeak e due s found phase timer late
  have frame := freeEntry_timedOut offpeak e.key s
  have table := freeEntry_table e.key (timedOut offpeak s)
  refine ⟨_, exec_replyTimeout offpeak found phase timer late, replyTimeoutsOf_completeEntry e (timedOut offpeak s),
    fun kind => ?_, fun k z d a y owner held attempt entry kind waits => ?_,
    fun k kind owner state lookup empty _ => ?_⟩
  · rw [completeEntry_cancel kind]
    refine ⟨?_, ?_, table⟩
    · rw [frame]
      rfl
    · rw [frame]
      rfl
  · have units := busUnits_loseZone k z (freeEntry e.key (timedOut offpeak s))
    obtain ⟨bus, exchange⟩ := Prod.mk.inj units
    rw [completeEntry_zone owner kind]
    refine ⟨by rw [exchange]; exact table, ?_⟩
    rintro lost freed isLost isFreed
    rw [bus, exchange, ← frame] at isFreed
    subst isFreed
    have held : deliveryAt (freeEntry e.key (timedOut offpeak s)) k = some d := held
    exact loseZone_outcome held attempt entry waits isLost rfl
  · obtain ⟨x, mem, cancels, peer, owned, idle, f, queued, frameKind, payload, seq⟩ :=
      convertEntry_mem (s := timedOut offpeak s) found .cancel [e.key.seq]
    have line := lineAt_produceVerdict k .unreachable (cancelForward e.key (timedOut offpeak s))
    rw [show lineAt (cancelForward e.key (timedOut offpeak s)) k = lineAt s k from
      lineAt_of_outsideStore (outsideStore_convertEntry _ _ _ _) k] at line
    rw [completeEntry_forward (s := timedOut offpeak s) kind owner state lookup empty]
    exact ⟨congrArg Line.txBuffer line, congrArg Line.lookup line, congrArg Line.state line,
      x, mem, peer, cancels, owned, idle, f, queued, frameKind, payload, seq⟩

end Sys2Proof.Machine
end

section
/-! The frames that a member acts on and the replies it matches (R156, R157, R161), and the CANCEL of a delivery that has not
been issued (R65, R122). -/

namespace Sys2Proof.Machine

/-! ## Frames for this station -/

/-- R138: a kind is told by its code. -/
theorem ofKind_kindCode (k : FrameKind) : ofKind k (kindCode k) = true := by
  cases k <;> decide

/-- R157: a frame that only a member acts on, at the level of OFFPEAK that its command brings. -/
theorem takeFrame_member {α : Type} {k : FrameKind} {heard : List BusChar} {f : Received} {s : State}
    (own : hearsOwn k heard f s) (joined : member s = true) {read : List Byte → Option α} {x : α}
    (good : read f.payload = some x) (act : Received → α → State → State) (offpeak : Bool) :
    takeFrame (ofKind k) heard (fun f => checked f (read f.payload) fun x => membersOnly (act f x)) (withOffpeak offpeak s) =
      act f x (withOffpeak offpeak (noted f s)) := by
  obtain ⟨heardFrame, kind, dest⟩ := own
  rw [takeFrame_of_hears (hears_withOffpeak offpeak heardFrame) (by rw [kind]; exact ofKind_kindCode k), checked_some dest good,
    membersOnly_member (s := noted f (withOffpeak offpeak s)) joined]
  rfl

/-- R161: a reply to a SENT entry, at the level of OFFPEAK that its command brings. -/
theorem takeFrame_reply {α : Type} {k : FrameKind} {heard : List BusChar} {f : Received} {e : Outstanding} {s : State}
    (own : hearsOwn k heard f s) {read : List Byte → Option α} {x : α} (good : read f.payload = some x)
    (found : findEntry s e.key = some e) (sent : e.phase = .sent) (peer : e.key.peer = f.src.toNat)
    (seq : e.key.seq = f.seq) (act : α → Outstanding → State → State) (offpeak : Bool) :
    takeFrame (ofKind k) heard (fun f => checked f (read f.payload) fun x => matched f e.key.kind (act x))
      (withOffpeak offpeak s) = act x e (withOffpeak offpeak (noted f s)) := by
  obtain ⟨heardFrame, kind, dest⟩ := own
  rw [takeFrame_of_hears (hears_withOffpeak offpeak heardFrame) (by rw [kind]; exact ofKind_kindCode k), checked_some dest good,
    matched_sent (s := noted f (withOffpeak offpeak s)) found sent peer seq]
  rfl

/-- R157, R151: the answer to a frame noted, in the station as the event has left it. -/
theorem answerTo_noted_eq {f : Received} {s t : State} (room : s.bus.answers.length < 24) (bus : t.bus = (noted f s).bus)
    (life : t.life = s.life) (x : FrameKind) (payload : List Byte) :
    answerTo x f.src.toNat f.seq payload t = { t with bus := (answeredFrame f x payload s).bus } := by
  rw [answerTo_bus, answerTo_noted room bus life]

/-! ## The delivery that a CANCEL ends (R65) -/

/-- R65: what a CANCEL of an origin looks for in the issue queue. -/
def mayCancel (s : State) (o : Origin) (k : Fin 256) : Bool :=
  hasOrigin s o k && (match deliveryAt s k with | some d => d.state == .issuing && !d.issued | none => false)

theorem cancellable_eq (s : State) (o : Origin) : cancellable s o = s.store.issue.reverse.find? (mayCancel s o) := rfl

theorem hasOrigin_iff {s : State} {o : Origin} {k : Fin 256} :
    hasOrigin s o k = true ↔ ∃ d, (s.store.slots[k.val]).held = some d ∧ d.origin = some o := by
  unfold hasOrigin deliveryAt slotAt
  split
  · next d held => simp [held]
  · next none => simp [none]

theorem mayCancel_iff {s : State} {o : Origin} {k : Fin 256} : mayCancel s o k = true ↔
    ∃ d, (s.store.slots[k.val]).held = some d ∧ d.origin = some o ∧ d.state = .issuing ∧ d.issued = false := by
  rw [mayCancel, Bool.and_eq_true, hasOrigin_iff]
  unfold deliveryAt slotAt
  split
  · next d held => simp [held]
  · next none => simp [none]

theorem not_mayCancel {s : State} {o : Origin} {k : Fin 256}
    (past : ∀ d, (s.store.slots[k.val]).held = some d → d.origin = some o → d.issued = true ∨ d.state ≠ .issuing) :
    ¬ mayCancel s o k = true := by
  rw [mayCancel_iff]
  rintro ⟨d, held, origin, state, issued⟩
  rcases past d held origin with wasIssued | other
  · simp [issued] at wasIssued
  · exact other state

theorem cancellable_none {s : State} {o : Origin} (past : ∀ k ∈ s.store.issue, ¬ mayCancel s o k = true) :
    cancellable s o = none := by
  rw [cancellable_eq, List.find?_eq_none]
  exact fun k mem => past k (List.mem_reverse.mp mem)

/-- R65: the delivery nearest the tail of the issue queue. -/
theorem cancellable_some {s : State} {o : Origin} {before after : List (Fin 256)} {k : Fin 256}
    (issue : s.store.issue = before ++ k :: after) (may : mayCancel s o k = true)
    (past : ∀ j ∈ after, ¬ mayCancel s o j = true) : cancellable s o = some k := by
  have behind : after.reverse.find? (mayCancel s o) = none :=
    List.find?_eq_none.mpr fun j mem => past j (List.mem_reverse.mp mem)
  simp [cancellable_eq, issue, List.find?_append, behind, may]

theorem any_hasOrigin_iff {s : State} {o : Origin} : List.any (List.finRange 256) (hasOrigin s o) = true ↔
    ∃ (k : Fin 256) (d : Delivery), (s.store.slots[k.val]).held = some d ∧ d.origin = some o := by
  simp only [List.any_eq_true, List.mem_finRange, true_and, hasOrigin_iff]

/-! ## The credit of a CANCEL (R63, R122) -/

theorem putDelivery_self {k : Fin 256} {d : Delivery} {s : State} (held : (s.store.slots[k.val]).held = some d) :
    putDelivery k d s = s := by
  have slot : Slot.mk (s.store.slots[k.val]).gen (some d) = s.store.slots[k.val] := by rw [← held]
  rw [putDelivery, slot, Vector.set_getElem_self]

theorem modifyRecord_eq {i : Nat} {r : Subscriber} {s : State} (record : s.directory[i]? = some r)
    (f : Subscriber → Subscriber) : modifyRecord i f s = { s with directory := s.directory.set i (f r) } := by
  rw [modifyRecord, State.mapDirectory, modify_eq_set record]

/-- R42: the slot freed. -/
theorem freeSlot_eq (k : Fin 256) (s : State) : freeSlot k s = { s with store := slotEnded k s.store } := rfl

/-- R122, R125: the CANCEL-CREDIT record of the accept charge, about the record as credited. -/
def creditRecord (k : Fin 256) (d : Delivery) (s : State) (r : Subscriber) : BillingRecord :=
  { recordFor .cancelCredit r with
    delivery := some (BitVec.ofFin k, (s.store.slots[k.val]).gen), amount := d.charged, credit := true }

/-- R63, R122: a delivery ends CANCELLED with the credit of its accept charge. -/
theorem endDelivery_cancelled {k : Fin 256} {d : Delivery} {r : Subscriber} {s : State}
    (held : (s.store.slots[k.val]).held = some d) (record : s.directory[d.subscriber]? = some r)
    (room : s.billing.queue.length < 128) :
    endDelivery k .cancelled s = { s with
      directory := s.directory.set d.subscriber { r with periodTotal := r.periodTotal - d.charged, live := r.live - 1 },
      store := slotEnded k s.store,
      billing := { s.billing with
        seq := s.billing.seq + 1,
        queue := s.billing.queue ++ [{ creditRecord k d s (takeCredit d.charged r) with
          seq := s.billing.seq, offpeak := s.pins.offpeak }] } } := by
  have length : d.subscriber < s.directory.length := (List.getElem?_eq_some_iff.mp record).1
  have found : deliveryAt s k = some d := held
  have credit : cancelCredit k d s = produceRecord (creditRecord k d s (takeCredit d.charged r))
      { s with directory := s.directory.set d.subscriber (takeCredit d.charged r) } := produceFor_modifyRecord record _ _
  simp only [endDelivery, found, terminalCredit]
  rw [credit, produceRecord_room (by exact room),
    modifyRecord_eq (r := takeCredit d.charged r) (List.getElem?_set_self length), freeSlot_eq]
  simp only [List.set_set]
  rfl

/-! ## The three answers -/

theorem exec_cancel {offpeak : Bool} {heard : List BusChar} {f : Received} {s : State} (own : hearsOwn .cancel heard f s)
    (joined : member s = true) (single : f.payload.length = 1) :
    exec (.cancel offpeak heard) s =
      .next (takeCancel f (byteAt f.payload 0) (withOffpeak offpeak (noted f s))) := by
  obtain ⟨seq, payload⟩ := List.length_eq_one_iff.mp single
  have good : readByte f.payload = some (byteAt f.payload 0) := by
    rw [payload]
    rfl
  exact congrArg _ (takeFrame_member own joined good takeCancel offpeak)

/-- R65, R157: what a CANCEL of an origin leaves, by its answer and its effect. -/
theorem takeCancel_eq {f : Received} {seq : Byte} {s x t : State} {code : CancelCode} (room : s.bus.answers.length < 24)
    (answer : cancelAnswer x { station := f.src.toNat, seq := seq } = code)
    (effect : cancelOrigin { station := f.src.toNat, seq := seq } x = t) (bus : t.bus = (noted f s).bus)
    (life : t.life = s.life) :
    takeCancel f seq x = { t with bus := (answeredFrame f .cancelAnswer [cancelCode code] s).bus } := by
  rw [← answerTo_noted_eq room bus life, ← answer, ← effect]
  rfl

theorem cancelAnswer_cancelled {s : State} {o : Origin} {k : Fin 256} (ends : cancellable s o = some k) :
    cancelAnswer s o = .cancelled ∧ cancelOrigin o s = endDelivery k .cancelled s := by
  simp only [cancelAnswer, cancelOrigin, ends, Option.isSome_some, if_true, and_self]

theorem cancelAnswer_tooLate {s : State} {o : Origin} (none : cancellable s o = none)
    (present : ∃ (k : Fin 256) (d : Delivery), (s.store.slots[k.val]).held = some d ∧ d.origin = some o) :
    cancelAnswer s o = .tooLate ∧ cancelOrigin o s = s := by
  simp only [cancelAnswer, cancelOrigin, none, Option.isSome_none, Bool.false_eq_true, if_false,
    if_pos (any_hasOrigin_iff.mpr present), and_self]

theorem cancelAnswer_unknown {s : State} {o : Origin}
    (absent : ∀ (k : Fin 256) (d : Delivery), (s.store.slots[k.val]).held = some d → d.origin ≠ some o) :
    cancelAnswer s o = .unknown ∧ cancelOrigin o s = s := by
  have nowhere : ¬ List.any (List.finRange 256) (hasOrigin s o) = true := by
    rw [any_hasOrigin_iff]
    exact fun ⟨k, d, held, same⟩ => absent k d held same
  have none : cancellable s o = none := cancellable_none fun k _ => by
    rw [mayCancel_iff]
    exact fun ⟨d, held, same, _⟩ => absent k d held same
  simp only [cancelAnswer, cancelOrigin, none, Option.isSome_none, Bool.false_eq_true, if_false, if_neg nowhere, and_self]

/-- Settles O26: the answer by what the slots and the issue queue hold of the origin; the credit by `endDelivery_cancelled`. -/
theorem cancelIsAnsweredByOrigin : Obligations.CancelIsAnsweredByOrigin := by
  unfold Obligations.CancelIsAnsweredByOrigin
  rintro offpeak heard f o s own joined single rfl room
  rw [exec_cancel own joined single]
  refine ⟨fun absent => ?_, fun present issued => ?_,
    fun before after k d r queue held origin state unissued record free past => ?_⟩
  · obtain ⟨answer, effect⟩ := cancelAnswer_unknown (s := withOffpeak offpeak (noted f s)) absent
    exact congrArg _ (takeCancel_eq room answer effect rfl rfl)
  · have none : cancellable (withOffpeak offpeak (noted f s)) _ = none :=
      cancellable_none fun k mem => not_mayCancel (issued k mem)
    obtain ⟨answer, effect⟩ := cancelAnswer_tooLate none present
    exact congrArg _ (takeCancel_eq room answer effect rfl rfl)
  · have ends : cancellable (withOffpeak offpeak (noted f s)) _ = some k :=
      cancellable_some queue (mayCancel_iff.mpr ⟨d, held, origin, state, unissued⟩) fun j mem => not_mayCancel (past j mem)
    obtain ⟨answer, effect⟩ := cancelAnswer_cancelled ends
    rw [endDelivery_cancelled (s := withOffpeak offpeak (noted f s)) held record free] at effect
    exact congrArg _ (takeCancel_eq room answer effect rfl rfl)

end Sys2Proof.Machine
end

section
/-! AIRED reports (R53, R56, R104): the tag that starts an ack wait, the tags of a report in order, and the tag that settles a
closed attempt (R61). -/

namespace Sys2Proof.Machine

/-! ## A zone entry set (R51) -/

/-- R51: the attempt with its entries for a zone in a state. -/
def zoneSet (z : Nat) (st : ZoneState) (a : Attempt) : Attempt :=
  { a with zones := a.zones.map fun x => if x.zone = z then { x with state := st } else x }

/-- R51: the delivery with a zone entry of its attempt in a state. -/
def deliveryZoned (z : Nat) (st : ZoneState) (d : Delivery) (a : Attempt) : Delivery :=
  { d with attempt := some (zoneSet z st a) }

theorem setZone_eq {k : Fin 256} {z : Nat} {st : ZoneState} {d : Delivery} {a : Attempt} {s : State}
    (held : deliveryAt s k = some d) (attempt : d.attempt = some a) :
    setZone k z st s = putDelivery k (deliveryZoned z st d a) s := by
  rw [setZone, mapAttempt, mapDelivery_eq_put held, attempt]
  rfl

/-- R61: setting the last unresolved zone to a resolved state resolves the attempt. -/
theorem allResolved_zoneSet {z : Nat} {st : ZoneState} {a : Attempt} (resolved : unresolved st = false)
    (others : ∀ x ∈ a.zones, x.zone ≠ z → unresolved x.state = false) : allResolved (zoneSet z st a) = true := by
  refine List.all_eq_true.mpr fun x mem => ?_
  obtain ⟨w, was, rfl⟩ := List.mem_map.mp mem
  by_cases zone : w.zone = z
  · simp [zone, resolved]
  · simp [zone, others w was zone]

theorem exists_zoneSet {z : Nat} {st : ZoneState} {a : Attempt} {p : ZoneState → Bool}
    (other : ∃ x ∈ a.zones, x.zone ≠ z ∧ p x.state = true) : ∃ x ∈ (zoneSet z st a).zones, p x.state = true := by
  obtain ⟨x, mem, ne, holds⟩ := other
  exact ⟨x, List.mem_map.mpr ⟨x, mem, if_neg ne⟩, holds⟩

/-! ## The entry that serves a zone (R51) -/

@[simp] theorem answers_freeEntry (key : EntryKey) (s : State) : (freeEntry key s).bus.answers = s.bus.answers := by
  change (dropRequests (frameOf key) s.bus).answers = s.bus.answers
  unfold dropRequests
  split <;> rfl

@[simp] theorem answers_freeZoneEntry (k : Fin 256) (z : Nat) (s : State) :
    (freeZoneEntry k z s).bus.answers = s.bus.answers := by
  unfold freeZoneEntry
  split <;> simp

theorem freeZoneEntry_putDelivery (k : Fin 256) (z : Nat) (d : Delivery) (s : State) :
    freeZoneEntry k z (putDelivery k d s) = putDelivery k d (freeZoneEntry k z s) := by
  have same : entryOfZone (putDelivery k d s) k z = entryOfZone s k z := rfl
  unfold freeZoneEntry
  rw [same]
  split <;> rfl

theorem freeZoneEntry_table {k : Fin 256} {z : Nat} {s : State} {e : Outstanding} (entry : entryOfZone s k z = some e) :
    ∀ x ∈ (freeZoneEntry k z s).exchange.table, x.key ≠ e.key := by
  rw [freeZoneEntry, entry]
  exact freeEntry_table e.key s

/-! ## One tag (R53) -/

section OneTag

variable {zone : Nat} {g : Tag} {d : Delivery} {a : Attempt} {s : State}

/-- R41, R53: the tag names the attempt `a` of the delivery `d`, whose entry for the zone is unresolved. -/
structure TagNames (zone : Nat) (s : State) (g : Tag) (d : Delivery) (a : Attempt) : Prop where
  home : isOwn s g.home.toNat = true
  slot : s.store.slots[g.slot.toNat] = { gen := g.gen, held := some d }
  attempt : d.attempt = some a
  number : a.number = g.attempt.toNat
  entry : ∃ z, a.zones.find? (fun e => e.zone == zone) = some z ∧ unresolved z.state = true

/-- R41: the tag matches no held delivery. -/
def TagDiscarded (s : State) (g : Tag) : Prop :=
  isOwn s g.home.toNat = false ∨ (s.store.slots[g.slot.toNat]).gen ≠ g.gen ∨ (s.store.slots[g.slot.toNat]).held = none

theorem airedApplies_of_names (names : TagNames zone s g d a) : airedApplies zone g s = true := by
  obtain ⟨home, slot, attempt, number, z, entry, open_⟩ := names
  have slot : slotAt s (tagSlot g) = { gen := g.gen, held := some d } := slot
  simp [airedApplies, tagMatches, attemptAt, deliveryAt, slot, home, attempt, number, zoneStateOf, entry, open_]

theorem takeAired_of_discarded (discarded : TagDiscarded s g) : takeAired zone s g = s := by
  have unmatched : tagMatches s g = false := by
    rcases discarded with home | gen | free
    · simp [tagMatches, home]
    · have gen : (slotAt s (tagSlot g)).gen ≠ g.gen := gen
      simp [tagMatches, gen]
    · have free : deliveryAt s (tagSlot g) = none := free
      simp [tagMatches, free]
  simp [takeAired, airedApplies, unmatched]

/-- R53: a tag that applies makes its zone AIRED and frees the zone's outstanding entry, before what that brings about. -/
theorem takeAired_of_names (names : TagNames zone s g d a) : takeAired zone s g =
    settleIfResolved (tagSlot g) (startAckWait (tagSlot g)
      (putDelivery (tagSlot g) (deliveryZoned zone .aired d a) (freeZoneEntry (tagSlot g) zone s))) := by
  have held : deliveryAt s (tagSlot g) = some d := congrArg Slot.held names.slot
  rw [takeAired, if_pos (airedApplies_of_names names), setZone_eq held names.attempt, freeZoneEntry_putDelivery]

/-- R53, R104: the delivery whose open attempt has a zone AIRED. -/
def airedDelivery (zone : Nat) (s : State) (d : Delivery) (a : Attempt) : Delivery :=
  { d with
    state := .awaitAck
    attempt := some { zoneSet zone .aired a with
      ackDue := if d.state = .airPending then some (s.tick + BitVec.ofNat 32 (100 * (planAt s d.subscriber).ackWait))
        else a.ackDue } }

theorem startAckWait_pending {k : Fin 256} (state : d.state = .airPending) (attempt : d.attempt = some a) :
    startAckWait k (putDelivery k d s) = putDelivery k { d with
      state := .awaitAck
      attempt := some { a with
        ackDue := some (s.tick + BitVec.ofNat 32 (100 * (planAt s d.subscriber).ackWait)) } } s := by
  simp only [startAckWait, deliveryAt_putDelivery, state, if_true, mapDelivery_putDelivery, attempt]
  rfl

theorem startAckWait_other {k : Fin 256} (state : d.state ≠ .airPending) :
    startAckWait k (putDelivery k d s) = putDelivery k d s := by
  simp only [startAckWait, deliveryAt_putDelivery, state, if_false]

theorem planAt_freeZoneEntry (k : Fin 256) (z : Nat) (s : State) (i : Nat) : planAt (freeZoneEntry k z s) i = planAt s i := by
  rw [frame_of_outsideBus (outsideBus_freeZoneEntry k z s)]
  rfl

theorem store_freeZoneEntry (k : Fin 256) (z : Nat) (s : State) : (freeZoneEntry k z s).store = s.store := by
  obtain ⟨-, -, -, -, -, -, store, -⟩ := eq_of_outsideBus (outsideBus_freeZoneEntry k z s)
  exact store

/-- R53, R104: a tag of an open attempt brings AWAIT-ACK. -/
theorem takeAired_open (names : TagNames zone s g d a) (state : d.state = .airPending ∨ d.state = .awaitAck) :
    takeAired zone s g = putDelivery (tagSlot g) (airedDelivery zone s d a) (freeZoneEntry (tagSlot g) zone s) := by
  have started : startAckWait (tagSlot g) (putDelivery (tagSlot g) (deliveryZoned zone .aired d a)
      (freeZoneEntry (tagSlot g) zone s)) =
      putDelivery (tagSlot g) (airedDelivery zone s d a) (freeZoneEntry (tagSlot g) zone s) := by
    rcases state with pending | waits
    · have tick : (freeZoneEntry (tagSlot g) zone s).tick = s.tick := (eq_of_outsideBus (outsideBus_freeZoneEntry _ _ s)).1
      rw [startAckWait_pending (d := deliveryZoned zone .aired d a) pending rfl, planAt_freeZoneEntry, tick]
      simp only [airedDelivery, pending, if_true]
      rfl
    · rw [startAckWait_other (d := deliveryZoned zone .aired d a) (by simp [deliveryZoned, waits])]
      simp only [airedDelivery, deliveryZoned, waits, reduceCtorEq, if_false]
      rfl
  rw [takeAired_of_names names, started, settleIfResolved_open rfl]
  simp [airedDelivery]

theorem store_takeAired_open (names : TagNames zone s g d a) (state : d.state = .airPending ∨ d.state = .awaitAck) :
    (takeAired zone s g).store = { s.store with
      slots := s.store.slots.set g.slot.toNat { gen := g.gen, held := some (airedDelivery zone s d a) } } := by
  have gen : (s.store.slots[(tagSlot g).val]).gen = g.gen := congrArg Slot.gen names.slot
  rw [takeAired_open names state, putDelivery, store_freeZoneEntry, gen]
  rfl

/-- R61: a tag of a closed attempt settles it when it resolves the last of its zones. -/
theorem takeAired_settles {r : Subscriber} {o : AttemptOutcome} (names : TagNames zone s g d a) (state : d.state = .settling)
    (outcome : a.outcome = some o) (others : ∀ x ∈ a.zones, x.zone ≠ zone → unresolved x.state = false)
    (record : s.directory[d.subscriber]? = some r) :
    Settles (tagSlot g) d (zoneSet zone .aired a) o (freeZoneEntry (tagSlot g) zone s) (takeAired zone s g) := by
  have record : (freeZoneEntry (tagSlot g) zone s).directory[d.subscriber]? = some r := by
    rw [frame_of_outsideBus (outsideBus_freeZoneEntry (tagSlot g) zone s)]
    exact record
  rw [takeAired_of_names names, startAckWait_other (d := deliveryZoned zone .aired d a) (by simp [deliveryZoned, state])]
  exact (settleIfResolved_settles (d := deliveryZoned zone .aired d a) rfl state outcome
    (allResolved_zoneSet rfl others) record).of_closed

end OneTag

/-! ## The tags of a report (R53) -/

/-- R53: the attempt that a tag names is open. -/
structure TagOpens (zone : Nat) (s : State) (g : Tag) (d : Delivery) (a : Attempt) : Prop where
  names : TagNames zone s g d a
  state : d.state = .airPending ∨ d.state = .awaitAck

/-- R53: what the tags of a report leave, each of an open attempt in a slot of its own or discarded. -/
structure TagsTaken (zone : Nat) (gs : List Tag) (s t : State) : Prop where
  rest : t = { s with store := { s.store with slots := t.store.slots }, bus := t.bus, exchange := t.exchange }
  answers : t.bus.answers = s.bus.answers
  taken : ∀ g ∈ gs, ∀ d a, TagOpens zone s g d a →
    t.store.slots[g.slot.toNat] = { gen := g.gen, held := some (airedDelivery zone s d a) }
  others : ∀ k : Fin 256, (∀ g ∈ gs, g.slot.toNat = k.val → TagDiscarded s g) →
    t.store.slots[k.val] = s.store.slots[k.val]

section Report

variable {zone : Nat} {g : Tag} {gs : List Tag} {d : Delivery} {a : Attempt} {s t u : State}

/-- R41: a tag that names an attempt is not discarded. -/
theorem TagNames.not_discarded (names : TagNames zone s g d a) : ¬ TagDiscarded s g := by
  obtain ⟨home, slot, -⟩ := names
  simp [TagDiscarded, home, slot]

theorem TagsTaken.refl (zone : Nat) (s : State) : TagsTaken zone [] s s := ⟨rfl, rfl, by simp, fun _ _ => rfl⟩

theorem tagsTaken_of_discarded (discarded : TagDiscarded s g) : TagsTaken zone [g] s (takeAired zone s g) := by
  rw [takeAired_of_discarded discarded]
  refine ⟨rfl, rfl, fun h mem d a opens => ?_, fun _ _ => rfl⟩
  obtain rfl := List.mem_singleton.mp mem
  exact absurd discarded opens.names.not_discarded

theorem tagsTaken_of_opens (opens : TagOpens zone s g d a) : TagsTaken zone [g] s (takeAired zone s g) := by
  obtain ⟨names, state⟩ := opens
  have store := store_takeAired_open names state
  rw [takeAired_open names state] at store ⊢
  refine ⟨?_, answers_freeZoneEntry _ _ s, fun h mem d' a' opens' => ?_, fun k past => ?_⟩
  · rw [frame_of_outsideBus (outsideBus_freeZoneEntry (tagSlot g) zone s)]
    rfl
  · obtain rfl := List.mem_singleton.mp mem
    obtain rfl : d = d' := by simpa [names.slot] using opens'.names.slot
    obtain rfl : a = a' := by simpa [names.attempt] using opens'.names.attempt
    simp [store]
  · have other : g.slot.toNat ≠ k.val := fun same => names.not_discarded (past g (List.mem_singleton_self g) same)
    simp [store, other]

/-- R53: a tag of another slot names and discards after a report as before it. -/
theorem TagsTaken.keeps (taken : TagsTaken zone gs s t) (other : ∀ h ∈ gs, h.slot ≠ g.slot) :
    (TagDiscarded t g ↔ TagDiscarded s g) ∧ (∀ d a, TagOpens zone t g d a ↔ TagOpens zone s g d a)
      ∧ ∀ d a, airedDelivery zone t d a = airedDelivery zone s d a := by
  have slot : t.store.slots[g.slot.toNat] = s.store.slots[g.slot.toNat] :=
    taken.others g.slot.toFin fun h mem same => absurd (BitVec.eq_of_toNat_eq same) (other h mem)
  have life : t.life = s.life := by rw [taken.rest]
  have own : ∀ n, isOwn t n = isOwn s n := fun n => by simp only [isOwn, life]
  refine ⟨by simp only [TagDiscarded, slot, own], fun d a => ⟨fun ⟨names, state⟩ => ⟨?_, state⟩,
    fun ⟨names, state⟩ => ⟨?_, state⟩⟩, fun d a => by rw [taken.rest]; rfl⟩
  · exact ⟨own _ ▸ names.home, slot ▸ names.slot, names.attempt, names.number, names.entry⟩
  · exact ⟨(own _).trans names.home, slot.trans names.slot, names.attempt, names.number, names.entry⟩

/-- R53: a report taken after one tag of another slot than its own. -/
theorem TagsTaken.cons (first : TagsTaken zone [g] s t) (rest : TagsTaken zone gs t u)
    (others : ∀ h ∈ gs, h.slot ≠ g.slot) : TagsTaken zone (g :: gs) s u := by
  have keeps : ∀ h ∈ gs, _ := fun h mem => first.keeps (g := h) fun x single =>
    List.mem_singleton.mp single ▸ (others h mem).symm
  refine ⟨?_, rest.answers.trans first.answers, fun h mem d a opens => ?_, fun k past => ?_⟩
  · rw [rest.rest, first.rest]
  · rcases List.mem_cons.mp mem with rfl | later
    · exact (rest.others h.slot.toFin fun x mem same =>
        absurd (BitVec.eq_of_toNat_eq same) (others x mem)).trans (first.taken h (List.mem_singleton_self h) d a opens)
    · obtain ⟨-, names, aired⟩ := keeps h later
      rw [rest.taken h later d a ((names d a).mpr opens), aired]
  · refine (rest.others k fun h mem same => (keeps h mem).1.mpr (past h (List.mem_cons_of_mem g mem) same)).trans
      (first.others k fun h mem same => past h ?_ same)
    exact List.mem_singleton.mp mem ▸ List.mem_cons_self

/-- R53: the tags of a report, taken in order. -/
theorem takeAired_report (slots : (gs.map (·.slot)).Nodup)
    (known : ∀ g ∈ gs, TagDiscarded s g ∨ ∃ d a, TagOpens zone s g d a) :
    TagsTaken zone gs s (gs.foldl (takeAired zone) s) := by
  induction gs generalizing s with
  | nil => exact .refl zone s
  | cons g gs ih =>
    obtain ⟨new, slots⟩ := List.nodup_cons.mp slots
    have others : ∀ h ∈ gs, h.slot ≠ g.slot := fun h mem same => new (List.mem_map.mpr ⟨h, mem, same⟩)
    have first : TagsTaken zone [g] s (takeAired zone s g) := by
      rcases known g List.mem_cons_self with discarded | ⟨d, a, opens⟩
      · exact tagsTaken_of_discarded discarded
      · exact tagsTaken_of_opens opens
    refine first.cons (ih slots fun h mem => ?_) others
    obtain ⟨discarded, names, -⟩ := first.keeps (g := h) fun x single =>
      List.mem_singleton.mp single ▸ (others h mem).symm
    simp only [discarded, names]
    exact known h (List.mem_cons_of_mem g mem)

end Report

/-! ## The report -/

/-- R189: the tags of a payload. -/
theorem readAired_flatMap {gs : List Tag} (nonempty : gs ≠ []) (few : gs.length ≤ 24) :
    readAired (gs.flatMap fun g => [g.home, g.slot, g.gen, g.attempt]) = some gs := by
  have length : (gs.flatMap fun g => [g.home, g.slot, g.gen, g.attempt]).length = 4 * gs.length := by
    simp [List.length_flatMap, Nat.mul_comm]
  have tags : tagsOf (gs.flatMap fun g => [g.home, g.slot, g.gen, g.attempt]) = gs := by
    clear nonempty few length
    induction gs with
    | nil => rfl
    | cons g gs ih => exact congrArg (List.cons g) ih
  have least : 0 < gs.length := List.length_pos_iff.mpr nonempty
  rw [readAired, tags, length, if_pos (by omega)]

theorem exec_aired {offpeak : Bool} {heard : List BusChar} {f : Received} {gs : List Tag} {s : State}
    (own : hearsOwn .aired heard f s) (joined : member s = true) (nonempty : gs ≠ []) (few : gs.length ≤ 24)
    (payload : f.payload = gs.flatMap fun g => [g.home, g.slot, g.gen, g.attempt]) :
    exec (.aired offpeak heard) s = .next (gs.foldl (takeAired f.src.toNat) (withOffpeak offpeak (noted f s))) :=
  congrArg _ (takeFrame_member own joined (by rw [payload]; exact readAired_flatMap nonempty few)
    (fun f (tags : List Tag) x => tags.foldl (takeAired f.src.toNat) x) offpeak)

/-- R53: a report of one tag. -/
theorem exec_aired_one {offpeak : Bool} {heard : List BusChar} {f : Received} {g : Tag} {s : State}
    (own : hearsOwn .aired heard f s) (joined : member s = true) (payload : f.payload = [g.home, g.slot, g.gen, g.attempt]) :
    exec (.aired offpeak heard) s = .next (takeAired f.src.toNat (withOffpeak offpeak (noted f s)) g) :=
  exec_aired (gs := [g]) own joined (by simp) (by simp) payload

/-- Settles O29: one tag by its match, several by their fold. -/
theorem airedReportStartsAckWait : Obligations.AiredReportStartsAckWait := by
  unfold Obligations.AiredReportStartsAckWait
  refine ⟨fun offpeak heard f g s own joined payload => ⟨fun discarded => ?_, ?_⟩,
    fun offpeak heard f gs s own joined nonempty few payload => ⟨exec_aired own joined nonempty few payload, ?_⟩⟩
  · rw [exec_aired_one own joined payload, takeAired_of_discarded (s := withOffpeak offpeak (noted f s)) discarded]
    rfl
  · intro d a z home slot attempt number entry unresolved_ state
    have names : TagNames f.src.toNat (withOffpeak offpeak (noted f s)) g d a :=
      ⟨home, slot, attempt, number, z, entry, unresolved_⟩
    refine ⟨_, exec_aired_one own joined payload, ?_⟩
    rw [takeAired_open names state]
    refine ⟨?_, ?_, answers_freeZoneEntry _ _ _,
      fun e entry => freeZoneEntry_table (s := withOffpeak offpeak (noted f s)) entry⟩
    · rw [frame_of_outsideBus (outsideBus_freeZoneEntry (tagSlot g) f.src.toNat (withOffpeak offpeak (noted f s)))]
      rfl
    · rw [← takeAired_open names state]
      exact store_takeAired_open names state
  · rintro names discarded isNames rfl slots known
    have opens : ∀ g d a, names g d a → TagOpens f.src.toNat (withOffpeak offpeak (noted f s)) g d a := by
      subst isNames
      exact fun g d a ⟨home, slot, attempt, number, state, entry⟩ => ⟨⟨home, slot, attempt, number, entry⟩, state⟩
    have taken := takeAired_report (zone := f.src.toNat) (s := withOffpeak offpeak (noted f s)) slots fun g mem =>
      (known g mem).imp id fun ⟨d, a, names⟩ => ⟨d, a, opens g d a names⟩
    refine ⟨_, exec_aired own joined nonempty few payload, ?_, taken.answers,
      fun g mem d a names => taken.taken g mem d a (opens g d a names), taken.others⟩
    rw [taken.rest]
    rfl

/-! ## The tag that settles an acknowledged attempt (R61, R63, R115, R121) -/

/-- R61: z counts the zone that has just aired with those that had. -/
theorem airedIn_zoneSet (z : Nat) (a : Attempt) : airedIn (zoneSet z .aired a) =
    (a.zones.filter fun e => e.zone == z || e.state == .aired).length := by
  rw [airedIn, zoneSet, List.countP_map, List.countP_eq_length_filter]
  congr 2
  funext e
  by_cases zone : e.zone = z <;> simp [zone]

theorem airedIn_zoneSet_ne_zero {z : Nat} {a : Attempt} {y : ZoneEntry}
    (entry : a.zones.find? (fun e => e.zone == z) = some y) : airedIn (zoneSet z .aired a) ≠ 0 := by
  rw [airedIn_zoneSet]
  refine (List.length_pos_of_mem (List.mem_filter.mpr ⟨List.mem_of_find?_eq_some entry, ?_⟩)).ne'
  rw [List.find?_some entry, Bool.true_or]

section Acked

variable {k : Fin 256} {d : Delivery} {a : Attempt} {s : State} {r : Subscriber}

/-- R121, R125: the records of a charge: the notices of the levels crossed, LOW before HIGH, then the ATTEMPT record. -/
def chargeRecords (k : Fin 256) (d : Delivery) (a : Attempt) (s : State) (r : Subscriber) (low high : Bool) :
    List BillingRecord :=
  (if low then [watchNotice false (chargedRecord d a s r)] else [])
    ++ (if high then [watchNotice true (chargedRecord d a s r)] else [])
    ++ [attemptRecord k d a s r (chargedRecord d a s r)]

/-- R115, R120, R121: an attempt with an AIRED zone is charged. -/
theorem attemptCharged_aired (record : s.directory[d.subscriber]? = some r) (aired : airedIn a ≠ 0) {low high : Bool}
    (isLow : low = crosses (s.plans[r.plan.val]).lowWatch r.usage (chargedRecord d a s r).usage)
    (isHigh : high = crosses (s.plans[r.plan.val]).highWatch r.usage (chargedRecord d a s r).usage) :
    attemptCharged k d a s = recorded (chargeRecords k d a s r low high)
      { s with directory := s.directory.set d.subscriber (watchMarked low high (chargedRecord d a s r)) } := by
  subst isLow isHigh
  simp only [attemptCharged, record, aired, if_false]
  rfl

/-- R63, R115: the charge of an acknowledged attempt with the end of its delivery. -/
theorem endedDelivered_charged (record : s.directory[d.subscriber]? = some r) (aired : airedIn a ≠ 0) {low high : Bool}
    (isLow : low = crosses (s.plans[r.plan.val]).lowWatch r.usage (chargedRecord d a s r).usage)
    (isHigh : high = crosses (s.plans[r.plan.val]).highWatch r.usage (chargedRecord d a s r).usage) :
    endedDelivered k (deliveryCharged d a s) (attemptCharged k d a s) =
      { recorded (chargeRecords k d a s r low high) s with
        directory := s.directory.set d.subscriber
          { watchMarked low high (chargedRecord d a s r) with live := r.live - 1 },
        store := slotEnded k s.store } := by
  have length : d.subscriber < s.directory.length := (List.getElem?_eq_some_iff.mp record).1
  rw [endedDelivered, (deliveryCharged_keeps d a s).1, attemptCharged_aired record aired isLow isHigh]
  have modified := modify_eq_set (d := s.directory.set d.subscriber (watchMarked low high (chargedRecord d a s r)))
    (List.getElem?_set_self length) fun r => { r with live := r.live - 1 }
  rw [List.set_set] at modified
  exact congrArg (fun l => { recorded (chargeRecords k d a s r low high) s with
    directory := l, store := slotEnded k s.store }) modified

end Acked

/-- Settles O30: the tag settles its attempt, and the charge of an acknowledged attempt is written out. -/
theorem lastAiredTagSettlesAcked : Obligations.LastAiredTagSettlesAcked := by
  unfold Obligations.LastAiredTagSettlesAcked
  rintro offpeak heard f g d a z r p n amount usage total low high s own joined payload home slot state attempt number
    outcome entry open_ others isN record rfl isAmount isUsage isTotal isLow isHigh notice last made room isNotice isLast
    isMade isRoom
  have settles := takeAired_settles (s := withOffpeak offpeak (noted f s)) ⟨home, slot, attempt, number, z, entry, open_⟩
    state outcome others record
  have taken := exec_aired_one (offpeak := offpeak) own joined payload
  have ended := settles.acked rfl
  obtain ⟨bus, exchange, freed⟩ : ∃ b x, freeZoneEntry (tagSlot g) f.src.toNat (withOffpeak offpeak (noted f s)) =
      { s with pins := { s.pins with offpeak := offpeak }, bus := b, exchange := x } :=
    ⟨_, _, frame_of_outsideBus (outsideBus_freeZoneEntry _ _ _)⟩
  rw [freed] at ended
  generalize eq : ({ s with pins := { s.pins with offpeak := offpeak }, bus := bus, exchange := exchange } : State) = u at ended
  have count : airedIn (zoneSet f.src.toNat .aired a) = n := by rw [airedIn_zoneSet, isN]
  have charge : chargeFor r d (zoneSet f.src.toNat .aired a) u = amount := by
    rw [chargeFor, count, isAmount, ← eq]
    rfl
  have charged : chargedRecord d (zoneSet f.src.toNat .aired a) u r = { r with
      usage := usage, periodTotal := total, saturated := r.saturated || decide (4294967295 < r.periodTotal + amount) } := by
    rw [chargedRecord, addCharge, charge, count, isUsage, isTotal]
    rfl
  have gen : (u.store.slots[(tagSlot g).val]).gen = g.gen := by
    rw [← eq]
    exact congrArg Slot.gen slot
  have records : made = (chargeRecords (tagSlot g) d (zoneSet f.src.toNat .aired a) u r low high).map
      fun b => { b with offpeak := offpeak } := by
    rw [chargeRecords, charged, attemptRecord, gen, charge, count, isMade, isNotice, isLast]
    cases low <;> cases high <;> rfl
  have crossedLow : low = crosses (u.plans[r.plan.val]).lowWatch r.usage
      (chargedRecord d (zoneSet f.src.toNat .aired a) u r).usage := by
    rw [charged, ← eq]
    exact isLow
  have crossedHigh : high = crosses (u.plans[r.plan.val]).highWatch r.usage
      (chargedRecord d (zoneSet f.src.toNat .aired a) u r).usage := by
    rw [charged, ← eq]
    exact isHigh
  have found : u.directory[d.subscriber]? = some r := by
    rw [← eq]
    exact record
  rw [endedDelivered_charged found (airedIn_zoneSet_ne_zero entry) crossedLow crossedHigh, charged] at ended
  rw [ended] at taken
  subst eq
  refine ⟨_, taken, rfl, rfl, rfl, ?_, ?_⟩
  · simp only [recorded, records, List.length_map, List.mapIdx_eq_zipIdx_map, List.zipIdx_map, List.map_map, isRoom]
    rfl
  · simp only [recorded, records, List.length_map, isRoom]

end Sys2Proof.Machine
end

section
/-! What a conversion leaves of the outstanding table and of the request frames (R152, R153, R160). -/

namespace Sys2Proof.Machine

/-- R152, R160: a change of an entry that a refill can make. -/
def OnlyQueues (g : Outstanding → Outstanding) : Prop := ∀ x, g x = x ∨ g x = { x with phase := .queued }

theorem OnlyQueues.keeps {g : Outstanding → Outstanding} (h : OnlyQueues g) (x : Outstanding) :
    (g x).key = x.key ∧ (g x).owner = x.owner ∧ (g x).due = x.due := by
  rcases h x with same | queued
  · simp [same]
  · simp [queued]

theorem table_removeRequests (drop : Frame → Bool) (s : State) :
    ∃ g, OnlyQueues g ∧ (removeRequests drop s).exchange.table = s.exchange.table.map g := by
  refine ⟨_, fun x => ?_, rfl⟩
  split
  · exact .inr rfl
  · exact .inl rfl

/-- R153: a frame that is not dropped is still queued or waiting. -/
theorem mem_frames_removeRequests {drop : Frame → Bool} {s : State} {f : Frame}
    (mem : f ∈ s.bus.requests ++ s.bus.waiting) (kept : drop f = false) :
    f ∈ (removeRequests drop s).bus.requests ++ (removeRequests drop s).bus.waiting := by
  rw [removeRequests_eq, refill_frames]
  simp only [State.mapBus_bus, dropRequests]
  split
  · next head rest _ requests =>
    rw [requests] at mem
    rcases List.mem_append.mp mem with queued | waits
    · rcases List.mem_cons.mp queued with rfl | later
      · simp
      · simp [later, kept]
    · simp [waits, kept]
  · rcases List.mem_append.mp mem with queued | waits
    · simp [queued, kept]
    · simp [waits, kept]

@[simp] theorem answers_removeRequests (drop : Frame → Bool) (s : State) :
    (removeRequests drop s).bus.answers = s.bus.answers := by
  change (dropRequests drop s.bus).answers = s.bus.answers
  unfold dropRequests
  split <;> rfl

@[simp] theorem answers_joinRequests (f : Frame) (s : State) : (joinRequests f s).bus.answers = s.bus.answers := by
  rw [joinRequests_eq]
  split <;> rfl

theorem mem_frames_joinRequests {f w : Frame} {s : State} (mem : w ∈ s.bus.requests ++ s.bus.waiting) :
    w ∈ (joinRequests f s).bus.requests ++ (joinRequests f s).bus.waiting := by
  rw [joinRequests_eq]
  split
  · rcases List.mem_append.mp mem with queued | waits
    · simp [queued]
    · simp [waits]
  · rw [← List.append_assoc]
    exact List.mem_append_left _ mem

section Conversion

variable {key : EntryKey} {s : State} {e : Outstanding}

/-- R158, R160: the key that a conversion gives an entry. -/
def convertedKey (key : EntryKey) (kind : EntryKind) (s : State) : EntryKey :=
  { peer := key.peer, seq := (nextSequence s key.peer kind).1, kind := kind }

/-- R160: the entry of the key alone is replaced; a place freed in the request queue may let waiting frames join. -/
theorem convertEntry_table (found : findEntry s key = some e) (kind : EntryKind) (payload : List Byte) :
    ∃ phase g, (phase = .queued ∨ phase = .waiting) ∧ OnlyQueues g
      ∧ (convertEntry key kind payload s).exchange.table = s.exchange.table.map fun x =>
          if x.key = key then { key := convertedKey key kind s, owner := e.owner, phase := phase, due := none } else g x := by
  obtain ⟨g, queues, table⟩ := table_removeRequests (frameOf key) (takeSequence key.peer kind s)
  have table : (removeRequests (frameOf key) (takeSequence key.peer kind s)).exchange.table = s.exchange.table.map g := table
  simp only [convertEntry, found, exchange_joinRequests, mapEntry, State.mapExchange_exchange, table, List.map_map]
  refine ⟨if 0 < requestRoom (removeRequests (frameOf key) (takeSequence key.peer kind s)) then .queued else .waiting, g,
    ?_, queues, List.map_congr_left fun x _ => ?_⟩
  · split
    · exact .inl rfl
    · exact .inr rfl
  · simp only [Function.comp_apply, (queues.keeps x).1]
    rfl

/-- R153, R160: the frame of the converted entry is queued or waits, and so are those of other entries. -/
theorem convertEntry_frames (found : findEntry s key = some e) (kind : EntryKind) (payload : List Byte) :
    frameFrom s (frameKindOf kind) key.peer (convertedKey key kind s).seq payload
        ∈ (convertEntry key kind payload s).bus.requests ++ (convertEntry key kind payload s).bus.waiting
      ∧ ∀ w ∈ s.bus.requests ++ s.bus.waiting, frameOf key w = false →
        w ∈ (convertEntry key kind payload s).bus.requests ++ (convertEntry key kind payload s).bus.waiting := by
  simp only [convertEntry, found]
  exact ⟨mem_joinRequests _ _, fun w mem kept => mem_frames_joinRequests
    (mem_frames_removeRequests (s := takeSequence key.peer kind s) mem kept)⟩

@[simp] theorem answers_convertEntry (key : EntryKey) (kind : EntryKind) (payload : List Byte) (s : State) :
    (convertEntry key kind payload s).bus.answers = s.bus.answers := by
  unfold convertEntry
  split
  · rfl
  · rw [answers_joinRequests]
    exact answers_removeRequests _ _

end Conversion

end Sys2Proof.Machine
end

section
/-! The answers of a zone to the request and the withdraw of an attempt (R52, R59, R61, R160). -/

namespace Sys2Proof.Machine

/-! ## The codes (R189) -/

theorem readAirAnswer_refused (code : Byte) (low : 1 ≤ code.toNat) (high : code.toNat ≤ 3) :
    ∃ c, readAirAnswer [code] = some c ∧ c ≠ .accepted := by
  revert code
  decide

theorem readWithdrawn_known (code : Byte) (high : code.toNat ≤ 1) : (readWithdrawn [code]).isSome = true := by
  revert code
  decide

/-! ## The answer and the attempt -/

section Answers

variable {offpeak : Bool} {heard : List BusChar} {f : Received} {e : Outstanding} {k : Fin 256} {z : Nat} {y : ZoneEntry}
  {d : Delivery} {a : Attempt} {s : State}

theorem exec_airAnswer {c : AirCode} (own : hearsOwn .airAnswer heard f s) (code : readAirAnswer f.payload = some c)
    (found : findEntry s e.key = some e) (sent : e.phase = .sent) (peer : e.key.peer = f.src.toNat) (seq : e.key.seq = f.seq)
    (kind : e.key.kind = .airRequest) :
    exec (.airAnswer offpeak heard) s = .next (takeAirAnswer c e (withOffpeak offpeak (noted f s))) := by
  have taken := takeFrame_reply own code found sent peer seq takeAirAnswer offpeak
  rw [kind] at taken
  exact congrArg _ taken

theorem exec_withdrawn (own : hearsOwn .withdrawn heard f s) (code : (readWithdrawn f.payload).isSome = true)
    (found : findEntry s e.key = some e) (sent : e.phase = .sent) (peer : e.key.peer = f.src.toNat) (seq : e.key.seq = f.seq)
    (kind : e.key.kind = .withdraw) :
    exec (.withdrawn offpeak heard) s = .next (takeWithdrawn e (withOffpeak offpeak (noted f s))) := by
  obtain ⟨c, code⟩ := Option.isSome_iff_exists.mp code
  have taken := takeFrame_reply own code found sent peer seq (fun _ => takeWithdrawn) offpeak
  rw [kind] at taken
  exact congrArg _ taken

theorem zoneStateOf_eq (entry : a.zones.find? (fun x => x.zone == z) = some y) : zoneStateOf a z = some y.state := by
  rw [zoneStateOf, entry, Option.map_some]

theorem attemptAt_eq (held : deliveryAt s k = some d) (attempt : d.attempt = some a) : attemptAt s k = some a := by
  rw [attemptAt, held, Option.bind_some, attempt]

/-- R52, R160: an ACCEPTED in an open attempt. -/
theorem takeAirAnswer_open (owner : e.owner = .zone k z) (held : deliveryAt s k = some d) (attempt : d.attempt = some a)
    (entry : a.zones.find? (fun x => x.zone == z) = some y) (sent : y.state = .sent) (opens : a.outcome = none) :
    takeAirAnswer .accepted e s = mapEntry e.key (fun x => { x with phase := .held, due := none })
      (putDelivery k (deliveryZoned z .accepted d a) s) := by
  simp only [takeAirAnswer, owner, attemptAt_eq held attempt, zoneStateOf_eq entry, sent, ne_eq, not_true_eq_false, if_false,
    opens, if_true, setZone_eq held attempt]

/-- R52, R160: an ACCEPTED once the attempt has closed. -/
theorem takeAirAnswer_closed (owner : e.owner = .zone k z) (held : deliveryAt s k = some d) (attempt : d.attempt = some a)
    (entry : a.zones.find? (fun x => x.zone == z) = some y) (sent : y.state = .sent) (closed : a.outcome ≠ none) :
    takeAirAnswer .accepted e s = convertEntry e.key .withdraw (tagBytes (tagFor s k a.number))
      (putDelivery k (deliveryZoned z .withdrawing d a) s) := by
  simp only [takeAirAnswer, owner, attemptAt_eq held attempt, zoneStateOf_eq entry, sent, ne_eq, not_true_eq_false, if_false,
    closed, setZone_eq held attempt]

theorem resolveZone_freeEntry (st : ZoneState) (key : EntryKey) (held : deliveryAt s k = some d)
    (attempt : d.attempt = some a) :
    resolveZone k z st (freeEntry key s) = afterResolved k (putDelivery k (deliveryZoned z st d a) (freeEntry key s)) := by
  rw [resolveZone, setZone_eq (s := freeEntry key s) held attempt]

/-- R52: a refusal. -/
theorem takeAirAnswer_refused {c : AirCode} (refused : c ≠ .accepted) (owner : e.owner = .zone k z)
    (held : deliveryAt s k = some d) (attempt : d.attempt = some a)
    (entry : a.zones.find? (fun x => x.zone == z) = some y) (sent : y.state = .sent) :
    takeAirAnswer c e s = afterResolved k (putDelivery k (deliveryZoned z .refused d a) (freeEntry e.key s)) := by
  simp only [takeAirAnswer, owner, attemptAt_eq held attempt, zoneStateOf_eq entry, sent, ne_eq, not_true_eq_false, if_false,
    refused, not_false_eq_true, if_true]
  exact resolveZone_freeEntry .refused e.key held attempt

/-- R52: a WITHDRAWN, or the UNKNOWN to a WITHDRAW. -/
theorem takeWithdrawn_eq (owner : e.owner = .zone k z) (held : deliveryAt s k = some d) (attempt : d.attempt = some a)
    (entry : a.zones.find? (fun x => x.zone == z) = some y) (withdrawing : y.state = .withdrawing) :
    takeWithdrawn e s = afterResolved k (putDelivery k (deliveryZoned z .withdrawn d a) (freeEntry e.key s)) := by
  simp only [takeWithdrawn, owner, attemptAt_eq held attempt, Option.bind_some, zoneStateOf_eq entry, withdrawing, if_true]
  exact resolveZone_freeEntry .withdrawn e.key held attempt

/-- R59, R61: nothing follows while a zone could still air, or is still unresolved in SETTLING. -/
theorem afterResolved_zoned_open {st : ZoneState}
    (pending : d.state = .airPending → ∃ x ∈ a.zones, x.zone ≠ z ∧ couldAir x.state = true)
    (settling : d.state = .settling → ∃ x ∈ a.zones, x.zone ≠ z ∧ unresolved x.state = true) :
    afterResolved k (putDelivery k (deliveryZoned z st d a) s) = putDelivery k (deliveryZoned z st d a) s :=
  afterResolved_open rfl (fun state => exists_zoneSet (pending state)) fun state => exists_zoneSet (settling state)

theorem unresolved_of_couldAir {st : ZoneState} (airs : couldAir st = true) : unresolved st = true := by
  revert airs
  cases st <;> decide

/-- R59, R61, R62: the last zone resolved in AIR-PENDING closes the attempt MISSED and settles it. -/
theorem afterResolved_zoned_closes {st : ZoneState} {r : Subscriber} (resolved : unresolved st = false)
    (others : ∀ x ∈ a.zones, x.zone ≠ z → unresolved x.state = false) (pending : d.state = .airPending)
    (record : s.directory[d.subscriber]? = some r) :
    Settles k d (zoneSet z st a) .missed s (afterResolved k (putDelivery k (deliveryZoned z st d a) s)) :=
  (afterResolved_closes (d := deliveryZoned z st d a) rfl pending (allResolved_zoneSet resolved others) record).of_closed

/-- R61: the last zone resolved in SETTLING settles the attempt. -/
theorem afterResolved_zoned_settles {st : ZoneState} {r : Subscriber} {o : AttemptOutcome} (resolved : unresolved st = false)
    (others : ∀ x ∈ a.zones, x.zone ≠ z → unresolved x.state = false) (settling : d.state = .settling)
    (outcome : a.outcome = some o) (record : s.directory[d.subscriber]? = some r) :
    Settles k d (zoneSet z st a) o s (afterResolved k (putDelivery k (deliveryZoned z st d a) s)) :=
  (afterResolved_settles (d := deliveryZoned z st d a) rfl settling outcome (allResolved_zoneSet resolved others)
    record).of_closed

theorem busUnits_afterResolved (k : Fin 256) (s : State) : busUnits (afterResolved k s) = busUnits s := by
  simp [afterResolved]

end Answers

end Sys2Proof.Machine
end

section
/-! What an AIR-ANSWER and a WITHDRAWN make of the state (R52, R59 to R62). -/

namespace Sys2Proof.Machine

section Answered

variable {offpeak : Bool} {heard : List BusChar} {f : Received} {e : Outstanding} {k : Fin 256} {z : Nat} {st : ZoneState}
  {y : ZoneEntry} {d : Delivery} {a : Attempt} {s t : State}

/-- R52, R160: an ACCEPTED request becomes a WITHDRAW, with a frame of its own. -/
theorem convertEntry_withdraws (found : findEntry s e.key = some e) (request : e.key.kind = .airRequest)
    (payload : List Byte) : ∃ x ∈ (convertEntry e.key .withdraw payload s).exchange.table,
      x.owner = e.owner ∧ x.key.kind = .withdraw ∧ x.key.peer = e.key.peer ∧ x.due = none
      ∧ (x.phase = .queued ∨ x.phase = .waiting)
      ∧ (∀ y ∈ (convertEntry e.key .withdraw payload s).exchange.table, y.key ≠ e.key)
      ∧ ∃ w ∈ (convertEntry e.key .withdraw payload s).bus.requests
          ++ (convertEntry e.key .withdraw payload s).bus.waiting,
        w.kind = .withdraw ∧ w.dest = BitVec.ofNat 8 e.key.peer ∧ w.seq = x.key.seq ∧ w.payload = payload := by
  obtain ⟨phase, g, queued, queues, table⟩ := convertEntry_table found .withdraw payload
  obtain ⟨frame, -⟩ := convertEntry_frames found .withdraw payload
  refine ⟨{ key := convertedKey e.key .withdraw s, owner := e.owner, phase := phase, due := none }, ?_, rfl, rfl, rfl, rfl,
    queued, ?_, _, frame, rfl, rfl, rfl, rfl⟩
  · rw [table]
    exact List.mem_map.mpr ⟨e, (findEntry_some found).1, if_pos rfl⟩
  · rw [table]
    intro x mem
    obtain ⟨w, -, rfl⟩ := List.mem_map.mp mem
    split
    · exact fun same => by simpa [convertedKey, request] using congrArg EntryKey.kind same
    · next other => rwa [(queues.keeps w).1]

/-- R52: the state after an answer that changes a zone of the delivery in slot `k` and leaves its attempt open. -/
structure ZoneAnswered (offpeak : Bool) (k : Fin 256) (z : Nat) (st : ZoneState) (d : Delivery) (a : Attempt) (s t : State) :
    Prop where
  frame : t = { s with pins := { s.pins with offpeak := offpeak }, store := t.store, bus := t.bus, exchange := t.exchange }
  store : t.store = { s.store with
    slots := s.store.slots.set k.val { gen := (s.store.slots[k.val]).gen, held := some (deliveryZoned z st d a) } }

theorem zoneAnswered_of_outsideBus
    (same : outsideBus t = outsideBus (putDelivery k (deliveryZoned z st d a) (withOffpeak offpeak (noted f s)))) :
    ZoneAnswered offpeak k z st d a s t := by
  rw [frame_of_outsideBus same]
  exact ⟨rfl, rfl⟩

/-- R52: an answer that frees its entry, with what it does to the zone's delivery. -/
theorem zoneAnswered_freeEntry (key : EntryKey) :
    ZoneAnswered offpeak k z st d a s
      (putDelivery k (deliveryZoned z st d a) (freeEntry key (withOffpeak offpeak (noted f s)))) := by
  refine zoneAnswered_of_outsideBus (f := f) ?_
  rw [frame_of_outsideBus (outsideBus_freeEntry key (withOffpeak offpeak (noted f s)))]
  rfl

theorem directory_answered {i : Nat} {r : Subscriber} (key : EntryKey) (record : s.directory[i]? = some r) :
    (freeEntry key (withOffpeak offpeak (noted f s))).directory[i]? = some r := by
  rw [frame_of_outsideBus (outsideBus_freeEntry key (withOffpeak offpeak (noted f s)))]
  exact record

/-- R61: the settlement with the frame of the answer that brought it. -/
theorem settles_afterResolved {a' : Attempt} {o : AttemptOutcome} (key : EntryKey)
    (settles : Settles k d a' o (freeEntry key (withOffpeak offpeak (noted f s)))
      (afterResolved k (putDelivery k (deliveryZoned z st d a) (freeEntry key (withOffpeak offpeak (noted f s)))))) :
    ∃ t, t = afterResolved k (putDelivery k (deliveryZoned z st d a) (freeEntry key (withOffpeak offpeak (noted f s))))
      ∧ (∀ x ∈ t.exchange.table, x.key ≠ key)
      ∧ Settles k d a' o
        { s with pins := { s.pins with offpeak := offpeak }, bus := t.bus, exchange := t.exchange } t := by
  have units := busUnits_afterResolved k
    (putDelivery k (deliveryZoned z st d a) (freeEntry key (withOffpeak offpeak (noted f s))))
  obtain ⟨bus, exchange⟩ := Prod.mk.inj units
  refine ⟨_, rfl, ?_, ?_⟩
  · rw [exchange]
    exact freeEntry_table key (withOffpeak offpeak (noted f s))
  · rw [bus, exchange]
    rw [frame_of_outsideBus (outsideBus_freeEntry key (withOffpeak offpeak (noted f s)))] at settles ⊢
    exact settles

end Answered

/-- Settles O34: each answer by its effect on the zone's entry, and then by what the zones left bring about. -/
theorem zoneAnswersResolveEntries : Obligations.ZoneAnswersResolveEntries := by
  unfold Obligations.ZoneAnswersResolveEntries
  rintro offpeak heard f code e k d a z st s payload sent peer seq found owner held attempt entry zoneNow isNow lastOne
    settlesBy isLast rfl
  have now : ∀ {t}, ZoneAnswered offpeak k z.zone st d a s t → zoneNow t := fun h => isNow ▸ ⟨h.frame, h.store⟩
  refine ⟨fun own kind state => ⟨?_, ?_, ?_, ?_⟩, ?_, ?_⟩
  · rintro rfl opens rfl
    have code : readAirAnswer f.payload = some .accepted := payload ▸ rfl
    refine ⟨_, exec_airAnswer own code found sent peer seq kind, ?_⟩
    rw [takeAirAnswer_open owner (s := withOffpeak offpeak (noted f s)) held attempt entry state opens]
    exact ⟨now ⟨rfl, rfl⟩, rfl⟩
  · rintro rfl closed rfl sound
    have code : readAirAnswer f.payload = some .accepted := payload ▸ rfl
    have entryFound : findEntry (putDelivery k (deliveryZoned z.zone .withdrawing d a)
        (withOffpeak offpeak (noted f s))) e.key = some e := found
    have taken := exec_airAnswer (offpeak := offpeak) own code found sent peer seq kind
    rw [takeAirAnswer_closed owner (s := withOffpeak offpeak (noted f s)) held attempt entry state closed] at taken
    obtain ⟨x, mem, withdraws⟩ :=
      convertEntry_withdraws entryFound kind (tagBytes (tagFor (withOffpeak offpeak (noted f s)) k a.number))
    rw [peer, BitVec.ofNat_toNat, BitVec.setWidth_eq, ← peer] at withdraws
    exact ⟨_, x, taken, now (zoneAnswered_of_outsideBus (outsideBus_convertEntry _ _ _ _)), length_convertEntry _ _ _ _, mem,
      withdraws⟩
  · rintro low high rfl ⟨w, mem, other, airs⟩
    obtain ⟨c, code, refused⟩ := readAirAnswer_refused code low high
    refine ⟨_, exec_airAnswer own (payload ▸ code) found sent peer seq kind, ?_⟩
    rw [takeAirAnswer_refused refused owner (s := withOffpeak offpeak (noted f s)) held attempt entry state,
      afterResolved_zoned_open (fun _ => ⟨w, mem, other, airs⟩) fun _ => ⟨w, mem, other, unresolved_of_couldAir airs⟩]
    exact ⟨now (zoneAnswered_freeEntry e.key), freeEntry_table e.key (withOffpeak offpeak (noted f s))⟩
  · rintro low high rfl last
    obtain ⟨record, others⟩ := isLast.mp last
    obtain ⟨r, record⟩ := Option.isSome_iff_exists.mp record
    obtain ⟨c, code, refused⟩ := readAirAnswer_refused code low high
    have taken := exec_airAnswer (offpeak := offpeak) own (payload ▸ code) found sent peer seq kind
    rw [takeAirAnswer_refused refused owner (s := withOffpeak offpeak (noted f s)) held attempt entry state] at taken
    have record := directory_answered (offpeak := offpeak) (f := f) e.key record
    refine ⟨fun pending => ?_, fun o settling outcome => ?_⟩
    · obtain ⟨t, rfl, freed, settles⟩ :=
        settles_afterResolved e.key (afterResolved_zoned_closes (st := .refused) rfl others pending record)
      exact ⟨_, taken, freed, settles⟩
    · obtain ⟨t, rfl, freed, settles⟩ :=
        settles_afterResolved e.key (afterResolved_zoned_settles (st := .refused) rfl others settling outcome record)
      exact ⟨_, taken, freed, settles⟩
  · rintro own kind state known rfl last o settling outcome
    obtain ⟨record, others⟩ := isLast.mp last
    obtain ⟨r, record⟩ := Option.isSome_iff_exists.mp record
    have taken := exec_withdrawn (offpeak := offpeak) own (payload ▸ readWithdrawn_known code known) found sent peer seq kind
    rw [takeWithdrawn_eq owner (s := withOffpeak offpeak (noted f s)) held attempt entry state] at taken
    have record := directory_answered (offpeak := offpeak) (f := f) e.key record
    obtain ⟨t, rfl, freed, settles⟩ :=
      settles_afterResolved e.key (afterResolved_zoned_settles (st := .withdrawn) rfl others settling outcome record)
    exact ⟨_, taken, freed, settles⟩
  · rintro own kind state known rfl open_ settling
    refine ⟨_, exec_withdrawn own (payload ▸ readWithdrawn_known code known) found sent peer seq kind, ?_⟩
    rw [takeWithdrawn_eq owner (s := withOffpeak offpeak (noted f s)) held attempt entry state,
      afterResolved_zoned_open (fun pending => by simp [settling] at pending) fun _ => open_]
    exact ⟨now (zoneAnswered_freeEntry e.key), freeEntry_table e.key (withOffpeak offpeak (noted f s))⟩

end Sys2Proof.Machine
end

section
/-! The close of an attempt: the zones in ACCEPTED withdrawn (R54, R56, R60, R61). -/

namespace Sys2Proof.Machine

/-! ## The table after a conversion, its keys distinct (R158) -/

section Converted

variable {e x : Outstanding} {s : State}

theorem eq_of_key (keys : (s.exchange.table.map (·.key)).Nodup) (mem : x ∈ s.exchange.table) (also : e ∈ s.exchange.table)
    (same : x.key = e.key) : x = e :=
  List.inj_on_of_nodup_map keys mem also same

/-- R160: a conversion keeps every entry's owner, and the key and timer of every entry but the one converted. -/
theorem convertEntry_keeps (keys : (s.exchange.table.map (·.key)).Nodup) (also : e ∈ s.exchange.table) (kind : EntryKind)
    (payload : List Byte) : ∃ h : Outstanding → Outstanding,
      (convertEntry e.key kind payload s).exchange.table = s.exchange.table.map h
      ∧ (∀ x ∈ s.exchange.table, (h x).owner = x.owner)
      ∧ (∀ x, x.key ≠ e.key → (h x).key = x.key ∧ (h x).due = x.due) ∧ (h e).key = convertedKey e.key kind s
      ∧ (h e).due = none := by
  obtain ⟨phase, g, -, queues, table⟩ := convertEntry_table (findEntry_of_mem keys also) kind payload
  refine ⟨_, table, fun x mem => ?_, fun x other => ?_, by simp, by simp⟩
  · split
    · next same => rw [eq_of_key keys mem also same]
    · exact (queues.keeps x).2.1
  · rw [if_neg other]
    exact ⟨(queues.keeps x).1, (queues.keeps x).2.2⟩

/-- R158: the key of a conversion is a new one. -/
theorem nodup_convertEntry (keys : (s.exchange.table.map (·.key)).Nodup) (few : s.exchange.table.length < 255)
    (also : e ∈ s.exchange.table) (kind : EntryKind) (payload : List Byte) :
    ((convertEntry e.key kind payload s).exchange.table.map (·.key)).Nodup := by
  obtain ⟨h, table, -, others, converted, -⟩ := convertEntry_keeps keys also kind payload
  have fresh : ∀ x ∈ s.exchange.table, x.key ≠ convertedKey e.key kind s := nextSequence_free few e.key.peer kind
  rw [table, List.map_map]
  refine List.Nodup.map_on (fun x hx y hy same => ?_) (List.Nodup.of_map _ keys)
  simp only [Function.comp_apply] at same
  by_cases first : x.key = e.key <;> by_cases second : y.key = e.key
  · rw [eq_of_key keys hx also first, eq_of_key keys hy also second]
  · rw [eq_of_key keys hx also first, converted, (others y second).1] at same
    exact absurd same.symm (fresh y hy)
  · rw [eq_of_key keys hy also second, converted, (others x first).1] at same
    exact absurd same (fresh x hx)
  · rw [(others x first).1, (others y second).1] at same
    exact eq_of_key keys hx hy same

/-- R51: a conversion leaves the entry that serves another zone. -/
theorem entryOfZone_convertEntry {k : Fin 256} {z : Nat} (keys : (s.exchange.table.map (·.key)).Nodup)
    (also : e ∈ s.exchange.table) (entry : entryOfZone s k z = some x) (other : e.owner ≠ .zone k z) (kind : EntryKind)
    (payload : List Byte) : ∃ y, entryOfZone (convertEntry e.key kind payload s) k z = some y ∧ y.key = x.key := by
  obtain ⟨h, table, owners, others, -⟩ := convertEntry_keeps keys also kind payload
  have mem : x ∈ s.exchange.table := List.mem_of_find?_eq_some entry
  have owner : x.owner = .zone k z := by simpa using List.find?_some entry
  have key : x.key ≠ e.key := fun same => other (eq_of_key keys mem also same ▸ owner)
  refine ⟨h x, ?_, (others x key).1⟩
  have same : s.exchange.table.find? ((fun y => y.owner == Owner.zone k z) ∘ h) = some x := by
    rw [← entry]
    exact List.find?_congr fun y hy => by rw [Function.comp_apply, owners y hy]
  rw [entryOfZone, table, List.find?_map, same]
  rfl

end Converted

/-! ## One zone withdrawn -/

section Withdraws

variable {k : Fin 256} {g : Tag} {z : Nat} {zs : List Nat} {d : Delivery} {a : Attempt} {s t u : State}

/-- R54, R60: the state that a zone in ACCEPTED takes when its attempt closes. -/
def withdrawnTo (s : State) (g : Tag) (z : Nat) : ZoneState :=
  if isOwn s z = false then .withdrawing
  else if (findAir s g).all (fun x => x.state == .queued) then .withdrawn
  else .withdrawing

/-- R60: the attempt with its entries for some zones withdrawn. -/
def zonesWithdrawn (s : State) (g : Tag) (zs : List Nat) (a : Attempt) : Attempt :=
  { a with zones := a.zones.map fun e => if e.zone ∈ zs then { e with state := withdrawnTo s g e.zone } else e }

theorem zonesWithdrawn_nil (s : State) (g : Tag) (a : Attempt) : zonesWithdrawn s g [] a = a := by
  simp [zonesWithdrawn]

theorem zoneSet_zonesWithdrawn (s : State) (g : Tag) (zs : List Nat) (z : Nat) (a : Attempt) :
    zoneSet z (withdrawnTo s g z) (zonesWithdrawn s g zs a) = zonesWithdrawn s g (zs ++ [z]) a := by
  simp only [zoneSet, zonesWithdrawn, List.map_map]
  congr 2
  funext e
  by_cases this : e.zone = z <;> by_cases before : e.zone ∈ zs <;> simp_all

/-- A configured station has one number. -/
theorem isOwn_unique {m n : Nat} (own : isOwn s m = true) (also : isOwn s n = true) : m = n := by
  unfold isOwn at own also
  split at own
  · simp_all
  · cases own

theorem withdrawal_deferred_iff :
    withdrawal g s = .deferred ↔ (findAir s g).all (fun x => x.state == .queued) = false := by
  unfold withdrawal
  split
  · next unknown => simp [unknown]
  · next e found => by_cases queued : e.state = .queued <;> simp [found, queued]

theorem withdrawAir_own (g : Tag) (s : State) :
    withdrawAir g { station := ownNumber s, seq := 0 } s = { s with air := airWithdrawn g s } := by
  unfold withdrawAir withdrawal airWithdrawn
  cases found : findAir s g with
  | none => rfl
  | some e =>
    by_cases queued : e.state = .queued
    · simp only [queued, if_true]
      rfl
    · simp only [queued, if_false]
      rfl

/-- R54: the own zone is withdrawn directly. -/
theorem withdrawZone_own (own : isOwn s z = true) (attempt : d.attempt = some a) :
    withdrawZone k g z (putDelivery k d s) =
      putDelivery k (deliveryZoned z (withdrawnTo s g z) d a) { s with air := airWithdrawn g s } := by
  have own' : isOwn (putDelivery k d s) z = true := own
  have held : deliveryAt (putDelivery k d { s with air := airWithdrawn g s }) k = some d := deliveryAt_putDelivery _ _ _
  have air : withdrawAir g { station := ownNumber (putDelivery k d s), seq := 0 } (putDelivery k d s) =
      putDelivery k d { s with air := airWithdrawn g s } := withdrawAir_own g (putDelivery k d s)
  have state : (if withdrawal g (putDelivery k d s) = .deferred then ZoneState.withdrawing else .withdrawn) =
      withdrawnTo s g z := by
    have same : withdrawal g (putDelivery k d s) = withdrawal g s := rfl
    rw [same, withdrawnTo, own]
    cases all : (findAir s g).all (fun x => x.state == .queued) <;> simp [withdrawal_deferred_iff, all]
  rw [withdrawZone, if_pos own', withdrawOwn, air, state, setZone_eq held attempt, putDelivery_putDelivery]

theorem joinRequests_putDelivery (f : Frame) (k : Fin 256) (d : Delivery) (s : State) :
    joinRequests f (putDelivery k d s) = putDelivery k d (joinRequests f s) := by
  rw [joinRequests, joinRequests, apply_ite (putDelivery k d)]
  rfl

theorem convertEntry_putDelivery (key : EntryKey) (kind : EntryKind) (payload : List Byte) (k : Fin 256) (d : Delivery)
    (s : State) : convertEntry key kind payload (putDelivery k d s) = putDelivery k d (convertEntry key kind payload s) := by
  have same : findEntry (putDelivery k d s) key = findEntry s key := rfl
  unfold convertEntry
  rw [same]
  split
  · rfl
  · refine Eq.trans ?_ (joinRequests_putDelivery _ k d _)
    rfl

/-- R60, R160: the entry of a remote zone becomes a WITHDRAW. -/
theorem withdrawZone_remote {e : Outstanding} (remote : isOwn s z = false) (attempt : d.attempt = some a)
    (entry : entryOfZone s k z = some e) :
    withdrawZone k g z (putDelivery k d s) = putDelivery k (deliveryZoned z (withdrawnTo s g z) d a)
      (convertEntry e.key .withdraw (tagBytes g) s) := by
  have remote' : ¬ isOwn (putDelivery k d s) z = true := by
    rw [show isOwn (putDelivery k d s) z = isOwn s z from rfl, remote]
    exact Bool.false_ne_true
  have entry' : entryOfZone (putDelivery k d s) k z = some e := entry
  have state : withdrawnTo s g z = .withdrawing := by simp [withdrawnTo, remote]
  simp only [withdrawZone, if_neg remote', withdrawRemote, entry']
  rw [setZone_eq (deliveryAt_putDelivery k d s) attempt, putDelivery_putDelivery, convertEntry_putDelivery, state]

/-! ## The zones withdrawn in turn -/

/-- R160: the entry of a zone has become a WITHDRAW, and its frame is queued or waits. -/
def WithdrawMade (k : Fin 256) (g : Tag) (z : Nat) (peer : Nat) (u : State) : Prop :=
  ∃ y ∈ u.exchange.table, y.owner = .zone k z ∧ y.key.peer = peer ∧ y.key.kind = .withdraw ∧ y.due = none
    ∧ ∃ f ∈ u.bus.requests ++ u.bus.waiting, f.kind = .withdraw ∧ f.dest = BitVec.ofNat 8 peer ∧ f.seq = y.key.seq
      ∧ f.payload = tagBytes g

/-- R54, R60: some zones of the delivery in slot `k` have been withdrawn, which has changed `s` to `u`. -/
structure Withdrawn (k : Fin 256) (g : Tag) (zs : List Nat) (s u : State) : Prop where
  rest : u = { s with air := u.air, bus := u.bus, exchange := u.exchange }
  air : u.air = if zs.any (isOwn s) then airWithdrawn g s else s.air
  keys : (u.exchange.table.map (·.key)).Nodup
  entries : u.exchange.table.length = s.exchange.table.length
  answers : u.bus.answers = s.bus.answers
  served : ∀ z ∉ zs, ∀ x, entryOfZone s k z = some x → ∃ y, entryOfZone u k z = some y ∧ y.key = x.key
  made : ∀ z ∈ zs, isOwn s z = false → ∀ x, entryOfZone s k z = some x → WithdrawMade k g z x.key.peer u

theorem Withdrawn.refl (k : Fin 256) (g : Tag) (keys : (s.exchange.table.map (·.key)).Nodup) : Withdrawn k g [] s s :=
  ⟨rfl, rfl, keys, rfl, rfl, fun _ _ x entry => ⟨x, entry, rfl⟩, by simp⟩

theorem Withdrawn.isOwn (h : Withdrawn k g zs s u) (z : Nat) : isOwn u z = isOwn s z := by
  rw [h.rest]
  rfl

theorem Withdrawn.own (h : Withdrawn k g zs s u) (new : z ∉ zs) (own : Machine.isOwn s z = true) :
    u.air = s.air ∧ Withdrawn k g (zs ++ [z]) s { u with air := airWithdrawn g u } := by
  have first : zs.any (Machine.isOwn s) = false :=
    List.any_eq_false.mpr fun y mem also => new (isOwn_unique own also ▸ mem)
  have same : u.air = s.air := by rw [h.air, first]; rfl
  refine ⟨same, ?_, ?_, h.keys, h.entries, h.answers,
    fun y other => h.served y fun mem => other (List.mem_append_left _ mem), fun y mem remote => h.made y ?_ remote⟩
  · rw [h.rest]
  · have any : (zs ++ [z]).any (Machine.isOwn s) = true := by simp [own]
    rw [any, h.rest, same]
    rfl
  · rcases List.mem_append.mp mem with before | now
    · exact before
    · rw [List.mem_singleton.mp now, own] at remote
      cases remote

/-- R160: a WITHDRAW that has been made stays when the request of another entry becomes one. -/
theorem WithdrawMade.convertEntry {peer : Nat} {e : Outstanding} (made : WithdrawMade k g z peer u)
    (keys : (u.exchange.table.map (·.key)).Nodup) (also : e ∈ u.exchange.table) (request : e.key.kind = .airRequest) :
    WithdrawMade k g z peer (convertEntry e.key .withdraw (tagBytes g) u) := by
  obtain ⟨y, mem, owner, peer, kind, due, f, queued, frame, rest⟩ := made
  obtain ⟨h, table, owners, others, -⟩ := convertEntry_keeps keys also .withdraw (tagBytes g)
  have other : y.key ≠ e.key := fun same => by rw [same, request] at kind; cases kind
  have kept : frameOf e.key f = false := by simp [frameOf, request, frame, frameKindOf]
  obtain ⟨key, timer⟩ := others y other
  refine ⟨h y, table ▸ List.mem_map_of_mem mem, (owners y mem).trans owner, key ▸ peer, key ▸ kind, timer ▸ due, f,
    (convertEntry_frames (findEntry_of_mem keys also) .withdraw (tagBytes g)).2 f queued kept, frame, key ▸ rest⟩

/-- R160: the conversion of a zone's request makes its WITHDRAW. -/
theorem withdrawMade_convertEntry {e : Outstanding} (keys : (u.exchange.table.map (·.key)).Nodup)
    (entry : entryOfZone u k z = some e) :
    WithdrawMade k g z e.key.peer (convertEntry e.key .withdraw (tagBytes g) u) := by
  have mem : e ∈ u.exchange.table := List.mem_of_find?_eq_some entry
  have owner : e.owner = .zone k z := by simpa using List.find?_some entry
  obtain ⟨h, table, owners, -, converted, due⟩ := convertEntry_keeps keys mem .withdraw (tagBytes g)
  exact ⟨h e, table ▸ List.mem_map_of_mem mem, (owners e mem).trans owner, by rw [converted]; rfl, by rw [converted]; rfl,
    due, _, (convertEntry_frames (findEntry_of_mem keys mem) .withdraw (tagBytes g)).1, rfl, rfl, by rw [converted]; rfl, rfl⟩

theorem Withdrawn.remote {x : Outstanding} (h : Withdrawn k g zs s u) (few : s.exchange.table.length ≤ 96) (new : z ∉ zs)
    (remote : Machine.isOwn s z = false) (entry : entryOfZone s k z = some x) (request : x.key.kind = .airRequest) :
    ∃ e, entryOfZone u k z = some e ∧ Withdrawn k g (zs ++ [z]) s (convertEntry e.key .withdraw (tagBytes g) u) := by
  obtain ⟨e, serves, key⟩ := h.served z new x entry
  have mem : e ∈ u.exchange.table := List.mem_of_find?_eq_some serves
  have owner : e.owner = .zone k z := by simpa using List.find?_some serves
  have frame := frame_of_outsideBus (outsideBus_convertEntry e.key .withdraw (tagBytes g) u)
  have air : (convertEntry e.key .withdraw (tagBytes g) u).air = u.air := by rw [frame]
  have any : (zs ++ [z]).any (Machine.isOwn s) = zs.any (Machine.isOwn s) := by simp [remote]
  refine ⟨e, serves, ?_, ?_, nodup_convertEntry h.keys (by rw [h.entries]; omega) mem .withdraw _,
    (length_convertEntry _ _ _ u).trans h.entries, (answers_convertEntry _ _ _ u).trans h.answers, fun y other x entry => ?_,
    fun y among far x entry' => ?_⟩
  · rw [frame, h.rest]
  · rw [air, any, h.air]
  · obtain ⟨before, now⟩ := not_or.mp (mt List.mem_append.mpr other)
    obtain ⟨w, serves, same⟩ := h.served y before x entry
    obtain ⟨w', serves', same'⟩ := entryOfZone_convertEntry h.keys mem serves
      (by rw [owner]; simpa [eq_comm] using now) .withdraw (tagBytes g)
    exact ⟨w', serves', same'.trans same⟩
  · rcases List.mem_append.mp among with before | now
    · exact (h.made y before far x entry').convertEntry h.keys mem (key ▸ request)
    · obtain rfl := List.mem_singleton.mp now
      obtain rfl := Option.some.inj (entry.symm.trans entry')
      exact key ▸ withdrawMade_convertEntry h.keys serves

/-- R60: the zones of a list are withdrawn in turn, each in the state that the ones before have left. -/
theorem withdrawZones (sound : TableSound s.exchange.table) (zones : zs.Nodup)
    (held : ∀ z ∈ zs, Machine.isOwn s z = false → ∃ x, entryOfZone s k z = some x ∧ x.key.kind = .airRequest)
    (attempt : d.attempt = some a) :
    ∃ u, Withdrawn k g zs s u ∧ zs.foldl (fun t z => withdrawZone k g z t) (putDelivery k d s) =
      putDelivery k { d with attempt := some (zonesWithdrawn s g zs a) } u := by
  induction zs using List.reverseRecOn with
  | nil => exact ⟨s, .refl k g sound.2, by rw [zonesWithdrawn_nil, ← attempt]; rfl⟩
  | append_singleton zs z ih =>
    obtain ⟨before, -, distinct⟩ := List.nodup_append.mp zones
    have new : z ∉ zs := fun mem => distinct z mem z (List.mem_singleton_self z) rfl
    obtain ⟨u, withdrawn, fold⟩ := ih before fun y mem => held y (List.mem_append_left _ mem)
    have number : isOwn u z = isOwn s z := withdrawn.isOwn z
    rw [List.foldl_concat, fold]
    cases own : isOwn s z with
    | true =>
      obtain ⟨air, next⟩ := withdrawn.own new own
      refine ⟨_, next, ?_⟩
      have state : withdrawnTo u g z = withdrawnTo s g z := by rw [withdrawnTo, withdrawnTo, number, findAir, findAir, air]
      rw [withdrawZone_own (number.trans own) rfl, state, deliveryZoned, zoneSet_zonesWithdrawn]
    | false =>
      obtain ⟨x, entry, request⟩ := held z (List.mem_append_right _ (List.mem_singleton_self z)) own
      obtain ⟨e, serves, next⟩ := withdrawn.remote sound.1 new own entry request
      refine ⟨_, next, ?_⟩
      have state : withdrawnTo u g z = withdrawnTo s g z := by simp [withdrawnTo, number, own]
      rw [withdrawZone_remote (number.trans own) rfl serves, state, deliveryZoned, zoneSet_zonesWithdrawn]

end Withdraws

/-! ## The close -/

section Close

variable {k : Fin 256} {z : Nat} {d : Delivery} {a : Attempt} {o : AttemptOutcome} {s t : State} {r : Subscriber}

theorem mem_acceptedZones_iff (zones : (a.zones.map (·.zone)).Nodup) {e : ZoneEntry} (mem : e ∈ a.zones) :
    e.zone ∈ acceptedZones a ↔ e.state = .accepted := by
  simp only [acceptedZones, List.mem_map, List.mem_filter, beq_iff_eq]
  constructor
  · rintro ⟨x, ⟨among, accepted⟩, same⟩
    exact List.inj_on_of_nodup_map zones among mem same ▸ accepted
  · exact fun accepted => ⟨e, ⟨mem, accepted⟩, rfl⟩

theorem nodup_acceptedZones (zones : (a.zones.map (·.zone)).Nodup) : (acceptedZones a).Nodup :=
  zones.sublist (List.filter_sublist.map _)

theorem mem_acceptedZones : z ∈ acceptedZones a ↔ ∃ e ∈ a.zones, e.state = .accepted ∧ e.zone = z := by
  simp [acceptedZones, and_assoc]

/-- R60: the zones in ACCEPTED are withdrawn, the others stay. -/
theorem zones_withdrawn (zones : (a.zones.map (·.zone)).Nodup) (s : State) (g : Tag) :
    (zonesWithdrawn s g (acceptedZones a) a).zones =
      a.zones.map fun e => if e.state = .accepted then { e with state := withdrawnTo s g e.zone } else e :=
  List.map_congr_left fun e mem => by simp only [mem_acceptedZones_iff zones mem]

/-- R56, R60: the close with the zones that hold the request withdrawn, before what it settles. -/
theorem closeAttempt_putDelivery (attempt : d.attempt = some a) (o : AttemptOutcome) :
    closeAttempt k o (putDelivery k d s) = settleIfResolved k ((acceptedZones a).foldl
      (fun t z => withdrawZone k (tagFor s k a.number) z t) (putDelivery k (closedDelivery o d a) s)) := by
  have current : attemptAt (putDelivery k d s) k = some a := attemptAt_eq (deliveryAt_putDelivery k d s) attempt
  have tag : tagFor (putDelivery k d s) k a.number = tagFor s k a.number := by
    rw [tagFor, slotAt_putDelivery]
    rfl
  simp only [closeAttempt, current, tag, mapDelivery_putDelivery, attempt]
  rfl

/-- R56, R60, R61: a close that leaves a zone unresolved. -/
theorem closeAttempt_waits (waits : CloseWaits k a s) (attempt : d.attempt = some a) (o : AttemptOutcome) :
    ClosesAttempt k d a o s (closeAttempt k o (putDelivery k d s)) := by
  obtain ⟨sound, zones, held, open_⟩ := waits
  have requests : ∀ z ∈ acceptedZones a, isOwn s z = false →
      ∃ x, entryOfZone s k z = some x ∧ x.key.kind = .airRequest := by
    intro z mem remote
    obtain ⟨e, among, accepted, rfl⟩ := mem_acceptedZones.mp mem
    exact held e among accepted remote
  obtain ⟨u, withdrawn, fold⟩ := withdrawZones (g := tagFor s k a.number) (d := closedDelivery o d a) sound
    (nodup_acceptedZones zones) requests rfl
  have after : (zonesWithdrawn s (tagFor s k a.number) (acceptedZones a) (closedAs o a)).zones = _ :=
    zones_withdrawn zones s _
  have waits : ∃ e ∈ (zonesWithdrawn s (tagFor s k a.number) (acceptedZones a) (closedAs o a)).zones,
      unresolved e.state = true := by
    rw [after]
    obtain ⟨e, mem, state⟩ := open_
    refine ⟨_, List.mem_map_of_mem mem, ?_⟩
    rcases state with sent | withdrawing | ⟨accepted, remote⟩
    · simp [sent, unresolved]
    · simp [withdrawing, unresolved]
    · simp [accepted, withdrawnTo, remote, unresolved]
  rw [closeAttempt_putDelivery attempt, fold, settleIfResolved_open (by rfl) fun _ => waits]
  have air := withdrawn.air
  have rest := withdrawn.rest
  have store : u.store = s.store := by rw [rest]
  refine ⟨?_, fun e mem accepted remote x entry => ?_, withdrawn.entries, withdrawn.answers, fun e mem accepted own => ?_,
    fun remote => ?_, ?_⟩
  · rintro closed isClosed
    have entries : (zonesWithdrawn s (tagFor s k a.number) (acceptedZones a) (closedAs o a)).zones = a.zones.map closed := by
      refine after.trans (List.map_congr_left fun e _ => ?_)
      rw [isClosed]
      by_cases accepted : e.state = .accepted
      · simp only [accepted, if_true, ne_eq, not_true_eq_false, if_false, withdrawnTo]
        split
        · rfl
        · split <;> rfl
      · simp only [accepted, if_false, ne_eq, not_false_eq_true, if_true]
    rw [← entries, ← store]
    rfl
  · exact withdrawn.made e.zone ((mem_acceptedZones_iff zones mem).mpr accepted) remote x entry
  · have any : (acceptedZones a).any (isOwn s) = true :=
      List.any_eq_true.mpr ⟨e.zone, (mem_acceptedZones_iff zones mem).mpr accepted, own⟩
    rwa [any] at air
  · have any : (acceptedZones a).any (isOwn s) = false := by
      refine List.any_eq_false.mpr fun z mem => ?_
      obtain ⟨e, among, accepted, rfl⟩ := mem_acceptedZones.mp mem
      simp [remote e among accepted]
    rwa [any] at air
  · rw [rest]
    rfl

/-- R61: what the settling rests on of an attempt is its number and the count of its AIRED zones. -/
theorem Settles.of_aired {a' : Attempt} (h : Settles k d a' o s t) (aired : airedIn a' = airedIn a)
    (number : a'.number = a.number) : Settles k d a o s t := by
  have charge : ∀ r, chargeFor r d a' s = chargeFor r d a s := fun r => by rw [chargeFor, chargeFor, aired, number]
  have delivery : deliveryCharged d a' s = deliveryCharged d a s := by
    unfold deliveryCharged
    simp only [aired, number, charge]
  have state : attemptCharged k d a' s = attemptCharged k d a s := by
    unfold attemptCharged
    simp only [aired, number, charge]
  obtain ⟨acked, expired, retried⟩ := h
  rw [delivery, state] at acked expired retried
  exact ⟨acked, expired, retried⟩

theorem airedIn_zonesWithdrawn (zones : (a.zones.map (·.zone)).Nodup) (s : State) (g : Tag) :
    airedIn (zonesWithdrawn s g (acceptedZones a) a) = airedIn a := by
  have never : ∀ z, withdrawnTo s g z ≠ .aired := fun z => by
    unfold withdrawnTo
    split
    · decide
    · split <;> decide
  rw [airedIn, airedIn, zones_withdrawn zones, List.countP_map]
  refine List.countP_congr fun e _ => ?_
  by_cases accepted : e.state = .accepted
  · simp [accepted, never]
  · simp [accepted]

/-- R60: at most the own zone of a closed attempt is withdrawn at once. -/
theorem acceptedZones_own (zones : (a.zones.map (·.zone)).Nodup)
    (own : ∀ z ∈ acceptedZones a, isOwn s z = true) :
    acceptedZones a = [] ∨ ∃ z, acceptedZones a = [z] ∧ isOwn s z = true := by
  have distinct := nodup_acceptedZones zones
  match eq : acceptedZones a with
  | [] => exact .inl rfl
  | [z] => exact .inr ⟨z, rfl, own z (eq ▸ List.mem_singleton_self z)⟩
  | y :: z :: rest =>
    rw [eq] at own distinct
    have same := isOwn_unique (own y (by simp)) (own z (by simp))
    simp [same] at distinct

theorem any_accepted (a : Attempt) : a.zones.any (fun z => z.state == ZoneState.accepted) = !(acceptedZones a).isEmpty := by
  rw [Bool.eq_iff_iff, Bool.not_eq_true', List.isEmpty_eq_false_iff_exists_mem]
  simp [mem_acceptedZones]

/-- R54, R60: with no remote zone to withdraw the own one alone is, if it holds the request. -/
theorem withdrawZones_own {x : Delivery} {c : Attempt} (zones : (a.zones.map (·.zone)).Nodup)
    (own : ∀ z ∈ acceptedZones a, isOwn s z = true) (attempt : x.attempt = some c) :
    (acceptedZones a).foldl (fun t z => withdrawZone k (tagFor s k a.number) z t) (putDelivery k x s) =
      putDelivery k { x with attempt := some (zonesWithdrawn s (tagFor s k a.number) (acceptedZones a) c) }
        { s with air := closedAir k a s } := by
  rw [closedAir, any_accepted]
  rcases acceptedZones_own zones own with none | ⟨z, one, own⟩
  · rw [none, zonesWithdrawn_nil, ← attempt]
    rfl
  · rw [one, List.foldl_cons, List.foldl_nil, withdrawZone_own own attempt, deliveryZoned]
    conv_lhs => rw [← zonesWithdrawn_nil s (tagFor s k a.number) c, zoneSet_zonesWithdrawn]
    rfl

/-- R54, R60, R61: a close that leaves no zone unresolved. -/
theorem closeAttempt_settles (settles : CloseSettles k d a s) (attempt : d.attempt = some a) (o : AttemptOutcome) :
    Settles k d a o { s with air := closedAir k a s } (closeAttempt k o (putDelivery k d s)) := by
  obtain ⟨record, zones, done⟩ := settles
  obtain ⟨r, record⟩ := Option.isSome_iff_exists.mp record
  have direct : ∀ e ∈ a.zones, e.state = .accepted →
      withdrawnTo s (tagFor s k a.number) e.zone = .withdrawn ∧ isOwn s e.zone = true := by
    intro e mem accepted
    rcases done e mem with resolved | ⟨-, own, queued⟩
    · simp [accepted, unresolved] at resolved
    · simp [withdrawnTo, own, queued]
  have own : ∀ z ∈ acceptedZones a, isOwn s z = true := by
    intro z mem
    obtain ⟨e, among, accepted, rfl⟩ := mem_acceptedZones.mp mem
    exact (direct e among accepted).2
  have after : (zonesWithdrawn s (tagFor s k a.number) (acceptedZones a) (closedAs o a)).zones = _ :=
    zones_withdrawn zones s _
  have resolved : allResolved (zonesWithdrawn s (tagFor s k a.number) (acceptedZones a) (closedAs o a)) = true := by
    rw [allResolved, after, List.all_map]
    refine List.all_eq_true.mpr fun e mem => ?_
    by_cases accepted : e.state = .accepted
    · simp [accepted, (direct e mem accepted).1, unresolved]
    · simpa [accepted] using done e mem
  have fold := withdrawZones_own (k := k) (s := s) (x := closedDelivery o d a) (c := closedAs o a) zones own rfl
  rw [closeAttempt_putDelivery attempt, fold]
  have settled := settleIfResolved_settles (k := k) (d := { closedDelivery o d a with
    attempt := some (zonesWithdrawn s (tagFor s k a.number) (acceptedZones a) (closedAs o a)) })
    (s := { s with air := closedAir k a s }) rfl rfl rfl resolved record
  exact Settles.of_closed (d := d) (settled.of_aired (a := closedAs o a) (airedIn_zonesWithdrawn zones s _) rfl)

end Close

end Sys2Proof.Machine
end

section
/-! The lifetime expiry (R46, R64) and the ack-wait expiry (R58). -/

namespace Sys2Proof.Machine

section Expiries

variable {offpeak : Bool} {k : Fin 256} {d : Delivery} {a : Attempt} {r : Subscriber} {s : State}

theorem CloseWaits.withOffpeak (h : CloseWaits k a s) (offpeak : Bool) : CloseWaits k a (withOffpeak offpeak s) :=
  ⟨h.keys, h.zones, h.held, h.open_⟩

theorem CloseSettles.withOffpeak (h : CloseSettles k d a s) (offpeak : Bool) :
    CloseSettles k d a (withOffpeak offpeak s) :=
  ⟨h.record, h.zones, h.done⟩

theorem closedAir_withOffpeak (k : Fin 256) (a : Attempt) (offpeak : Bool) (s : State) :
    closedAir k a (withOffpeak offpeak s) = closedAir k a s := rfl

theorem exec_lifetimeExpiry_early (held : deliveryAt s k = some d) (early : (s.tick - d.lifetimeDue).toInt < 0) :
    exec (.lifetimeExpiry offpeak k) s = .next s := by
  have waits : ¬ reached s.tick d.lifetimeDue = true := fun now => by
    have := (reached_iff _ _).mp now
    omega
  change execLifetimeExpiry offpeak k s = _
  simp only [execLifetimeExpiry, held, if_neg waits]

theorem exec_lifetimeExpiry_due (held : deliveryAt s k = some d) (due : 0 ≤ (s.tick - d.lifetimeDue).toInt) :
    exec (.lifetimeExpiry offpeak k) s = .next (expireLifetime k d (withOffpeak offpeak s)) := by
  change execLifetimeExpiry offpeak k s = _
  simp only [execLifetimeExpiry, held, (reached_iff s.tick d.lifetimeDue).mpr due, if_true]

/-- R64: an expiry of a delivery with an open attempt. -/
theorem expireLifetime_open (held : deliveryAt s k = some d) (state : d.state = .airPending ∨ d.state = .awaitAck) :
    expireLifetime k d s = closeAttempt k .missed (putDelivery k { d with expiry := true } s) := by
  rcases state with state | state <;> simp only [expireLifetime, state, mapDelivery_eq_put held]

/-- R64: an expiry of a delivery with no attempt. -/
theorem expireLifetime_ends (held : deliveryAt s k = some d) (state : d.state = .issuing ∨ d.state = .retryWait)
    (record : s.directory[d.subscriber]? = some r) : expireLifetime k d s = endedExpired k d s := by
  have ends : expireLifetime k d s = endDelivery k .expired s := by
    rcases state with state | state <;> simp only [expireLifetime, state]
  have ended := endDelivery_expired (k := k) record
  rwa [putDelivery_self held, ← ends] at ended

/-- R63, R123: the end of a delivery with room for the record of its refund. -/
theorem endedExpired_room {credit : Nat} (k : Fin 256) (record : s.directory[d.subscriber]? = some r)
    (room : s.billing.queue.length < 128)
    (isCredit : credit = d.retryCharges * (s.plans[r.plan.val]).missRefund / 100) : endedExpired k d s = { s with
      directory := s.directory.set d.subscriber { r with
        periodTotal := r.periodTotal - credit, live := r.live - 1, missed := min (r.missed + 1) 65535 }
      store := slotEnded k s.store
      billing := if credit = 0 then s.billing else { s.billing with
        seq := s.billing.seq + 1,
        queue := s.billing.queue ++ [
          { seq := s.billing.seq, kind := .missCredit, number := r.number,
            delivery := some (BitVec.ofFin k, (s.store.slots[k.val]).gen), attempt := none, cells := none,
            watchHigh := none, amount := credit, credit := true, offpeak := s.pins.offpeak,
            totalAfter := r.periodTotal - credit, usageAfter := r.usage, tallies := none }] } } := by
  simp only [endedExpired, record, ← isCredit]
  by_cases free : credit = 0
  · simp only [free, if_true, recorded_nil]
  · simp only [free, if_false, recorded_singleton]
    exact produceRecord_room room

theorem exec_ackWaitExpiry_due {due : Tick} (held : deliveryAt s k = some d) (state : d.state = .awaitAck)
    (attempt : d.attempt = some a) (timer : a.ackDue = some due) (past : 0 ≤ (s.tick - due).toInt) :
    exec (.ackWaitExpiry offpeak k) s = .next (closeAttempt k .missed (putDelivery k d (withOffpeak offpeak s))) := by
  have same : putDelivery k d (withOffpeak offpeak s) = withOffpeak offpeak s := putDelivery_self held
  rw [same]
  change execAckWaitExpiry offpeak k s = _
  simp only [execAckWaitExpiry, held, state, attempt, Option.bind_some, timer, timerReached_some,
    (reached_iff s.tick due).mpr past, and_self, if_true]

/-! ## A counted attempt that has missed (R61, R63, R105 to R107) -/

section Missed

variable {t : State}

theorem attemptCharged_keeps (k : Fin 256) (d : Delivery) (a : Attempt) (s : State) :
    (attemptCharged k d a s).store = s.store ∧ (attemptCharged k d a s).tick = s.tick := by
  unfold attemptCharged
  split
  · dsimp only
    split <;> exact ⟨rfl, rfl⟩
  · exact ⟨rfl, rfl⟩

theorem counted_deliveryCharged (record : s.directory[d.subscriber]? = some r) (aired : airedIn a ≠ 0) :
    (deliveryCharged d a s).counted = d.counted + 1 := by
  rw [deliveryCharged_aired record aired]

/-- R105 to R107: the next attempt waits. -/
theorem Settles.retries (h : Settles k d a .missed s t) (record : s.directory[d.subscriber]? = some r)
    (aired : airedIn a ≠ 0) (young : d.expiry = false) (more : d.counted + 1 ≠ (s.plans[r.plan.val]).maxAttempts) :
    k ∈ t.store.retry ∧ t.store.issue = s.store.issue ∧ t.store.scheduled = min (s.store.scheduled + 1) 65535
      ∧ ∃ x, (t.store.slots[k.val]).held = some x ∧ x.counted = d.counted + 1 ∧ x.attempt = none
        ∧ x.state = .retryWait ∧ x.due = some (s.tick + BitVec.ofNat 32
          (100 * (min ((s.plans[r.plan.val]).backoffBase * 2 ^ d.counted) (s.plans[r.plan.val]).backoffCap + k.val % 4))) := by
  have counted := counted_deliveryCharged (d := d) (a := a) record aired
  have plan := planAt_eq record
  obtain ⟨store, tick⟩ := attemptCharged_keeps k d a s
  obtain ⟨r', -, kept⟩ := attemptCharged_record (d := d) (s := s) k a record
  obtain ⟨rest, slots, queued, -⟩ := h.retried rfl young (by rwa [counted, plan])
  have held := slots _ rfl
  rw [(deliveryCharged_keeps d a s).1, kept, plan, counted, tick, store] at held
  simp only [held, Vector.getElem_set_self]
  refine ⟨queued, ?_, ?_, _, rfl, rfl, rfl, rfl, ?_⟩
  · rw [rest, store]
  · rw [rest, store]
  · rw [Nat.max_eq_left (Nat.le_add_left 1 d.counted), Nat.add_sub_cancel]

/-- R115: a charge keeps the counts of the record. -/
theorem attemptCharged_counts (k : Fin 256) (record : s.directory[d.subscriber]? = some r) (aired : airedIn a ≠ 0) :
    ∃ x, (attemptCharged k d a s).directory[d.subscriber]? = some x ∧ x.live = r.live ∧ x.missed = r.missed := by
  have length : d.subscriber < s.directory.length := (List.getElem?_eq_some_iff.mp record).1
  rw [attemptCharged_aired record aired rfl rfl]
  exact ⟨_, List.getElem?_set_self length, rfl, rfl⟩

/-- R63: the slot and the record of a delivery that ends EXPIRED. -/
theorem endedExpired_ends (k : Fin 256) (record : s.directory[d.subscriber]? = some r) :
    (endedExpired k d s).store = slotEnded k s.store ∧ ∃ x, (endedExpired k d s).directory[d.subscriber]? = some x
      ∧ x.live = r.live - 1 ∧ x.missed = min (r.missed + 1) 65535 := by
  have length : d.subscriber < s.directory.length := (List.getElem?_eq_some_iff.mp record).1
  simp only [endedExpired, record]
  exact ⟨rfl, _, List.getElem?_set_self length, rfl, rfl⟩

/-- R61, R63: the last attempt has been made. -/
theorem Settles.expires (h : Settles k d a .missed s t) (record : s.directory[d.subscriber]? = some r)
    (aired : airedIn a ≠ 0) (last : d.counted + 1 = (s.plans[r.plan.val]).maxAttempts) :
    t.store = slotEnded k s.store
      ∧ ∃ x, t.directory[d.subscriber]? = some x ∧ x.live = r.live - 1 ∧ x.missed = min (r.missed + 1) 65535 := by
  have counted := counted_deliveryCharged (d := d) (a := a) record aired
  have subscriber := (deliveryCharged_keeps d a s).1
  obtain ⟨r', record', live, missed⟩ := attemptCharged_counts k record aired
  obtain ⟨store, after⟩ := endedExpired_ends (d := deliveryCharged d a s) k (subscriber.symm ▸ record')
  rw [(attemptCharged_keeps k d a s).1] at store
  rw [subscriber, live, missed] at after
  rw [h.expired rfl (.inr (by rw [counted, planAt_eq record, last]))]
  exact ⟨store, after⟩

end Missed

end Expiries

/-- Settles O42: by the delivery's state. -/
theorem lifetimeExpires : Obligations.LifetimeExpires := by
  unfold Obligations.LifetimeExpires
  rintro offpeak k d r credit s held record rfl
  refine ⟨exec_lifetimeExpiry_early held, fun due settling => ?_, fun a due state attempt => ?_, fun due state room => ?_⟩
  · have marked := mapDelivery_eq_put (s := withOffpeak offpeak s) held fun x => { x with expiry := true }
    rw [exec_lifetimeExpiry_due held due]
    simp only [expireLifetime, settling, marked]
    rfl
  · rw [exec_lifetimeExpiry_due held due, expireLifetime_open (s := withOffpeak offpeak s) held state]
    exact ⟨fun waits =>
        ⟨_, rfl, closeAttempt_waits (d := { d with expiry := true }) (waits.withOffpeak offpeak) attempt _⟩,
      fun settles => ⟨_, rfl, closeAttempt_settles (d := { d with expiry := true })
        (s := withOffpeak offpeak s) ⟨settles.record, settles.zones, settles.done⟩ attempt _⟩⟩
  · rw [exec_lifetimeExpiry_due held due, expireLifetime_ends (s := withOffpeak offpeak s) held state record]
    exact congrArg _ (endedExpired_room (s := withOffpeak offpeak s) k record room rfl)

/-- Settles O43: by what the close leaves unresolved. -/
theorem ackWaitExpiryCloses : Obligations.AckWaitExpiryCloses := by
  unfold Obligations.AckWaitExpiryCloses
  rintro offpeak k d a due r p s held state attempt timer past record rfl
  rw [exec_ackWaitExpiry_due held state attempt timer past]
  refine ⟨fun waits => ⟨_, rfl, closeAttempt_waits (waits.withOffpeak offpeak) attempt _⟩, fun none sent => ?_,
    fun settles => ⟨_, rfl, closeAttempt_settles (settles.withOffpeak offpeak) attempt _, fun aired young => ?_⟩⟩
  · have others : acceptedZones a = [] := by
      refine List.eq_nil_iff_forall_not_mem.mpr fun z mem => ?_
      obtain ⟨e, among, accepted, -⟩ := mem_acceptedZones.mp mem
      exact none e among accepted
    obtain ⟨e, mem, sent⟩ := sent
    have unresolved_ : unresolved e.state = true := by rw [sent]; rfl
    rw [closeAttempt_putDelivery attempt, others, List.foldl_nil, settleIfResolved_open (a := closedAs .missed a) rfl
      fun _ => ⟨e, mem, unresolved_⟩]
    rfl
  · have settled := closeAttempt_settles (settles.withOffpeak offpeak) attempt .missed
    obtain ⟨e, mem, state⟩ := aired
    have counts : airedIn a ≠ 0 := Nat.ne_of_gt (List.countP_pos_iff.mpr ⟨e, mem, by rw [state]; rfl⟩)
    exact ⟨settled.retries record counts young, settled.expires record counts⟩

end Sys2Proof.Machine
end

section
/-! The issue of the head of the issue queue (R47 to R50, R54). -/

namespace Sys2Proof.Machine

/-! ## The zones of the attempt (R49) -/

section Zones

variable {k : Fin 256} {d : Delivery} {r : Subscriber} {p : Plan} {a z : Nat} {zones : List Nat} {own : ZoneState} {s : State}

theorem mem_allZones : z ∈ allZones ↔ 1 ≤ z ∧ z ≤ 24 := by
  simp only [allZones, List.mem_map, List.mem_range]
  constructor
  · rintro ⟨i, below, rfl⟩
    omega
  · exact fun ⟨low, high⟩ => ⟨z - 1, by omega, by omega⟩

theorem nodup_allZones : allZones.Nodup := by decide

/-- R49: the rows of the zone table as one filter. -/
theorem candidateZones_eq (s : State) (p : Plan) (r : Subscriber) (a : Nat) :
    candidateZones s p r a = allZones.filter fun z =>
      if a = p.maxAttempts ∧ p.finalSweep = true then zoneAirs s z
      else if a = 1 ∧ p.maxAttempts ≠ 1 then r.homeZones.getLsbD (z - 1)
      else r.homeZones.getLsbD (z - 1) || (p.widening && r.wideZones.getLsbD (z - 1)) := by
  unfold candidateZones
  split
  · rfl
  · split
    · exact List.filter_congr fun z mem => by simp [inZones, (mem_allZones.mp mem).1]
    · refine List.filter_congr fun z mem => ?_
      cases p.widening <;> simp [inZones, (mem_allZones.mp mem).1]

/-- R49, R54: the entry of a zone once the own zone has answered. -/
def openedZone (s : State) (own : ZoneState) (z : Nat) : ZoneEntry :=
  { zone := z, state := if zoneAirs s z = false then .absent else if isOwn s z then own else .sent }

/-- R50: the attempt with its zones opened. -/
def openedAttempt (s : State) (own : ZoneState) (zones : List Nat) (number : Nat) : Attempt :=
  { number := number, ackDue := none, outcome := none, zones := zones.map (openedZone s own) }

theorem issueZones_eq (record : s.directory[d.subscriber]? = some r)
    (isZones : zones = candidateZones s (s.plans[r.plan.val]) r (d.counted + 1)) :
    issueZones s d = zones.map (openedZone s .sent) := by
  rw [issueZones, record, planAt_eq record, isZones]
  refine List.map_congr_left fun z _ => ?_
  cases airs : zoneAirs s z <;> simp [openedZone, airs]

theorem openedZone_sent (s : State) (z : Nat) : ((openedZone s .sent z).state == ZoneState.sent) = zoneAirs s z := by
  cases airs : zoneAirs s z <;> simp [openedZone, airs]

/-- R48, R50: the zones that an issue asks over the bus. -/
theorem remoteSent_opened (s : State) (zones : List Nat) :
    remoteSent s (zones.map (openedZone s .sent)) = zones.filter fun z => zoneAirs s z && !isOwn s z := by
  rw [remoteSent, List.filter_map, List.map_map]
  refine (List.map_congr_left fun z _ => rfl).trans ((List.map_id _).trans (List.filter_congr fun z _ => ?_))
  rw [Function.comp_apply, openedZone_sent]
  rfl

theorem any_sent_opened (s : State) (zones : List Nat) :
    ((zones.map (openedZone s .sent)).any fun e => e.state == ZoneState.sent) = zones.any (zoneAirs s) := by
  rw [List.any_map]
  exact congrArg _ (funext (openedZone_sent s))

/-- R54: the own zone's entry takes the answer. -/
theorem zoneSet_opened (isOwn_ : isOwn s z = true) (airs : zoneAirs s z = true) (number : Nat) :
    zoneSet z own (openedAttempt s .sent zones number) = openedAttempt s own zones number := by
  simp only [zoneSet, openedAttempt, List.map_map]
  congr 1
  refine List.map_congr_left fun x _ => ?_
  by_cases same : x = z
  · simp [openedZone, same, isOwn_, airs]
  · have other : isOwn s x = false := Bool.eq_false_iff.mpr fun also => same (isOwn_unique also isOwn_)
    simp [openedZone, same, other]

end Zones

/-! ## The requests (R50) -/

section Requests

variable {k : Fin 256} {ask : AirAsk} {d : Delivery} {s u : State}

/-- R50, R160: the requests of a delivery have joined the table and the request queue. -/
def Requested (k : Fin 256) (ask : AirAsk) (zones : List Nat) (s u : State) : Prop :=
  ∃ qs : List Byte, qs.length = zones.length
    ∧ u = { s with
      bus := { s.bus with requests := s.bus.requests ++ (zones.zip qs).map fun x =>
        { kind := .airRequest, dest := BitVec.ofNat 8 x.1, src := BitVec.ofNat 8 (ownNumber s), seq := x.2,
          payload := airRequestPayload ask } }
      exchange := u.exchange }
    ∧ u.exchange.table = s.exchange.table ++ (zones.zip qs).map fun x =>
        { key := { peer := x.1, seq := x.2, kind := .airRequest }, owner := .zone k x.1, phase := .queued,
          due := some (s.tick + BitVec.ofNat 32 (cfg s).replyTimeout) }

theorem requested_foldl (k : Fin 256) (ask : AirAsk) (zones : List Nat) (s : State) :
    Requested k ask zones s (zones.foldl (requestZone k ask) s) := by
  induction zones generalizing s with
  | nil => exact ⟨[], rfl, by simp, by simp⟩
  | cons z zones ih =>
    obtain ⟨qs, length, rest, table⟩ := ih (requestZone k ask s z)
    refine ⟨(nextSequence s z .airRequest).1 :: qs, congrArg (· + 1) length, ?_, ?_⟩
    · rw [List.foldl_cons, rest, List.zip_cons_cons, List.map_cons, List.append_cons]
      rfl
    · rw [List.foldl_cons, table, List.zip_cons_cons, List.map_cons, List.append_cons]
      rfl

theorem requests_putDelivery (k : Fin 256) (ask : AirAsk) (zones : List Nat) (d : Delivery) (s : State) :
    zones.foldl (requestZone k ask) (putDelivery k d s) = putDelivery k d (zones.foldl (requestZone k ask) s) := by
  induction zones generalizing s with
  | nil => rfl
  | cons z zones ih => exact ih (requestZone k ask s z)

/-! ## The own zone (R54) -/

theorem admitAsk_air (ask : AirAsk) (s : State) : admitAsk ask s = { s with air := (admitAsk ask s).air } := by
  unfold admitAsk
  split
  case h_4 => split <;> rfl
  all_goals rfl

theorem admitAsk_putDelivery (ask : AirAsk) (k : Fin 256) (d : Delivery) (s : State) :
    admitAsk ask (putDelivery k d s) = putDelivery k d (admitAsk ask s) := by
  have same : admission ask (putDelivery k d s) = admission ask s := rfl
  have found : findAir (putDelivery k d s) ask.tag = findAir s ask.tag := rfl
  unfold admitAsk
  rw [same, found]
  split
  case h_4 => split <;> rfl
  all_goals rfl

/-- R69, R87: a refused request raises a count alone. -/
theorem admitAsk_refused (refused : admission ask s ≠ .accepted) :
    (admitAsk ask s).air = { s.air with counts := (admitAsk ask s).air.counts } := by
  unfold admitAsk
  split
  case h_4 accepted => exact absurd accepted refused
  all_goals rfl

/-- R69, R87: a new request joins the queue of its class. -/
theorem admitAsk_accepted (accepted : admission ask s = .accepted) (new : findAir s ask.tag = none) :
    (admitAsk ask s).air = { s.air with
      regular := if ask.cls.priority then s.air.regular else s.air.regular ++ [newAirEntry ask],
      priority := if ask.cls.priority then s.air.priority ++ [newAirEntry ask] else s.air.priority,
      counts := { s.air.counts with requestsAccepted := min (s.air.counts.requestsAccepted + 1) 65535 } } := by
  simp only [admitAsk, accepted, new, Option.isSome_none, Bool.false_eq_true, if_false]
  cases ask.cls.priority <;> rfl

end Requests

/-! ## The issue (R47, R48, R50) -/

section Issue

variable {offpeak : Bool} {k : Fin 256} {d : Delivery} {r : Subscriber} {z : Nat} {zones : List Nat} {own : ZoneState}
  {s u : State}

/-- R47: the station with the head of its issue queue taken. -/
def headTaken (s : State) : State := s.mapStore fun p => { p with issue := p.issue.tail }

/-- R50: the requests leave the Air Scheduler and what it admits by. -/
theorem Requested.keeps {ask : AirAsk} (h : Requested k ask zones (headTaken s) u) :
    admission ask u = admission ask s ∧ findAir u ask.tag = findAir s ask.tag ∧ u.air = s.air := by
  obtain ⟨qs, length, rest, table⟩ := h
  rw [rest]
  exact ⟨rfl, rfl, rfl⟩

/-- R50: the delivery with its attempt open. -/
def openedDelivery (s : State) (own : ZoneState) (zones : List Nat) (d : Delivery) : Delivery :=
  { d with issued := true, state := .airPending, attempt := some (openedAttempt s own zones (d.counted + 1)) }

theorem exec_issue_head {rest : List (Fin 256)} (joined : member s = true) (issue : s.store.issue = k :: rest)
    (held : deliveryAt s k = some d) (record : s.directory[d.subscriber]? = some r)
    (isZones : zones = candidateZones s (s.plans[r.plan.val]) r (d.counted + 1)) {sent : List Nat}
    (isSent : sent = zones.filter fun z => zoneAirs s z && !isOwn s z)
    (table : sent.length ≤ 96 - s.exchange.table.length)
    (queue : sent.length ≤ 32 - s.bus.requests.length - s.bus.waiting.length) :
    exec (.issue offpeak) s = .next (issueHead k d (withOffpeak offpeak s)) := by
  have can : canIssue s d = true := by
    rw [canIssue, issueZones_eq record isZones, remoteSent_opened, ← isSent]
    simp only [joined, Bool.true_and, Bool.and_eq_true, decide_eq_true_eq]
    exact ⟨table, queue⟩
  change execIssue offpeak s = _
  simp only [execIssue, issuable, issue, held, can, if_true]

theorem exec_issue_waits {rest : List (Fin 256)} (issue : s.store.issue = k :: rest)
    (held : deliveryAt s k = some d) (record : s.directory[d.subscriber]? = some r)
    (isZones : zones = candidateZones s (s.plans[r.plan.val]) r (d.counted + 1)) {sent : List Nat}
    (isSent : sent = zones.filter fun z => zoneAirs s z && !isOwn s z)
    (short : 96 - s.exchange.table.length < sent.length
      ∨ 32 - s.bus.requests.length - s.bus.waiting.length < sent.length) : exec (.issue offpeak) s = .next s := by
  have can : canIssue s d = false := by
    rw [canIssue, issueZones_eq record isZones, remoteSent_opened, ← isSent, Bool.and_assoc, ← Bool.decide_and]
    rw [decide_eq_false (p := _ ∧ _), Bool.and_false]
    rintro ⟨table, queue⟩
    rcases short with full | full
    · exact absurd table (Nat.not_le.mpr full)
    · exact absurd queue (Nat.not_le.mpr full)
  change execIssue offpeak s = _
  simp only [execIssue, issuable, issue, held, can, Bool.false_eq_true, if_false]

/-- R50, R62: an issue with no zone to air. -/
theorem issueHead_void (held : deliveryAt s k = some d) (record : s.directory[d.subscriber]? = some r)
    (isZones : zones = candidateZones s (s.plans[r.plan.val]) r (d.counted + 1))
    (void : ∀ z ∈ zones, zoneAirs s z = false) : ∃ x, issueHead k d s =
      enterRetry k (putDelivery k { d with issued := true, attempt := x } (headTaken s)) := by
  have quiet : ¬ (issueZones s d).any (fun e => e.state == ZoneState.sent) = true := by
    rw [issueZones_eq record isZones, any_sent_opened]
    exact fun asks => by
      obtain ⟨z, mem, airs⟩ := List.any_eq_true.mp asks
      exact absurd airs (by simp [void z mem])
  exact ⟨_, (if_neg quiet).trans (congrArg (enterRetry k) (mapDelivery_eq_put (s := headTaken s) held _))⟩

/-- R50: an issue with a zone to air: the remote zones are asked, then the own one. -/
theorem issueHead_asks (held : deliveryAt s k = some d) (record : s.directory[d.subscriber]? = some r)
    (isZones : zones = candidateZones s (s.plans[r.plan.val]) r (d.counted + 1))
    (airs : ∃ z ∈ zones, zoneAirs s z = true) : issueHead k d s =
      afterResolved k ((zones.filter fun z => zoneAirs s z && isOwn s z).foldl
        (fun t z => requestOwn k (airAsk s k d (d.counted + 1)) z t)
        (putDelivery k (openedDelivery s .sent zones d)
          ((zones.filter fun z => zoneAirs s z && !isOwn s z).foldl (requestZone k (airAsk s k d (d.counted + 1)))
            (headTaken s)))) := by
  have asks : (issueZones s d).any (fun e => e.state == ZoneState.sent) = true := by
    rw [issueZones_eq record isZones, any_sent_opened]
    exact List.any_eq_true.mpr airs
  have opened : mapDelivery k (fun x => { x with state := .airPending }) (mapDelivery k (fun x => { x with
      issued := true
      attempt := some { number := d.counted + 1, zones := issueZones s d, ackDue := none, outcome := none } })
        (headTaken s)) = putDelivery k (openedDelivery s .sent zones d) (headTaken s) := by
    rw [mapDelivery_eq_put (s := headTaken s) held, mapDelivery_putDelivery, issueZones_eq record isZones]
    rfl
  have ownZones : (issueZones s d).filter (fun e => e.state == ZoneState.sent && isOwn s e.zone) =
      (zones.filter fun z => zoneAirs s z && isOwn s z).map (openedZone s .sent) := by
    rw [issueZones_eq record isZones, List.filter_map]
    exact congrArg _ (List.filter_congr fun z _ => by rw [Function.comp_apply, openedZone_sent]; rfl)
  have remoteZones := (congrArg (remoteSent s) (issueZones_eq record isZones)).trans (remoteSent_opened s zones)
  refine (if_pos asks).trans (congrArg (afterResolved k) ?_)
  rw [ownZones, remoteZones, List.foldl_map, ← requests_putDelivery, ← opened]
  rfl

/-- R54: one zone alone is the own one. -/
theorem filter_own (distinct : zones.Nodup) (mem : z ∈ zones) (isOwn_ : isOwn s z = true) (airs : zoneAirs s z = true) :
    (zones.filter fun z => zoneAirs s z && isOwn s z) = [z] := by
  refine List.perm_singleton.mp ((List.perm_ext_iff_of_nodup (distinct.filter _) (List.nodup_singleton z)).mpr fun x => ?_)
  simp only [List.mem_filter, Bool.and_eq_true, List.mem_singleton]
  constructor
  · exact fun ⟨_, _, also⟩ => isOwn_unique also isOwn_
  · rintro rfl
    exact ⟨mem, airs, isOwn_⟩

/-- R50, R54: the issue of a delivery whose own zone airs. -/
theorem issueHead_own {ask : AirAsk} {sent : List Nat} (held : deliveryAt s k = some d)
    (record : s.directory[d.subscriber]? = some r)
    (isZones : zones = candidateZones s (s.plans[r.plan.val]) r (d.counted + 1))
    (isSent : sent = zones.filter fun z => zoneAirs s z && !isOwn s z) (isAsk : ask = airAsk s k d (d.counted + 1))
    (airing : ∃ z ∈ zones, isOwn s z = true ∧ zoneAirs s z = true)
    (answer : own = if admission ask s = .accepted then .accepted else .refused) :
    issueHead k d s = afterResolved k (putDelivery k (openedDelivery s own zones d)
      (admitAsk ask (sent.foldl (requestZone k ask) (headTaken s)))) := by
  obtain ⟨z, mem, isOwn_, airs⟩ := airing
  have distinct : zones.Nodup := by
    rw [isZones, candidateZones_eq]
    exact nodup_allZones.filter _
  have requested := requested_foldl k ask sent (headTaken s)
  rw [issueHead_asks held record isZones ⟨z, mem, airs⟩, filter_own distinct mem isOwn_ airs, ← isAsk, ← isSent]
  generalize sent.foldl (requestZone k ask) (headTaken s) = u at requested
  have same : admission ask (putDelivery k (openedDelivery s .sent zones d) u) = admission ask s := by
    exact requested.keeps.1
  rw [List.foldl_cons, List.foldl_nil, requestOwn, same, ← answer, admitAsk_putDelivery,
    setZone_eq (deliveryAt_putDelivery _ _ _) (by rfl), putDelivery_putDelivery, deliveryZoned, zoneSet_opened isOwn_ airs]
  rfl

/-- R50: the issue of a delivery whose own zone is not among those that air. -/
theorem issueHead_remote {ask : AirAsk} {sent : List Nat} (held : deliveryAt s k = some d)
    (record : s.directory[d.subscriber]? = some r)
    (isZones : zones = candidateZones s (s.plans[r.plan.val]) r (d.counted + 1))
    (isSent : sent = zones.filter fun z => zoneAirs s z && !isOwn s z) (isAsk : ask = airAsk s k d (d.counted + 1))
    (asks : ∃ z, z ∈ sent) (others : ∀ z ∈ zones, isOwn s z = true → zoneAirs s z = false) :
    issueHead k d s = afterResolved k (putDelivery k (openedDelivery s .sent zones d)
      (sent.foldl (requestZone k ask) (headTaken s))) := by
  obtain ⟨z, mem⟩ := asks
  have airs : ∃ z ∈ zones, zoneAirs s z = true := by
    simp only [isSent, List.mem_filter, Bool.and_eq_true] at mem
    exact ⟨z, mem.1, mem.2.1⟩
  have noOwn : (zones.filter fun z => zoneAirs s z && isOwn s z) = [] :=
    List.filter_eq_nil_iff.mpr fun z mem both => by
      obtain ⟨airs, isOwn_⟩ := Bool.and_eq_true_iff.mp both
      rw [others z mem isOwn_] at airs
      cases airs
  rw [issueHead_asks held record isZones airs, noOwn, ← isAsk, ← isSent, List.foldl_nil]

theorem couldAir_of_sent {sent : List Nat} (isSent : sent = zones.filter fun z => zoneAirs s z && !isOwn s z)
    (mem : z ∈ sent) (own : ZoneState) : ∃ x ∈ zones, couldAir (openedZone s own x).state = true := by
  simp only [isSent, List.mem_filter, Bool.and_eq_true, Bool.not_eq_true'] at mem
  obtain ⟨among, airs, other⟩ := mem
  exact ⟨z, among, by simp [openedZone, airs, other, couldAir]⟩

theorem couldAir_own (isOwn_ : isOwn s z = true) (airs : zoneAirs s z = true) :
    couldAir (openedZone s .accepted z).state = true := by
  simp [openedZone, airs, isOwn_, couldAir]

/-- R59: the attempt stays open while a zone of it could air. -/
theorem afterResolved_opened {x : Nat} (mem : x ∈ zones) (airs : couldAir (openedZone s own x).state = true) (u : State) :
    afterResolved k (putDelivery k (openedDelivery s own zones d) u) = putDelivery k (openedDelivery s own zones d) u :=
  afterResolved_open (by rfl) (fun _ => ⟨_, List.mem_map_of_mem mem, airs⟩) fun settling => by
    simp [openedDelivery] at settling

/-- R54, R62: the own zone alone, which refuses: the attempt is void. -/
theorem afterResolved_refused (record : u.directory[d.subscriber]? = some r)
    (alone : ∀ z ∈ zones, zoneAirs s z = true → isOwn s z = true) (young : d.expiry = false)
    (more : d.counted ≠ (u.plans[r.plan.val]).maxAttempts) :
    RetryWaits k (openedDelivery s .refused zones d) u
      (afterResolved k (putDelivery k (openedDelivery s .refused zones d) u)) := by
  have states : ∀ z ∈ zones, (openedZone s .refused z).state = .absent ∨ (openedZone s .refused z).state = .refused := by
    intro z mem
    cases airs : zoneAirs s z
    · simp [openedZone, airs]
    · simp [openedZone, airs, alone z mem airs]
  have entries : ∀ e ∈ (openedAttempt s .refused zones (d.counted + 1)).zones, e.state = .absent ∨ e.state = .refused :=
    List.forall_mem_map.mpr states
  have resolved : allResolved (openedAttempt s .refused zones (d.counted + 1)) = true := List.all_eq_true.mpr fun e mem => by
    rcases entries e mem with state | state <;> rw [state] <;> rfl
  have void : airedIn (openedAttempt s .refused zones (d.counted + 1)) = 0 := List.countP_eq_zero.mpr fun e mem => by
    rcases entries e mem with state | state <;> rw [state] <;> decide
  obtain ⟨delivery, state⟩ := charged_of_void (d := openedDelivery s .refused zones d) (s := u) void k
  have settles := afterResolved_closes (k := k) (d := openedDelivery s .refused zones d) rfl rfl resolved
    record
  have waits := settles.retried rfl young
  rw [delivery, state] at waits
  exact waits fun last => more (last.trans (congrArg Plan.maxAttempts (planAt_eq record)))

/-- R105, R106: the delivery that waits to retry. -/
theorem RetryWaits.held (h : RetryWaits k d s u) (record : s.directory[d.subscriber]? = some r) :
    (u.store.slots[k.val]).held = some { d with
      attempt := none, state := .retryWait
      due := some (s.tick + BitVec.ofNat 32 (100 * (min ((s.plans[r.plan.val]).backoffBase * 2 ^ (max d.counted 1 - 1))
        (s.plans[r.plan.val]).backoffCap + k.val % 4))) } := by
  rw [h.slots _ rfl, planAt_eq record, Vector.getElem_set_self]

end Issue

/-- Settles O41: by the zones that air and the room for their requests. -/
theorem issueRequestsEveryZone : Obligations.IssueRequestsEveryZone := by
  unfold Obligations.IssueRequestsEveryZone
  rintro offpeak k rest d r p a zones sent s joined issue held record rfl rfl isZones isSent opened waits ask rfl rfl isAsk
  have isZones : zones = candidateZones (withOffpeak offpeak s) (s.plans[r.plan.val]) r (d.counted + 1) :=
    isZones.trans (candidateZones_eq _ _ _ _).symm
  have tail : s.store.issue.tail = rest := by rw [issue]; rfl
  have askAt : ask = airAsk (withOffpeak offpeak s) k d (d.counted + 1) := by
    have found : (withOffpeak offpeak s).directory[d.subscriber]? = some r := record
    rw [isAsk, airAsk, found]
    rfl
  have requested := requested_foldl k ask sent (headTaken (withOffpeak offpeak s))
  have issues := exec_issue_head (offpeak := offpeak) joined issue held record isZones isSent
  refine ⟨fun short _ => ?_, fun void => ?_, fun table queue own airing answer => ⟨fun opens => ?_, ?_⟩,
    fun asks others table queue => ?_⟩
  · exact exec_issue_waits issue held record isZones isSent (by omega)
  · have noneSent : sent = [] := by
      rw [isSent, List.filter_eq_nil_iff]
      exact fun z mem both => by simp [void z mem] at both
    obtain ⟨x, head⟩ := issueHead_void (s := withOffpeak offpeak s) held record isZones void
    refine ⟨_, issues (by rw [noneSent]; exact Nat.zero_le _) (by rw [noneSent]; exact Nat.zero_le _), ?_⟩
    rw [head]
    have retries := enterRetry_waits k { d with issued := true, attempt := x } (headTaken (withOffpeak offpeak s))
    refine ⟨?_, ?_, retries.queued, _, retries.held record, rfl⟩
    · rw [retries.rest]
      rfl
    · rw [retries.rest]
      exact tail
  · obtain ⟨x, mem, airs⟩ : ∃ x ∈ zones, couldAir (openedZone (withOffpeak offpeak s) own x).state = true := by
      rcases opens with asks | accepted
      · obtain ⟨x, mem⟩ := List.exists_mem_of_ne_nil _ asks
        exact couldAir_of_sent isSent mem own
      · obtain ⟨z, mem, isOwn_, airs⟩ := airing
        exact ⟨z, mem, by rw [accepted]; exact couldAir_own (s := withOffpeak offpeak s) isOwn_ airs⟩
    have taken := issues (by omega) (by omega)
    rw [issueHead_own (s := withOffpeak offpeak s) held record isZones isSent askAt airing answer,
      afterResolved_opened mem airs, admitAsk_air] at taken
    generalize sent.foldl (requestZone k ask) (headTaken (withOffpeak offpeak s)) = u at taken requested
    obtain ⟨same, found, air⟩ : admission ask u = admission ask s ∧ findAir u ask.tag = findAir s ask.tag
        ∧ u.air = s.air := requested.keeps
    obtain ⟨qs, length, frame, requests⟩ := requested
    refine ⟨_, qs, taken, length, ?_, ?_, requests, ?_, fun accepted new => ?_, fun refused => ?_⟩
    · rw [frame]
      rfl
    · rw [← tail, frame]
      rfl
    · rw [frame, isAsk]
      rfl
    · have admitted : admission ask s = .accepted := by
        by_contra no
        rw [accepted, if_neg no] at answer
        cases answer
      have joined := admitAsk_accepted (same.trans admitted) (found.trans new)
      rw [air] at joined
      rw [isAsk] at joined ⊢
      exact joined
    · have kept := admitAsk_refused (ask := ask) (s := u) fun admitted => by
        rw [refused, if_pos (same.symm.trans admitted)] at answer
        cases answer
      rw [air] at kept
      exact kept
  · rintro noneSent rfl young more
    have taken := issues (by omega) (by omega)
    rw [issueHead_own (s := withOffpeak offpeak s) held record isZones isSent askAt airing answer, noneSent,
      List.foldl_nil] at taken
    have alone : ∀ z ∈ zones, zoneAirs (withOffpeak offpeak s) z = true → isOwn (withOffpeak offpeak s) z = true := by
      intro z mem airs
      by_contra other
      have asked : z ∈ sent := isSent ▸ List.mem_filter.mpr ⟨mem, Bool.and_eq_true_iff.mpr
        ⟨airs, Bool.not_eq_true' _ ▸ Bool.eq_false_iff.mpr other⟩⟩
      simp [noneSent] at asked
    have refused : admission ask (headTaken (withOffpeak offpeak s)) ≠ .accepted := fun admitted => by
      have admitted : admission ask s = .accepted := admitted
      rw [if_pos admitted] at answer
      cases answer
    obtain ⟨c, w, whole, isW⟩ : ∃ c w, admitAsk ask (headTaken (withOffpeak offpeak s)) = w
        ∧ w = { headTaken (withOffpeak offpeak s) with air := { s.air with counts := c } } :=
      ⟨_, _, rfl, (admitAsk_air ask _).trans (by rw [admitAsk_refused refused]; rfl)⟩
    have record : w.directory[d.subscriber]? = some r := by rw [isW]; exact record
    have retries := afterResolved_refused (k := k) (d := d) record alone young (by rw [isW]; exact more)
    rw [whole] at taken
    refine ⟨_, taken, ?_, ?_, retries.queued, _, retries.held record, by rw [isW]; rfl⟩
    · rw [retries.rest, isW]
      rfl
    · rw [retries.rest, isW]
      exact tail
  · have taken := issues (by omega) (by omega)
    obtain ⟨z, among⟩ := asks
    obtain ⟨x, mem, airs⟩ := couldAir_of_sent isSent among .sent
    rw [issueHead_remote (s := withOffpeak offpeak s) held record isZones isSent askAt ⟨z, among⟩ others,
      afterResolved_opened (s := withOffpeak offpeak s) mem airs] at taken
    generalize sent.foldl (requestZone k ask) (headTaken (withOffpeak offpeak s)) = u at taken requested
    obtain ⟨qs, length, frame, requests⟩ := requested
    refine ⟨_, qs, taken, length, ?_, ?_, requests, ?_⟩
    · rw [frame]
      rfl
    · rw [← tail, frame]
      rfl
    · rw [frame, isAsk]
      rfl

end Sys2Proof.Machine
end

section
/-! The requests and withdraws that other stations make of the Air Scheduler (R69 to R71, R81, R87). -/

namespace Sys2Proof.Machine

/-! ## The held entry of a tag (R67) -/

theorem findAir_isSome_iff {s : State} {g : Tag} :
    (findAir s g).isSome = true ↔ ∃ e ∈ s.air.regular ++ s.air.priority, e.tag = g := by
  rw [findAir, List.find?_isSome]
  exact exists_congr fun e => and_congr_right fun _ => beq_iff_eq

theorem findAir_eq_none_iff {s : State} {g : Tag} :
    findAir s g = none ↔ ∀ e ∈ s.air.regular ++ s.air.priority, e.tag ≠ g := by
  rw [findAir, List.find?_eq_none]
  exact forall₂_congr fun e _ => not_congr beq_iff_eq

/-- R157, R151: the answer to a frame noted, after an event on the air alone. -/
theorem answerTo_noted_air {f : Received} {s t : State} {a : Air} (room : s.bus.answers.length < 24)
    (frame : t = { noted f s with air := a }) (x : FrameKind) (payload : List Byte) :
    answerTo x f.src.toNat f.seq payload t = { answeredFrame f x payload s with air := a } := by
  subst frame
  exact answerTo_noted_eq (t := { noted f s with air := a }) room rfl rfl x payload

/-! ## Admission (R69, R70, R87) -/

section Admission

variable {ask : AirAsk} {s : State}

/-- R67, R69 order 5: the queues hold 4 and 64 entries. -/
theorem airQueueFull_iff {c : MessageClass} : airQueueFull s c = true ↔
    if c.priority then 4 ≤ s.air.priority.length else 64 ≤ s.air.regular.length := by
  unfold airQueueFull
  split <;> exact decide_eq_true_iff

theorem admission_leaving (leaving : s.life.state = .leaving) : admission ask s = .refusedLeaving := if_pos leaving

/-- R69: in ON-BUS with airing enabled, a request is answered by the last four conditions. -/
theorem admission_airing (onBus : s.life.state = .onBus) (airing : (cfg s).airing = true) : admission ask s =
    if (findAir s ask.tag).isSome then .accepted
    else if ask.cells < 2 ∨ 26 < ask.cells ∨ capacity (cfg s) < ask.cells then .refusedNotZone
    else if airQueueFull s ask.cls then .refusedFull
    else .accepted := by
  simp only [admission, onBus, airing, reduceCtorEq, if_false]

theorem admission_notAiring (onBus : s.life.state = .onBus) (quiet : (cfg s).airing = false) :
    admission ask s = .refusedNotZone := by
  simp only [admission, onBus, quiet, reduceCtorEq, if_false, if_true]

/-- R70, R87: a request for a held tag refreshes its entry. -/
theorem admitAsk_merged (accepted : admission ask s = .accepted) (held : (findAir s ask.tag).isSome = true) :
    (admitAsk ask s).air = { s.air with
      regular := s.air.regular.map fun e => if e.tag = ask.tag then { e with withdraw := none } else e,
      priority := s.air.priority.map fun e => if e.tag = ask.tag then { e with withdraw := none } else e,
      counts := { s.air.counts with requestsMerged := min (s.air.counts.requestsMerged + 1) 65535 } } := by
  simp only [admitAsk, accepted, held, if_true]
  rfl

end Admission

/-- R69, R71, R157: an AIR-REQUEST that a member takes is answered with its admission, whose effect is on the air alone. -/
theorem exec_airRequest {heard : List BusChar} {f : Received} {ask : AirAsk} {s : State} {code : AirCode} {a : Air}
    (own : hearsOwn .airRequest heard f s) (joined : member s = true) (asks : readAirRequest f.payload = some ask)
    (room : s.bus.answers.length < 24) (answer : admission ask s = code) (effect : (admitAsk ask (noted f s)).air = a) :
    exec (.airRequest heard) s = .next { answeredFrame f .airAnswer [airCode code] s with air := a } := by
  have taken := takeFrame_member own joined asks takeAirRequest s.pins.offpeak
  have admitted : admitAsk ask (noted f s) = { noted f s with air := a } := effect ▸ admitAsk_air ask (noted f s)
  subst answer
  exact congrArg _ (taken.trans (answerTo_noted_air room admitted .airAnswer _))

/-- Settles O27: the answer and the effect by the first condition of `admission` that holds. -/
theorem airRequestIsAdmittedOrRefused : Obligations.AirRequestIsAdmittedOrRefused := by
  unfold Obligations.AirRequestIsAdmittedOrRefused
  rintro heard f ask s own joined asks room gives rfl held full bad n rfl isHeld isFull isBad
  have found : held ↔ (findAir s ask.tag).isSome = true := isHeld.trans findAir_isSome_iff.symm
  have misfit : bad ↔ (ask.cells < 2 ∨ 26 < ask.cells ∨ capacity (cfg s) < ask.cells) := isBad
  have fills : full ↔ airQueueFull s ask.cls = true := isFull.trans airQueueFull_iff.symm
  have refused {code : AirCode} {c : AirCounts} (answer : admission ask s = code) (no : code ≠ .accepted)
      (counts : (admitAsk ask (noted f s)).air.counts = c) :
      exec (.airRequest heard) s = .next { answeredFrame f .airAnswer [airCode code] s with
        air := { s.air with counts := c } } :=
    exec_airRequest own joined asks room answer
      (counts ▸ admitAsk_refused (s := noted f s) fun accepted => no (answer.symm.trans accepted))
  refine ⟨fun leaving => ?_, fun onBus misses => ?_, fun onBus airing holds => ?_, fun onBus airing new fits fills' => ?_,
    fun onBus airing new fits free e isEntry => ?_⟩
  · have answer : admission ask s = .refusedLeaving := admission_leaving leaving
    exact refused answer (by decide) (by rw [admitAsk, show admission ask (noted f s) = _ from answer]; rfl)
  · have answer : admission ask s = .refusedNotZone := by
      rcases misses with quiet | ⟨airing, new, misfits⟩
      · exact admission_notAiring onBus quiet
      · rw [admission_airing onBus airing, if_neg (mt found.mpr new), if_pos (misfit.mp misfits)]
    exact refused answer (by decide) (by rw [admitAsk, show admission ask (noted f s) = _ from answer]; rfl)
  · have answer : admission ask s = .accepted := by rw [admission_airing onBus airing, if_pos (found.mp holds)]
    exact exec_airRequest own joined asks room answer (admitAsk_merged (s := noted f s) answer (found.mp holds))
  · have answer : admission ask s = .refusedFull := by
      rw [admission_airing onBus airing, if_neg (mt found.mpr new), if_neg (mt misfit.mpr fits), if_pos (fills.mp fills')]
    exact refused answer (by decide) (by rw [admitAsk, show admission ask (noted f s) = _ from answer]; rfl)
  · have answer : admission ask s = .accepted := by
      rw [admission_airing onBus airing, if_neg (mt found.mpr new), if_neg (mt misfit.mpr fits), if_neg (mt fills.mpr free)]
    have absent : findAir s ask.tag = none := Option.not_isSome_iff_eq_none.mp (mt found.mpr new)
    subst isEntry
    exact exec_airRequest own joined asks room answer (admitAsk_accepted (s := noted f s) answer absent)

/-! ## Withdrawal (R81, R87) -/

section Withdrawal

variable {heard : List BusChar} {f : Received} {g : Tag} {s : State}

/-- R81, R157: a WITHDRAW that a member takes. -/
theorem exec_withdraw (own : hearsOwn .withdraw heard f s) (joined : member s = true)
    (payload : f.payload = [g.home, g.slot, g.gen, g.attempt]) :
    exec (.withdraw heard) s = .next (takeWithdraw f g (noted f s)) :=
  congrArg _ (takeFrame_member own joined (by rw [payload]; rfl) takeWithdraw s.pins.offpeak)

/-- R81, R87: no queue holds the tag. -/
theorem withdraw_unknown (absent : findAir s g = none) (w : PendingWithdraw) :
    withdrawal g s = .unknown ∧ withdrawAir g w s = { s with air := { s.air with
      counts := { s.air.counts with withdrawUnknown := min (s.air.counts.withdrawUnknown + 1) 65535 } } } := by
  have outcome : withdrawal g s = .unknown := by rw [withdrawal, absent]
  exact ⟨outcome, by rw [withdrawAir, outcome]; rfl⟩

/-- R81, R87: the entry is QUEUED. -/
theorem withdraw_queued {e : AirEntry} (found : findAir s g = some e) (queued : e.state = .queued) (w : PendingWithdraw) :
    withdrawal g s = .withdrawn ∧ withdrawAir g w s = { s with air := { s.air with
      regular := s.air.regular.filter fun x => x.tag != g, priority := s.air.priority.filter fun x => x.tag != g,
      counts := { s.air.counts with withdrawnAtOnce := min (s.air.counts.withdrawnAtOnce + 1) 65535 } } } := by
  have outcome : withdrawal g s = .withdrawn := by simp only [withdrawal, found, queued, if_true]
  exact ⟨outcome, by rw [withdrawAir, outcome]; rfl⟩

/-- R81, R87: the entry is PACKED or DONE-IN-CYCLE. -/
theorem withdraw_underWay {e : AirEntry} (found : findAir s g = some e) (past : e.state ≠ .queued) (w : PendingWithdraw) :
    withdrawal g s = .deferred ∧ withdrawAir g w s = { s with air := { s.air with
      regular := s.air.regular.map fun x => if x.tag = g then { x with withdraw := some w } else x,
      priority := s.air.priority.map fun x => if x.tag = g then { x with withdraw := some w } else x,
      counts := { s.air.counts with withdrawDeferred := min (s.air.counts.withdrawDeferred + 1) 65535 } } } := by
  have outcome : withdrawal g s = .deferred := by simp only [withdrawal, found, past, if_false]
  exact ⟨outcome, by rw [withdrawAir, outcome]; rfl⟩

end Withdrawal

/-- Settles O28: by the outcome of `withdrawal`. -/
theorem withdrawIsAnsweredOrOwed : Obligations.WithdrawIsAnsweredOrOwed := by
  unfold Obligations.WithdrawIsAnsweredOrOwed
  rintro heard f g n s own joined payload room rfl
  rw [exec_withdraw own joined payload, takeWithdraw]
  refine ⟨fun absent => ?_, fun e found => ⟨fun queued => ?_, fun past keep isKeep => ?_⟩⟩
  · obtain ⟨outcome, effect⟩ := withdraw_unknown (s := noted f s) (findAir_eq_none_iff.mpr absent) _
    rw [outcome]
    exact congrArg _ (answerTo_noted_air room effect .withdrawn [1])
  · obtain ⟨outcome, effect⟩ := withdraw_queued (s := noted f s) found queued _
    rw [outcome]
    exact congrArg _ (answerTo_noted_air room effect .withdrawn [0])
  · obtain ⟨outcome, effect⟩ := withdraw_underWay (s := noted f s) found past _
    rw [outcome, isKeep]
    exact congrArg _ effect

end Sys2Proof.Machine
end

section
/-! The starts of a cycle (R72 to R74, R89) and the cells that it hands (R79, R80). -/

namespace Sys2Proof.Machine

/-! ## Cycle starts -/

section Starts

variable {s : State}

theorem anyQueued_iff : anyQueued s = true ↔ ∃ e ∈ s.air.regular ++ s.air.priority, e.state = .queued :=
  List.any_eq_true.trans (exists_congr fun _ => and_congr_right fun _ => beq_iff_eq)

theorem airEmpty_iff : airEmpty s = true ↔ s.air.regular = [] ∧ s.air.priority = [] := by
  rw [airEmpty, Bool.and_eq_true, List.isEmpty_iff, List.isEmpty_iff]

theorem mayStartFree_iff : mayStartFree s = true ↔ member s = true ∧ (cfg s).mode = .free ∧ s.air.cycle = none
    ∧ ∃ e ∈ s.air.regular ++ s.air.priority, e.state = .queued := by
  simp only [mayStartFree, Bool.and_eq_true, beq_iff_eq, Option.isNone_iff_eq_none, anyQueued_iff, and_assoc]

/-- R72: a cycle as it starts. -/
def startedCycle (now : Tick) (keyed : Bool) : Cycle :=
  { start := now, keyed := keyed, nextSlot := 0, slotBegin := 0, cells := [], continuing := none, stopped := false,
    report := [], pageCells := 0, idleCells := 0, skipped := 0 }

/-- R72, R73: a keyed cycle of FREE mode hands the sync cell and leaves the cycle timer alone. -/
theorem startNextFree_starts (joined : member s = true) (mode : (cfg s).mode = .free) (idle : s.air.cycle = none)
    (queued : ∃ e ∈ s.air.regular ++ s.air.priority, e.state = .queued) : startNextFree s = { s with air := { s.air with
      cycle := some (startedCycle s.tick true), key := true, lastCell := some 0xB4E61D } } := by
  rw [startNextFree, if_pos (mayStartFree_iff.mpr ⟨joined, mode, idle, queued⟩)]
  simp only [startCycle, anyQueued_iff.mpr queued, mode, reduceCtorEq, if_false, if_true]
  rfl

/-- R73: outside FREE mode, or with nothing QUEUED, no cycle starts of itself. -/
theorem startNextFree_waits (waits : ¬ (member s = true ∧ (cfg s).mode = .free
    ∧ ∃ e ∈ s.air.regular ++ s.air.priority, e.state = .queued)) : startNextFree s = s :=
  if_neg fun may => by
    obtain ⟨joined, mode, -, queued⟩ := mayStartFree_iff.mp may
    exact waits ⟨joined, mode, queued⟩

/-- R72, R74: in ALIGNED mode a cycle that starts restarts the cycle timer. -/
theorem startCycle_aligned (mode : (cfg s).mode = .aligned) : startCycle s = { s with air := { s.air with
    cycle := some (startedCycle s.tick (anyQueued s)),
    timer := some (s.tick + BitVec.ofNat 32 (19 * (cfg s).slotTime)), key := anyQueued s,
    lastCell := if anyQueued s then some syncCell else s.air.lastCell } } := by
  simp only [startCycle, mode, if_true]
  rfl

/-- R74: the cycle timer of a member comes due between two cycles. -/
theorem exec_cycleTimerExpiry_due {due : Tick} (joined : s.life.state = .onBus ∨ s.life.state = .leaving)
    (mode : (cfg s).mode = .aligned) (idle : s.air.cycle = none) (timer : s.air.timer = some due)
    (past : 0 ≤ (s.tick - due).toInt) : exec .cycleTimerExpiry s = .next (cycleTimerEffect s) := by
  have joined : member s = true := by rcases joined with state | state <;> simp only [member, state]
  exact congrArg _ (if_pos ⟨joined, mode, idle, timerReached_of_toInt timer past⟩)

end Starts

/-- Settles O46: by the mode, and by what the timer finds when it comes due. -/
theorem cyclesStart : Obligations.CyclesStart := by
  unfold Obligations.CyclesStart
  refine ⟨fun s joined mode idle queued =>
    ⟨_, congrArg _ (startNextFree_starts joined mode idle queued), rfl, rfl, rfl, rfl, rfl, rfl, rfl⟩,
    fun due s mode idle timer past => ⟨fun leaving regular priority => ?_, fun joined => ?_⟩⟩
  · rw [exec_cycleTimerExpiry_due (.inr leaving) mode idle timer past, cycleTimerEffect,
      if_pos ⟨leaving, airEmpty_iff.mpr ⟨regular, priority⟩⟩]
    rfl
  · have acts : ¬ (s.life.state = .leaving ∧ airEmpty s = true) := by
      rintro ⟨leaving, empty⟩
      obtain ⟨regular, priority⟩ := airEmpty_iff.mp empty
      rcases joined with onBus | ⟨-, holds | holds⟩
      · exact absurd (onBus.symm.trans leaving) (by decide)
      · exact holds regular
      · exact holds priority
    rw [exec_cycleTimerExpiry_due (joined.imp_right And.left) mode idle timer past, cycleTimerEffect, if_neg acts]
    refine ⟨fun noMark => ?_, fun mark => ?_⟩
    · simp only [noMark, Bool.false_eq_true, if_false]
      rfl
    · simp only [mark, if_true]
      rw [startCycle_aligned (s := clearMark s) mode]
      exact ⟨_, _, rfl, rfl, rfl, rfl, rfl, rfl, rfl, rfl, rfl⟩

/-! ## Cells (R79, R80) -/

section Cells

variable {y : Cycle} {c : SlotCell} {rest : List SlotCell} {g : Tag} {a : Air} {s : State}

theorem exec_cellHanded_due (cycle : s.air.cycle = some y) (cells : y.cells = c :: rest)
    (due : instantReached s.tick y.start (y.slotBegin + (7 - rest.length) * (cfg s).slotTime) = true) :
    exec .cellHanded s = .next (s.mapAir (handCell c rest y)) := by
  change execCellHanded s = _
  simp only [execCellHanded, cycle, cells, due, if_true]

theorem handCell_idle (idle : c.page = none) : handCell c rest y a =
    { a with lastCell := some c.bits, cycle := some { y with cells := rest, idleCells := y.idleCells + 1 } } := by
  simp only [handCell, idle]

/-- R80: a cell of a page with more to come leaves the page PACKED. -/
theorem handCell_more (page : c.page = some g) (more : c.last = false) : handCell c rest y a =
    { a with lastCell := some c.bits, cycle := some { y with cells := rest, pageCells := y.pageCells + 1 } } := by
  simp only [handCell, page, more, Bool.false_eq_true, and_false, if_false, List.map_id']

/-- R80: the last cell of a page makes it DONE-IN-CYCLE, in its queue and on the report list. -/
theorem handCell_last (page : c.page = some g) (last : c.last = true) : handCell c rest y a = { a with
    regular := a.regular.map fun e => if e.tag = g then { e with state := .done } else e,
    priority := a.priority.map fun e => if e.tag = g then { e with state := .done } else e,
    lastCell := some c.bits,
    cycle := some { y with
      cells := rest, pageCells := y.pageCells + 1,
      report := y.report.map fun i => if i.tag = g ∧ i.outcome = .started then { i with outcome := .done } else i } } := by
  simp only [handCell, page, last, and_true, if_true]
  rfl

end Cells

/-- Settles O48: by what the cell belongs to. -/
theorem cellIsHanded : Obligations.CellIsHanded := by
  unfold Obligations.CellIsHanded
  rintro y c rest s cycle cells due
  rw [exec_cellHanded_due cycle cells due, State.mapAir]
  refine ⟨fun idle => ?_, fun g page more => ?_, fun g done page last isDone => ?_⟩
  · rw [handCell_idle idle]
  · rw [handCell_more page more]
  · rw [handCell_last page last, isDone]

end Sys2Proof.Machine
end

section
/-! The packing of an air slot: the slot skipped, or filled with the continuing page, the pages started and idle cells (R76 to
R78). -/

namespace Sys2Proof.Machine

/-! ## The cells of a page -/

theorem length_pageCells {e : AirEntry} (two : 2 ≤ e.cells) : (pageCells e).length = e.cells := by
  simp only [pageCells, List.length_take, List.length_cons, List.length_map, List.length_range]
  omega

theorem map_pageSlotCells (g : Tag) (here : List LinkCell) (complete : Bool) :
    (pageSlotCells g here complete).map (fun x => (x.bits, x.page)) = here.map fun b => (b, some g) := by
  rw [pageSlotCells, List.map_map]
  calc here.zipIdx.map _ = (here.zipIdx.map Prod.fst).map fun b => (b, some g) := by rw [List.map_map]; rfl
    _ = here.map fun b => (b, some g) := by rw [List.zipIdx_map_fst]

/-- R76: a page with cells left for a later slot has no last cell in this one. -/
theorem last_pageSlotCells {g : Tag} {here : List LinkCell} {x : SlotCell} (mem : x ∈ pageSlotCells g here false) :
    x.last = false := by
  obtain ⟨_, -, rfl⟩ := List.mem_map.mp mem
  rfl

/-- R76: the cells of a page at the front of the slot. -/
theorem take_of_pageSlotCells_prefix {g : Tag} {here : List LinkCell} {complete : Bool} {cells : List SlotCell} {n : Nat}
    (first : pageSlotCells g here complete <+: cells) (all : (cells.take n).length = here.length) :
    (cells.take n).map (fun x => (x.bits, x.page)) = here.map fun b => (b, some g) := by
  have front : pageSlotCells g here complete = cells.take n :=
    (List.prefix_of_prefix_length_le first (List.take_prefix n cells) (by rw [length_pageSlotCells, all])).eq_of_length
      (by rw [length_pageSlotCells, all])
  rw [← front, map_pageSlotCells]

/-! ## Pages started (R78) -/

section Pages

variable {p q r : Packing} {e : AirEntry} {urgent : Bool} {later fuel : Nat} {g : Tag}

/-- R78: an entry once the page of a tag is started. -/
def packEntry (g : Tag) (x : AirEntry) : AirEntry := if x.tag = g then { x with state := .packed } else x

@[simp] theorem tag_packEntry (g : Tag) (x : AirEntry) : (packEntry g x).tag = x.tag := by
  unfold packEntry
  split <;> rfl

theorem state_packEntry_same {x : AirEntry} (same : x.tag = g) : (packEntry g x).state = .packed := by
  rw [packEntry, if_pos same]

theorem state_packEntry_packed (g : Tag) {x : AirEntry} (packed : x.state = .packed) : (packEntry g x).state = .packed := by
  unfold packEntry
  split
  · rfl
  · exact packed

/-- R78: every entry of the tag is PACKED. -/
def TagPacked (g : Tag) (p : Packing) : Prop := ∀ x ∈ p.regular ++ p.priority, x.tag = g → x.state = .packed

/-- R76, R78: what the starting of pages keeps: cells and tags once listed stay, the queues keep their order, and a page once
PACKED stays so. -/
structure PackingGrows (p q : Packing) : Prop where
  cells : p.cells <+: q.cells
  report : p.report <+: q.report
  regular : q.regular.map (·.tag) = p.regular.map (·.tag)
  priority : q.priority.map (·.tag) = p.priority.map (·.tag)
  packed : ∀ g, TagPacked g p → TagPacked g q

theorem PackingGrows.refl (p : Packing) : PackingGrows p p := ⟨List.prefix_rfl, List.prefix_rfl, rfl, rfl, fun _ h => h⟩

theorem PackingGrows.trans (h : PackingGrows p q) (k : PackingGrows q r) : PackingGrows p r :=
  ⟨h.cells.trans k.cells, h.report.trans k.report, k.regular.trans h.regular, k.priority.trans h.priority,
    fun g packed => k.packed g (h.packed g packed)⟩

/-- R78 step 3: an entry of the queues after a page is started. -/
theorem mem_startPage {x : AirEntry} (mem : x ∈ (startPage e urgent p).regular ++ (startPage e urgent p).priority) :
    ∃ w ∈ p.regular ++ p.priority, x = packEntry e.tag w := by
  have mem : x ∈ (p.regular ++ p.priority).map (packEntry e.tag) := List.map_append ▸ mem
  obtain ⟨w, among, rfl⟩ := List.mem_map.mp mem
  exact ⟨w, among, rfl⟩

theorem tagPacked_startPage (e : AirEntry) (urgent : Bool) (p : Packing) : TagPacked e.tag (startPage e urgent p) := by
  intro x mem same
  obtain ⟨w, -, rfl⟩ := mem_startPage mem
  exact state_packEntry_same (by rwa [tag_packEntry] at same)

theorem packingGrows_startPage (e : AirEntry) (urgent : Bool) (p : Packing) : PackingGrows p (startPage e urgent p) where
  cells := List.prefix_append _ _
  report := List.prefix_append _ _
  regular := (List.map_map ..).trans (List.map_congr_left fun x _ => tag_packEntry e.tag x)
  priority := (List.map_map ..).trans (List.map_congr_left fun x _ => tag_packEntry e.tag x)
  packed g before x mem same := by
    obtain ⟨w, among, rfl⟩ := mem_startPage mem
    exact state_packEntry_packed e.tag (before w among (by rwa [tag_packEntry] at same))

theorem packingGrows_startPages (later fuel : Nat) (p : Packing) : PackingGrows p (startPages later fuel p) := by
  induction fuel generalizing p with
  | zero => exact .refl p
  | succ fuel ih =>
    unfold startPages
    split
    · exact .refl p
    · split
      · exact .refl p
      · split
        · exact (packingGrows_startPage _ _ p).trans (ih _)
        · exact ⟨List.prefix_rfl, List.prefix_rfl, rfl, rfl, fun _ h => h⟩

/-- R78 step 1: the head of the priority queue comes before that of the regular one. -/
theorem candidate_of_find (found : (p.priority ++ p.regular).find? (fun x => x.state == .queued) = some e) :
    candidate p = some (e, p.priority.any fun x => x.state == .queued) := by
  rw [List.find?_append] at found
  unfold candidate
  split
  · next x first =>
    rw [first, Option.some_or] at found
    have queued := List.find?_some first
    have among : p.priority.any (fun x => x.state == .queued) = true :=
      List.any_eq_true.mpr ⟨x, List.mem_of_find?_eq_some first, queued⟩
    rw [Option.some.inj found, among]
  · next none =>
    rw [none, Option.none_or] at found
    have absent : p.priority.any (fun x => x.state == .queued) = false :=
      List.any_eq_false.mpr (List.find?_eq_none.mp none)
    rw [found, absent, Option.map_some]

/-- R78 step 2: the candidate that fits the cycle and has not been returned is started. -/
theorem startPages_starts (goes : p.stopped = false) (room : p.cells.length < 8) (next : candidate p = some (e, urgent))
    (fits : e.cells ≤ 8 - p.cells.length + later) (fresh : e.returned = false) :
    startPages later (fuel + 1) p = startPages later fuel (startPage e urgent p) := by
  have acts : ¬ (p.stopped = true ∨ 8 ≤ p.cells.length) := by rw [goes]; simpa using room
  simp only [startPages, if_neg acts, next, fits, fresh, and_self, if_true]

/-- R78 step 2: the starting of pages stops at a candidate that does not fit or has been returned. -/
theorem startPages_stops (goes : p.stopped = false) (room : p.cells.length < 8) (next : candidate p = some (e, urgent))
    (misfit : ¬ (e.cells ≤ 8 - p.cells.length + later ∧ e.returned = false)) :
    startPages later (fuel + 1) p = { p with stopped := true } := by
  have acts : ¬ (p.stopped = true ∨ 8 ≤ p.cells.length) := by rw [goes]; simpa using room
  simp only [startPages, if_neg acts, next, if_neg misfit]

/-- R76: a slot with its cells assigned starts no page. -/
theorem startPages_full (full : 8 ≤ p.cells.length) : startPages later fuel p = p := by
  cases fuel with
  | zero => rfl
  | succ fuel => rw [startPages, if_pos (.inr full)]

end Pages

/-! ## The slot (R76, R77) -/

section Slot

variable {slot : Nat} {y : Cycle} {c : Continuing} {e : AirEntry} {a : Air} {s : State}

/-- R76: READY is read at the start of the slot. -/
theorem exec_slotStart_due (ready : Bool) (cycle : s.air.cycle = some y) (keyed : y.keyed = true) (handed : y.cells = [])
    (next : nextEnabled (cfg s) y = some slot)
    (due : instantReached s.tick y.start (slotOffset (cfg s) slot) = true) : exec (.slotStart ready) s = .next
      { s with
        pins := { s.pins with ready := ready },
        air := (if ready then
          fillSlot (8 * ((enabledSlots (cfg s)).filter fun j => decide (slot < j)).length) slot (slotOffset (cfg s) slot) y
          else skipSlot slot (slotOffset (cfg s) slot) y) s.air } := by
  change execSlotStart ready s = _
  simp only [execSlotStart, startableSlot, cycle, next, keyed, handed, due, and_self, if_true]
  rfl

/-- R76: the slot as packed, before its idle cells. -/
def slotPacking (later : Nat) (y : Cycle) (a : Air) : Packing := startPages later 8 (continuePage a y)

/-- R76: the cells of the slot, idle ones after the assigned ones. -/
def slotCells (p : Packing) : List SlotCell :=
  p.cells ++ List.replicate (8 - p.cells.length) { bits := idleCell, page := none, last := false }

theorem length_slotCells {p : Packing} (few : p.cells.length ≤ 8) : (slotCells p).length = 8 := by
  rw [slotCells, List.length_append, List.length_replicate]
  omega

theorem slotCells_full {p : Packing} (full : 8 ≤ p.cells.length) : slotCells p = p.cells := by
  rw [slotCells, Nat.sub_eq_zero_of_le full, List.replicate_zero, List.append_nil]

theorem fillSlot_eq (later slot begins : Nat) (y : Cycle) (a : Air) : fillSlot later slot begins y a =
    let p := slotPacking later y a
    { a with
      regular := p.regular, priority := p.priority,
      cycle := some { y with nextSlot := slot + 1, slotBegin := begins, cells := slotCells p, continuing := p.continuing,
                             stopped := p.stopped, report := p.report } } := rfl

theorem length_slotPacking (later : Nat) (y : Cycle) (a : Air) : (slotPacking later y a).cells.length ≤ 8 :=
  (packingFits_startPages later 8 (packingFits_continuePage a y)).cells

/-- R76: a slot that no page continues into, before pages are started. -/
def emptyPacking (y : Cycle) (a : Air) : Packing :=
  { regular := a.regular, priority := a.priority, cells := [], continuing := none, stopped := y.stopped, report := y.report }

theorem slotPacking_empty (still : y.continuing = none) (later : Nat) (a : Air) :
    slotPacking later y a = startPages later 8 (emptyPacking y a) := by
  simp only [slotPacking, continuePage, still]
  rfl

theorem continuePage_cells (continues : y.continuing = some c) :
    (continuePage a y).cells = pageSlotCells c.tag (c.cells.take 8) (c.cells.drop 8).isEmpty := by
  simp only [continuePage, continues]

theorem continuePage_queues (a : Air) (y : Cycle) :
    (continuePage a y).regular = a.regular ∧ (continuePage a y).priority = a.priority := by
  unfold continuePage
  split <;> exact ⟨rfl, rfl⟩

/-- R67: the queues keep their entries in order while a slot is packed. -/
theorem tags_slotPacking (later : Nat) (y : Cycle) (a : Air) :
    (slotPacking later y a).regular.map (·.tag) = a.regular.map (·.tag)
      ∧ (slotPacking later y a).priority.map (·.tag) = a.priority.map (·.tag) := by
  have grows := packingGrows_startPages later 8 (continuePage a y)
  obtain ⟨regular, priority⟩ := continuePage_queues a y
  exact ⟨regular ▸ grows.regular, priority ▸ grows.priority⟩

/-- R76: the continuing page comes first. -/
theorem slotCells_continue (later : Nat) (continues : y.continuing = some c) :
    ((slotCells (slotPacking later y a)).take (min 8 c.cells.length)).map (fun x => (x.bits, x.page)) =
      (c.cells.take 8).map fun b => (b, some c.tag) := by
  have first := (packingGrows_startPages later 8 (continuePage a y)).cells
  rw [continuePage_cells continues] at first
  refine take_of_pageSlotCells_prefix (first.trans (List.prefix_append _ _)) ?_
  rw [List.length_take, length_slotCells (length_slotPacking later y a), List.length_take]
  omega

/-- R78: with nothing continuing, a head that does not fit or has been returned stops the starting of pages. -/
theorem slotPacking_stops {later : Nat} (still : y.continuing = none) (goes : y.stopped = false)
    (head : (a.priority ++ a.regular).find? (fun x => x.state == .queued) = some e)
    (misfit : e.returned = true ∨ 8 + later < e.cells) :
    slotPacking later y a = { emptyPacking y a with stopped := true } := by
  rw [slotPacking_empty still]
  refine startPages_stops goes (Nat.zero_lt_succ 7) (candidate_of_find (p := emptyPacking y a) head) ?_
  rintro ⟨fits, fresh⟩
  rcases misfit with returned | large
  · rw [returned] at fresh
    cases fresh
  · exact absurd fits (Nat.not_le.mpr large)

/-- R78: with nothing continuing, a head that fits is started before any other page. -/
theorem slotPacking_starts {later : Nat} (still : y.continuing = none) (goes : y.stopped = false)
    (head : (a.priority ++ a.regular).find? (fun x => x.state == .queued) = some e) (fresh : e.returned = false)
    (fits : e.cells ≤ 8 + later) : slotPacking later y a = startPages later 7
      (startPage e (a.priority.any fun x => x.state == .queued) (emptyPacking y a)) := by
  rw [slotPacking_empty still]
  exact startPages_starts goes (Nat.zero_lt_succ 7) (candidate_of_find (p := emptyPacking y a) head) fits fresh

theorem cells_startPage_empty (e : AirEntry) (urgent : Bool) (y : Cycle) (a : Air) :
    (startPage e urgent (emptyPacking y a)).cells =
      pageSlotCells e.tag ((pageCells e).take 8) ((pageCells e).drop 8).isEmpty := rfl

/-- R76, R78: the first page of a slot has its first cells. -/
theorem slotCells_starts {later fuel : Nat} {urgent : Bool} (two : 2 ≤ e.cells) {p : Packing}
    (packed : p = startPages later fuel (startPage e urgent (emptyPacking y a))) (few : p.cells.length ≤ 8) :
    ((slotCells p).take e.cells).map (fun x => (x.bits, x.page)) =
      ((pageCells e).take 8).map fun b => (b, some e.tag) := by
  have first := (packingGrows_startPages later fuel (startPage e urgent (emptyPacking y a))).cells
  rw [← packed, cells_startPage_empty] at first
  refine take_of_pageSlotCells_prefix (first.trans (List.prefix_append _ _)) ?_
  rw [List.length_take, length_slotCells few, List.length_take, length_pageCells two]
  exact Nat.min_comm _ _

/-- R76, R78: a page of more than 8 cells fills the slot and continues. -/
theorem startPages_continues {later fuel : Nat} {urgent : Bool} (long : 8 < e.cells) :
    startPages later fuel (startPage e urgent (emptyPacking y a)) = startPage e urgent (emptyPacking y a)
      ∧ (startPage e urgent (emptyPacking y a)).continuing = some { tag := e.tag, cells := (pageCells e).drop 8 }
      ∧ ∀ x ∈ slotCells (startPage e urgent (emptyPacking y a)), x.last = false := by
  have length : (pageCells e).length = e.cells := length_pageCells (by omega)
  have more : ((pageCells e).drop 8).isEmpty = false := by
    rw [List.isEmpty_eq_false_iff, ← List.length_pos_iff, List.length_drop]
    omega
  have full : 8 ≤ (startPage e urgent (emptyPacking y a)).cells.length := by
    rw [cells_startPage_empty, length_pageSlotCells, List.length_take]
    omega
  refine ⟨startPages_full full, if_neg (Bool.eq_false_iff.mp more), fun x mem => ?_⟩
  rw [slotCells_full full, cells_startPage_empty, more] at mem
  exact last_pageSlotCells mem

theorem skipSlot_still (still : y.continuing = none) (slot begins : Nat) (a : Air) : skipSlot slot begins y a =
    { a with cycle := some { y with
      nextSlot := slot + 1, slotBegin := begins, cells := [], skipped := y.skipped + 1 } } := by
  simp only [skipSlot, still]

/-- R77: the continuing page is returned. -/
theorem skipSlot_returns (continues : y.continuing = some c) (slot begins : Nat) (a : Air) : skipSlot slot begins y a =
    { a with
      regular := a.regular.map (returnEntry c.tag), priority := a.priority.map (returnEntry c.tag),
      cycle := some { y with
        nextSlot := slot + 1, slotBegin := begins, cells := [], skipped := y.skipped + 1, continuing := none,
        report := markReport c.tag .returned y.report } } := by
  simp only [skipSlot, continues]

end Slot

/-- Settles O47: by the level of READY, the continuing page and the head that comes next. -/
theorem slotIsFilledOrSkipped : Obligations.SlotIsFilledOrSkipped := by
  unfold Obligations.SlotIsFilledOrSkipped
  rintro slot room y s cycle keyed handed next due rfl
  have starts (ready : Bool) := exec_slotStart_due ready cycle keyed handed next due
  refine ⟨?_, ?_⟩
  · cases continues : y.continuing with
    | none =>
      have skips := starts false
      simp only [Bool.false_eq_true, if_false, skipSlot_still continues] at skips
      exact ⟨_, _, skips, rfl, rfl, rfl, rfl, continues, rfl, by simp, fun _ => ⟨rfl, rfl⟩⟩
    | some c =>
      have skips := starts false
      simp only [Bool.false_eq_true, if_false, skipSlot_returns continues] at skips
      refine ⟨_, _, skips, rfl, rfl, rfl, rfl, rfl, rfl, fun x same q isQ => ?_, fun no => by cases no⟩
      obtain rfl := Option.some.inj same
      rw [isQ]
      exact ⟨rfl, rfl⟩
  · have fills := starts true
    generalize isLater : 8 * ((enabledSlots (cfg s)).filter fun j => decide (slot < j)).length = later at fills ⊢
    simp only [if_true, fillSlot_eq] at fills
    obtain ⟨regular, priority⟩ := tags_slotPacking later y s.air
    refine ⟨_, _, fills, rfl, rfl, rfl, length_slotCells (length_slotPacking later y s.air), regular, priority,
      fun c continues => slotCells_continue later continues,
      fun e still goes head => ⟨fun misfit => ?_, fun fresh two fits item isItem => ?_⟩⟩
    · have stops := slotPacking_stops still goes head misfit
      rw [stops]
      refine ⟨rfl, rfl, rfl, rfl, fun x mem => ?_⟩
      obtain rfl := List.eq_of_mem_replicate mem
      exact ⟨rfl, rfl⟩
    · have packed := slotPacking_starts still goes head fresh fits
      have few := length_slotPacking later y s.air
      have grows := packingGrows_startPages later 7
        (startPage e (s.air.priority.any fun x => x.state == .queued) (emptyPacking y s.air))
      rw [← packed] at grows
      subst isItem
      refine ⟨grows.report.subset (List.mem_append_right _ (List.mem_singleton_self _)),
        grows.packed _ (tagPacked_startPage _ _ _), slotCells_starts two packed few, fun long => ?_⟩
      obtain ⟨only, continues, last⟩ := startPages_continues (later := later) (fuel := 7)
        (urgent := s.air.priority.any fun x => x.state == .queued) (y := y) (a := s.air) long
      rw [packed, only]
      exact ⟨continues, goes, rfl, last⟩

end Sys2Proof.Machine
end

section
/-! What the settling of a delivery leaves of the Air Scheduler (R53, R59, R61): all of it, for an attempt that closes with no
zone that could air has no zone to withdraw. -/

namespace Sys2Proof.Machine

@[simp] theorem air_produceFor (i : Nat) (fill : Subscriber → BillingRecord) (s : State) :
    (produceFor i fill s).air = s.air := by
  unfold produceFor produceRecord
  split
  · dsimp only
    split <;> rfl
  · rfl

@[simp] theorem air_modifyRecord (i : Nat) (f : Subscriber → Subscriber) (s : State) :
    (modifyRecord i f s).air = s.air := rfl

@[simp] theorem air_mapDelivery (k : Fin 256) (f : Delivery → Delivery) (s : State) : (mapDelivery k f s).air = s.air := rfl

@[simp] theorem air_setZone (k : Fin 256) (z : Nat) (st : ZoneState) (s : State) : (setZone k z st s).air = s.air := rfl

@[simp] theorem air_freeSlot (k : Fin 256) (s : State) : (freeSlot k s).air = s.air := rfl

@[simp] theorem air_quotaWatch (i before after : Nat) (s : State) : (quotaWatch i before after s).air = s.air := by
  unfold quotaWatch
  dsimp only
  split <;> split <;> simp

@[simp] theorem air_attemptCharge (k : Fin 256) (d : Delivery) (a z : Nat) (s : State) :
    (attemptCharge k d a z s).air = s.air := by
  unfold attemptCharge
  split <;> simp

@[simp] theorem air_countAttempt (k : Fin 256) (d : Delivery) (a : Attempt) (s : State) :
    (countAttempt k d a s).air = s.air := by
  unfold countAttempt
  split <;> simp

@[simp] theorem air_missCredit (k : Fin 256) (d : Delivery) (s : State) : (missCredit k d s).air = s.air := by
  unfold missCredit
  dsimp only
  split <;> simp

@[simp] theorem air_terminalCredit (k : Fin 256) (d : Delivery) (o : Terminal) (s : State) :
    (terminalCredit k d o s).air = s.air := by
  cases o with
  | delivered => rfl
  | expired => exact air_missCredit k d s
  | cancelled => simp [terminalCredit, cancelCredit]

@[simp] theorem air_endDelivery (k : Fin 256) (o : Terminal) (s : State) : (endDelivery k o s).air = s.air := by
  unfold endDelivery
  split <;> simp

@[simp] theorem air_enterRetry (k : Fin 256) (s : State) : (enterRetry k s).air = s.air := by
  unfold enterRetry
  split <;> rfl

@[simp] theorem air_nextStep (k : Fin 256) (o : AttemptOutcome) (s : State) : (nextStep k o s).air = s.air := by
  unfold nextStep
  repeat' split
  all_goals simp

@[simp] theorem air_settle (k : Fin 256) (s : State) : (settle k s).air = s.air := by
  unfold settle
  repeat' split
  all_goals simp

@[simp] theorem air_settleIfResolved (k : Fin 256) (s : State) : (settleIfResolved k s).air = s.air := by
  unfold settleIfResolved
  repeat' split
  all_goals simp

@[simp] theorem air_startAckWait (k : Fin 256) (s : State) : (startAckWait k s).air = s.air := by
  unfold startAckWait
  repeat' split
  all_goals rfl

@[simp] theorem air_freeZoneEntry (k : Fin 256) (z : Nat) (s : State) : (freeZoneEntry k z s).air = s.air := by
  unfold freeZoneEntry
  split <;> rfl

@[simp] theorem air_answerTo (k : FrameKind) (dest : Nat) (seq : Byte) (payload : List Byte) (s : State) :
    (answerTo k dest seq payload s).air = s.air := by
  rw [answerTo_bus]

/-- R53: an AIRED tag leaves the Air Scheduler alone. -/
@[simp] theorem air_takeAired (z : Nat) (s : State) (g : Tag) : (takeAired z s g).air = s.air := by
  unfold takeAired
  split <;> simp

/-- R59, R60: an exhausted attempt withdraws nothing from the air. -/
@[simp] theorem air_closeIfExhausted (k : Fin 256) (s : State) : (closeIfExhausted k s).air = s.air := by
  unfold closeIfExhausted
  split
  · next d held =>
    split
    · next a attempt =>
      split
      · next exhausted => simp [closeAttempt_of_exhausted held attempt exhausted.2]
      · rfl
    · rfl
  · rfl

@[simp] theorem air_resolveZone (k : Fin 256) (z : Nat) (st : ZoneState) (s : State) :
    (resolveZone k z st s).air = s.air := by
  simp [resolveZone, afterResolved]

end Sys2Proof.Machine
end

section
/-! The end of a cycle: its reports and owed answers (R82 to R85), the queues and counts after them (R86), and the cycle of FREE
mode that follows (R72, R73). -/

namespace Sys2Proof.Machine

/-! ## What the reports leave alone -/

section Reported

variable {y : Cycle} {s : State}

/-- All that the reports and owed answers of a cycle leave alone. -/
def besidesReports (s : State) :
    Air × Tick × Pins × Life × Vector Plan 16 × List Range × Intake × Matcher × List Instr := (s.air, outsideStore s)

@[simp] theorem besidesReports_answerTo (k : FrameKind) (dest : Nat) (seq : Byte) (payload : List Byte) (s : State) :
    besidesReports (answerTo k dest seq payload s) = besidesReports s := by
  simp [besidesReports]

@[simp] theorem besidesReports_takeAired (z : Nat) (s : State) (g : Tag) :
    besidesReports (takeAired z s g) = besidesReports s := by
  simp [besidesReports]

@[simp] theorem besidesReports_ownWithdrawn (g : Tag) (s : State) :
    besidesReports (ownWithdrawn g s) = besidesReports s := by
  unfold ownWithdrawn
  split
  · split
    · simp [besidesReports]
    · rfl
  · rfl

theorem besidesReports_makeReports (y : Cycle) (s : State) : besidesReports (makeReports y s) = besidesReports s := by
  refine foldl_keeps besidesReports _ (fun t home => ?_) _ s
  unfold reportHome
  dsimp only
  split
  · exact foldl_keeps besidesReports _ (fun _ _ => besidesReports_takeAired _ _ _) _ t
  · exact foldl_keeps besidesReports _ (fun _ _ => besidesReports_answerTo _ _ _ _ _) _ t

theorem besidesReports_makeOwed (s : State) : besidesReports (makeOwed s) = besidesReports s := by
  refine foldl_keeps besidesReports _ (fun t home => foldl_keeps besidesReports _ (fun u e => ?_) _ t) _ s
  unfold answerOwed
  split
  · split <;> simp
  · rfl

/-- R82 steps 1 and 2: the station after the reports and the owed answers of the cycle. -/
def reported (y : Cycle) (s : State) : State := makeOwed (makeReports y s)

/-- R82: what a cycle end reads of the station after its reports. -/
theorem reported_keeps (y : Cycle) (s : State) : (reported y s).air = s.air ∧ (reported y s).tick = s.tick
    ∧ (reported y s).life = s.life := by
  have same : besidesReports (reported y s) = besidesReports s :=
    (besidesReports_makeOwed _).trans (besidesReports_makeReports y s)
  simp only [besidesReports, outsideStore, Prod.mk.injEq] at same
  obtain ⟨air, tick, -, life, -⟩ := same
  exact ⟨air, tick, life⟩

end Reported

/-! ## The queues, the counts and the cycle that follows (R72, R73, R82, R86) -/

section Ends

variable {offpeak : Bool} {y : Cycle} {s : State}

theorem exec_cycleEnd_due (offpeak : Bool) (cycle : s.air.cycle = some y) (handed : y.cells = [])
    (slots : y.keyed = true → nextEnabled (cfg s) y = none)
    (due : instantReached s.tick y.start (endOffset (cfg s)) = true) :
    exec (.cycleEnd offpeak) s = .next (startNextFree (endCycle y (withOffpeak offpeak s))) := by
  change execCycleEnd offpeak s = _
  simp only [execCycleEnd, cycle]
  rw [if_pos ⟨handed, slots, due⟩]

theorem endCycle_eq (y : Cycle) (s : State) : endCycle y s = { reported y s with air := closeCycle y s.air } := by
  rw [← (reported_keeps y s).1]
  rfl

/-- R72, R73: with these queues at the end of its cycle, the station starts the next one of FREE mode. -/
def RestartsFree (s : State) (a : Air) : Prop :=
  member s = true ∧ (cfg s).mode = .free ∧ ∃ e ∈ a.regular ++ a.priority, e.state = .queued

/-- R72, R73, R82, R86: the station after the cycle end, the next cycle of FREE mode started or not. -/
structure CycleEnded (y : Cycle) (s t : State) : Prop where
  frame : t = { reported y s with air := t.air }
  timer : t.air.timer = s.air.timer
  regular : t.air.regular = (closeCycle y s.air).regular
  priority : t.air.priority = (closeCycle y s.air).priority
  counts : t.air.cycleCounts = addCycle y s.air.cycleCounts
  restarts : RestartsFree s t.air →
    t.air.key = true ∧ t.air.lastCell = some 0xB4E61D ∧ t.air.cycle = some (startedCycle s.tick true)
  rests : ¬ RestartsFree s t.air → t.air.cycle = none ∧ t.air.key = false ∧ t.air.lastCell = s.air.lastCell

theorem cycleEnded (y : Cycle) (s : State) : CycleEnded y s (startNextFree (endCycle y s)) := by
  obtain ⟨-, tick, life⟩ := reported_keeps y s
  have joined : member (endCycle y s) = member s := by rw [endCycle_eq]; simp only [member, life]
  have config : cfg (endCycle y s) = cfg s := by rw [endCycle_eq]; simp only [cfg, life]
  have air : (endCycle y s).air = closeCycle y s.air := by rw [endCycle_eq]
  by_cases again : RestartsFree s (closeCycle y s.air)
  · obtain ⟨isMember, free, queued⟩ := again
    have starts := startNextFree_starts (joined.trans isMember) (config ▸ free) (by rw [air]; rfl) (by rwa [air])
    rw [endCycle_eq] at starts
    rw [endCycle_eq, starts]
    exact ⟨rfl, rfl, rfl, rfl, rfl, fun _ => ⟨rfl, rfl, congrArg (fun now => some (startedCycle now true)) tick⟩,
      fun no => absurd ⟨isMember, free, queued⟩ no⟩
  · have waits := startNextFree_waits (s := endCycle y s) (by rwa [joined, config, air])
    rw [endCycle_eq] at waits
    rw [endCycle_eq, waits]
    exact ⟨rfl, rfl, rfl, rfl, rfl, fun yes => absurd yes again, fun _ => ⟨rfl, rfl, rfl⟩⟩

end Ends

/-! ## Answers queued (R151, R157) -/

section Queued

variable {s : State} {fs : List Frame}

/-- R151: the station with frames added to its answer queue. -/
def answersQueued (fs : List Frame) (s : State) : State :=
  { s with bus := { s.bus with answers := s.bus.answers ++ fs } }

theorem answersQueued_nil (s : State) : answersQueued [] s = s := by
  rw [answersQueued, List.append_nil]

theorem answerTo_answersQueued (room : s.bus.answers.length + (fs.length + 1) ≤ 24) (k : FrameKind) (dest : Nat) (seq : Byte)
    (payload : List Byte) : answerTo k dest seq payload (answersQueued fs s) =
      answersQueued (fs ++ [frameFrom s k dest seq payload]) s := by
  have space : (answersQueued fs s).bus.answers.length < 24 := by
    rw [answersQueued, List.length_append]
    omega
  rw [answerTo, pushAnswer_room space, answersQueued, answersQueued, ← List.append_assoc]
  rfl

/-- R151: a fold whose steps each add frames to the answer queue adds them in order while it has room. -/
theorem foldl_answersQueued {α : Type} {act : State → α → State} {made : α → List Frame} {xs : List α}
    (step : ∀ x ∈ xs, ∀ fs, s.bus.answers.length + (fs ++ made x).length ≤ 24 →
      act (answersQueued fs s) x = answersQueued (fs ++ made x) s)
    (room : s.bus.answers.length + (fs ++ xs.flatMap made).length ≤ 24) :
    xs.foldl act (answersQueued fs s) = answersQueued (fs ++ xs.flatMap made) s := by
  induction xs generalizing fs with
  | nil => rw [List.foldl_nil, List.flatMap_nil, List.append_nil]
  | cons x xs ih =>
    rw [List.flatMap_cons, ← List.append_assoc] at room ⊢
    have first : s.bus.answers.length + (fs ++ made x).length ≤ 24 := by
      rw [List.length_append] at room
      omega
    rw [List.foldl_cons, step x List.mem_cons_self fs first]
    exact ih (fun z mem => step z (List.mem_cons_of_mem x mem)) room

end Queued

/-! ## The homes of the pages and their frames (R83) -/

section Homes

variable {h : Byte} {l homes : List Byte} {tags gs : List Tag}

theorem mem_insertHome {x : Byte} : x ∈ insertHome h l ↔ x = h ∨ x ∈ l := by
  induction l with
  | nil => exact List.mem_cons
  | cons z rest ih =>
    unfold insertHome
    split
    · next same => simp [same]
    · split
      · exact List.mem_cons
      · simp only [List.mem_cons, ih]
        exact or_left_comm

theorem pairwise_insertHome (ascending : l.Pairwise fun x z => x.toNat < z.toNat) :
    (insertHome h l).Pairwise fun x z => x.toNat < z.toNat := by
  induction l with
  | nil => exact List.pairwise_singleton _ _
  | cons z rest ih =>
    obtain ⟨least, tail⟩ := List.pairwise_cons.mp ascending
    unfold insertHome
    split
    · exact ascending
    · next other =>
      split
      · next below =>
        refine List.pairwise_cons.mpr ⟨fun x mem => ?_, ascending⟩
        rcases List.mem_cons.mp mem with rfl | later
        · exact below
        · exact below.trans (least x later)
      · next above =>
        refine List.pairwise_cons.mpr ⟨fun x mem => ?_, ih tail⟩
        rcases mem_insertHome.mp mem with rfl | later
        · exact Nat.lt_of_le_of_ne (Nat.not_lt.mp above) fun same => other (BitVec.eq_of_toNat_eq same.symm)
        · exact least x later

theorem mem_homesOf : h ∈ homesOf tags ↔ ∃ g ∈ tags, g.home = h := by
  induction tags with
  | nil => simp [homesOf]
  | cons g gs ih =>
    have first : h = g.home ↔ g.home = h := eq_comm
    simp only [homesOf, List.foldr_cons, mem_insertHome, List.exists_mem_cons_iff, first]
    exact or_congr_right ih

theorem pairwise_homesOf (tags : List Tag) : (homesOf tags).Pairwise fun x z => x.toNat < z.toNat := by
  induction tags with
  | nil => exact .nil
  | cons g gs ih => exact pairwise_insertHome ih

theorem nodup_of_ascending (ascending : l.Pairwise fun x z => x.toNat < z.toNat) : l.Nodup :=
  ascending.imp fun below => ne_of_apply_ne BitVec.toNat below.ne

/-- R83: the ascending list of the homes is one. -/
theorem homesOf_eq (ascending : homes.Pairwise fun x z => x.toNat < z.toNat)
    (all : ∀ h, h ∈ homes ↔ ∃ g ∈ tags, g.home = h) : homesOf tags = homes :=
  List.Perm.eq_of_pairwise (fun _ _ _ _ below above => absurd below above.asymm) (pairwise_homesOf tags) ascending
    ((List.perm_ext_iff_of_nodup (nodup_of_ascending (pairwise_homesOf tags)) (nodup_of_ascending ascending)).mpr fun h =>
      mem_homesOf.trans (all h).symm)

/-- R83: the tags of one home, cut into frames of up to 24. -/
theorem framesOf_eq {fuel : Nat} (enough : gs.length ≤ fuel) :
    framesOf fuel gs = (List.range ((gs.length + 23) / 24)).map fun i => (gs.drop (24 * i)).take 24 := by
  induction fuel generalizing gs with
  | zero =>
    rw [List.length_eq_zero_iff.mp (Nat.le_zero.mp enough)]
    rfl
  | succ fuel ih =>
    cases gs with
    | nil => rfl
    | cons g gs =>
      have count : ((g :: gs).length + 23) / 24 = (((g :: gs).drop 24).length + 23) / 24 + 1 := by
        simp only [List.length_drop, List.length_cons]
        omega
      have fewer : ((g :: gs).drop 24).length ≤ fuel := by
        simp only [List.length_drop, List.length_cons] at enough ⊢
        omega
      rw [count, List.range_succ_eq_map, List.map_cons, List.map_map, framesOf, ih fewer]
      · refine congrArg₂ List.cons rfl (List.map_congr_left fun i _ => ?_)
        rw [Function.comp_apply, List.drop_drop, Nat.mul_succ, Nat.add_comm]
      · simp

end Homes

/-! ## The reports and the owed answers of peers (R82, R83, R85) -/

section Peers

variable {home : Byte} {homes : List Byte} {tags : List Tag} {fs : List Frame} {y : Cycle} {s : State}

/-- R83: the AIRED frame of some tags of a home. -/
def airedFrame (s : State) (home : Byte) (gs : List Tag) : Frame :=
  { kind := .aired, dest := home, src := BitVec.ofNat 8 (ownNumber s), seq := Config.airedSequence s.tick,
    payload := gs.flatMap fun g => [g.home, g.slot, g.gen, g.attempt] }

/-- R83: the AIRED frames of a home. -/
def homeFrames (s : State) (tags : List Tag) (home : Byte) : List Frame :=
  let gs := tags.filter fun g => g.home = home
  ((List.range ((gs.length + 23) / 24)).map fun i => (gs.drop (24 * i)).take 24).map (airedFrame s home)

/-- R83: the report to a peer. -/
theorem reportHome_peer (peer : isOwn s home.toNat = false)
    (room : s.bus.answers.length + (fs ++ homeFrames s tags home).length ≤ 24) :
    reportHome tags (answersQueued fs s) home = answersQueued (fs ++ homeFrames s tags home) s := by
  have other : ¬ isOwn (answersQueued fs s) home.toNat = true := Bool.eq_false_iff.mp peer
  have frame : ∀ gs, frameFrom s .aired home.toNat (Config.airedSequence s.tick) (gs.flatMap tagBytes) =
      airedFrame s home gs := fun gs => by
    rw [frameFrom, BitVec.ofNat_toNat, BitVec.setWidth_eq]
    rfl
  rw [reportHome, if_neg other, framesOf_eq le_rfl]
  rw [homeFrames, List.map_eq_flatMap (f := airedFrame s home)] at room ⊢
  refine foldl_answersQueued (fun gs _ fs room => ?_) room
  rw [← frame]
  exact answerTo_answersQueued (by rwa [List.length_append] at room) _ _ _ _

/-- R82 step 1, R83: the reports of a cycle in which only peers' pages were aired. -/
theorem makeReports_peers (ascending : homes.Pairwise fun x z => x.toNat < z.toNat)
    (all : ∀ h, h ∈ homes ↔ ∃ g ∈ reportedTags y, g.home = h) (peers : ∀ h ∈ homes, isOwn s h.toNat = false)
    (room : s.bus.answers.length + (homes.flatMap (homeFrames s (reportedTags y))).length ≤ 24) :
    makeReports y s = answersQueued (homes.flatMap (homeFrames s (reportedTags y))) s := by
  have reports := foldl_answersQueued (act := reportHome (reportedTags y)) (fs := [])
    (fun h mem fs => reportHome_peer (peers h mem)) room
  rw [answersQueued_nil, List.nil_append] at reports
  rw [makeReports, homesOf_eq ascending all, reports]

/-- R85: the WITHDRAWN that answers a withdraw. -/
def withdrawnFrame (s : State) (w : PendingWithdraw) : Frame :=
  { kind := .withdrawn, dest := BitVec.ofNat 8 w.station, src := BitVec.ofNat 8 (ownNumber s), seq := w.seq, payload := [0] }

theorem makeOwed_none (nothing : (s.air.regular ++ s.air.priority).filter owed = []) : makeOwed s = s := by
  rw [makeOwed, nothing]
  rfl

/-- R85: one answer owed. -/
theorem makeOwed_one {e : AirEntry} (one : (s.air.regular ++ s.air.priority).filter owed = [e]) :
    makeOwed s = answerOwed s e := by
  have same : [e].filter (fun x => x.tag.home = e.tag.home) = [e] := by simp
  rw [makeOwed, one]
  exact congrArg (List.foldl answerOwed s) same

/-- R82 step 2, R85: at most one answer owed, to a peer. -/
theorem makeOwed_peer {entries : List AirEntry}
    (isOwed : entries = (s.air.regular ++ s.air.priority).filter owed) (few : entries.length ≤ 1)
    (peer : ∀ e ∈ entries, ∀ w, e.withdraw = some w → isOwn s w.station = false)
    (room : s.bus.answers.length + (fs ++ (entries.filterMap (·.withdraw)).map (withdrawnFrame s)).length ≤ 24) :
    makeOwed (answersQueued fs s) =
      answersQueued (fs ++ (entries.filterMap (·.withdraw)).map (withdrawnFrame s)) s := by
  cases entries with
  | nil =>
    rw [makeOwed_none (s := answersQueued fs s) isOwed.symm]
    simp
  | cons e rest =>
    obtain rfl : rest = [] := List.eq_nil_of_length_eq_zero (by simpa using few)
    have owes : owed e = true :=
      (List.mem_filter.mp (isOwed ▸ List.mem_singleton_self e : e ∈ List.filter owed _)).2
    obtain ⟨w, withdraw⟩ := Option.isSome_iff_exists.mp (Bool.and_eq_true_iff.mp owes).2
    have other : ¬ isOwn (answersQueued fs s) w.station = true :=
      Bool.eq_false_iff.mp (peer e (List.mem_singleton_self e) w withdraw)
    have answers : ([e].filterMap (·.withdraw)).map (withdrawnFrame s) = [withdrawnFrame s w] := by
      simp [withdraw]
    rw [answers] at room ⊢
    rw [makeOwed_one (s := answersQueued fs s) isOwed.symm]
    simp only [answerOwed, withdraw, if_neg other]
    exact answerTo_answersQueued (by rwa [List.length_append] at room) _ _ _ _

/-- R82, R83, R85: the AIRED frames of a cycle, then an answer owed. -/
theorem reported_peers {entries : List AirEntry} (ascending : homes.Pairwise fun x z => x.toNat < z.toNat)
    (all : ∀ h, h ∈ homes ↔ ∃ g ∈ reportedTags y, g.home = h) (peers : ∀ h ∈ homes, isOwn s h.toNat = false)
    (isOwed : entries = (s.air.regular ++ s.air.priority).filter owed) (few : entries.length ≤ 1)
    (peer : ∀ e ∈ entries, ∀ w, e.withdraw = some w → isOwn s w.station = false) {aired answers : List Frame}
    (isAired : aired = homes.flatMap (homeFrames s (reportedTags y)))
    (isAnswers : answers = (entries.filterMap (·.withdraw)).map (withdrawnFrame s))
    (room : s.bus.answers.length + aired.length + answers.length ≤ 24) :
    reported y s = answersQueued (aired ++ answers) s := by
  subst isAired isAnswers
  rw [reported, makeReports_peers ascending all peers (by omega)]
  exact makeOwed_peer isOwed few peer (by rw [List.length_append]; omega)

end Peers

/-! ## The own zone's page and its owed answer (R53, R54, R85) -/

section Own

variable {g : Tag} {d : Delivery} {a : Attempt} {z : ZoneEntry} {y : Cycle} {s : State}

/-- R53: the report of one page of this station. -/
theorem makeReports_own (tags : reportedTags y = [g]) (own : isOwn s g.home.toNat = true) :
    makeReports y s = takeAired (ownNumber s) s g := by
  have same : [g].filter (fun t => t.home = g.home) = [g] := by simp
  rw [makeReports, tags]
  change reportHome [g] s g.home = _
  rw [reportHome, if_pos own, same, List.foldl_cons, List.foldl_nil]

theorem makeReports_none (tags : reportedTags y = []) : makeReports y s = s := by
  rw [makeReports, tags]
  rfl

theorem freeZoneEntry_none {k : Fin 256} {zone : Nat} (served : entryOfZone s k zone = none) :
    freeZoneEntry k zone s = s := by
  rw [freeZoneEntry, served]

/-- R85: the own zone's WITHDRAWN for an attempt with another zone unresolved. -/
theorem ownWithdrawn_waits (home : isOwn s g.home.toNat = true)
    (slot : s.store.slots[g.slot.toNat] = { gen := g.gen, held := some d }) (attempt : d.attempt = some a)
    (number : a.number = g.attempt.toNat) (entry : a.zones.find? (fun e => e.zone == ownNumber s) = some z)
    (withdrawing : z.state = .withdrawing) (settling : d.state = .settling)
    (other : ∃ x ∈ a.zones, x.zone ≠ ownNumber s ∧ unresolved x.state = true) :
    ownWithdrawn g s = putDelivery (tagSlot g) (deliveryZoned (ownNumber s) .withdrawn d a) s := by
  have slot : slotAt s (tagSlot g) = { gen := g.gen, held := some d } := slot
  have held : deliveryAt s (tagSlot g) = some d := congrArg Slot.held slot
  have tagged : tagMatches s g = true := by simp [tagMatches, home, slot, held]
  simp only [ownWithdrawn, attemptAt_eq held attempt, tagged, number, zoneStateOf_eq entry, withdrawing, and_self, if_true]
  rw [resolveZone, setZone_eq held attempt]
  exact afterResolved_zoned_open (fun pending => by simp [settling] at pending) fun _ => other

/-- R82, R53: a cycle whose one page done is this station's, of an attempt under way. -/
theorem reported_aired (tags : reportedTags y = [g]) (nothing : (s.air.regular ++ s.air.priority).filter owed = [])
    (names : TagNames (ownNumber s) s g d a) (state : d.state = .airPending ∨ d.state = .awaitAck)
    (served : entryOfZone s (tagSlot g) (ownNumber s) = none) :
    reported y s = putDelivery (tagSlot g) (airedDelivery (ownNumber s) s d a) s := by
  rw [reported, makeReports_own tags names.home, takeAired_open names state, freeZoneEntry_none served]
  exact makeOwed_none nothing

/-- R82, R85: a cycle with no page done and one answer owed to this station. -/
theorem reported_withdrawn {e : AirEntry} {w : PendingWithdraw} (tags : reportedTags y = [])
    (one : (s.air.regular ++ s.air.priority).filter owed = [e]) (withdraw : e.withdraw = some w)
    (own : isOwn s w.station = true) : reported y s = ownWithdrawn e.tag s := by
  rw [reported, makeReports_none tags, makeOwed_one one]
  simp only [answerOwed, withdraw, own, if_true]

/-- R41: the delivery that a tag names, in its slot. -/
theorem putDelivery_tag (slot : s.store.slots[g.slot.toNat] = { gen := g.gen, held := some d }) (x : Delivery) :
    putDelivery (tagSlot g) x s = { s with store := { s.store with
      slots := s.store.slots.set g.slot.toNat (Slot.mk g.gen (some x)) } } := by
  have gen : (s.store.slots[(tagSlot g).val]).gen = g.gen := congrArg Slot.gen slot
  rw [putDelivery, gen]
  rfl

end Own

/-- Settles O49: the cycle end by its reports, which leave the air alone, and by the queues that it closes. -/
theorem cycleEndReportsPages : Obligations.CycleEndReportsPages := by
  unfold Obligations.CycleEndReportsPages
  rintro offpeak y tags entries s cycle handed slots due isTags isOwed
  have tagged : reportedTags y = tags := isTags.symm
  have owing : ((withOffpeak offpeak s).air.regular ++ (withOffpeak offpeak s).air.priority).filter owed = entries :=
    isOwed.symm
  obtain ⟨frame, timer, regular, priority, counts, restarts, rests⟩ := cycleEnded y (withOffpeak offpeak s)
  refine ⟨_, exec_cycleEnd_due offpeak cycle handed slots due, timer,
    fun again isAgain => ⟨fun no => ?_, fun yes => ?_⟩, fun keep isKeep _ _ => ?_, ?_,
    fun homes cut aired answers ascending all isCut peers few owedPeers isAired isAnswers room => ?_,
    fun g d a z home slot attempt number entry served zoneNow isZone =>
      ⟨fun one nothing waits => ⟨fun pending => ?_, fun awaiting => ?_⟩,
        fun e w nothing one tag withdraw own withdrawing settling other => ?_⟩⟩
  · exact rests (mt isAgain.mpr no)
  · obtain ⟨key, cell, started⟩ := restarts (isAgain.mp yes)
    exact ⟨key, cell, _, started, rfl, rfl, rfl, rfl, rfl, rfl, rfl⟩
  · rw [isKeep]
    exact ⟨regular, priority⟩
  · rw [counts, ← tagged]
    rfl
  · have queued := reported_peers (s := withOffpeak offpeak s) (y := y) ascending (tagged ▸ all) peers isOwed few owedPeers
      (aired := aired) (answers := answers) (by rw [isAired, isCut, tagged]; rfl) isAnswers room
    rw [queued] at frame
    exact frame.trans (by rw [List.append_assoc]; rfl)
  · have names : TagNames (ownNumber s) (withOffpeak offpeak s) g d a := ⟨home, slot, attempt, number, z, entry, waits⟩
    have done := reported_aired (tagged.trans one) (owing.trans nothing) names (.inl pending) served
    rw [done, putDelivery_tag (s := withOffpeak offpeak s) slot] at frame
    refine frame.trans ?_
    simp only [isZone, airedDelivery, pending, if_true]
    rfl
  · have names : TagNames (ownNumber s) (withOffpeak offpeak s) g d a := ⟨home, slot, attempt, number, z, entry, waits⟩
    have done := reported_aired (tagged.trans one) (owing.trans nothing) names (.inr awaiting) served
    rw [done, putDelivery_tag (s := withOffpeak offpeak s) slot] at frame
    refine frame.trans ?_
    simp only [isZone, airedDelivery, awaiting, attempt, reduceCtorEq, if_false]
    rfl
  · have done := reported_withdrawn (s := withOffpeak offpeak s) (tagged.trans nothing) (owing.trans one) withdraw own
    rw [tag, ownWithdrawn_waits (s := withOffpeak offpeak s) home slot attempt number entry withdrawing settling other,
      putDelivery_tag (s := withOffpeak offpeak s) slot] at done
    rw [done] at frame
    refine frame.trans ?_
    simp only [isZone, attempt]
    rfl

end Sys2Proof.Machine
end

section
/-! The match of a report: its class, and what the Page Store does with it (R56, R57, R60, R61, R98, R99). -/

namespace Sys2Proof.Machine

/-! ## The class of a report (R98, R99) -/

section Class

variable {g : Tag} {d : Delivery} {a : Attempt} {s : State}

/-- R98: the report names the delivery `d`, which has been issued, and an attempt of it that has been reached. -/
structure ReportNames (g : Tag) (d : Delivery) (s : State) : Prop where
  slot : s.store.slots[g.slot.toNat] = { gen := g.gen, held := some d }
  issued : d.issued = true
  reached : g.attempt.toNat ≤ d.counted + 1

theorem ReportNames.held (h : ReportNames g d s) : deliveryAt s (tagSlot g) = some d := congrArg Slot.held h.slot

theorem genuine_iff_reportNames (held : deliveryAt s (tagSlot g) = some d) :
    genuine s g d = true ↔ ReportNames g d s := by
  simp only [genuine, Bool.and_eq_true, beq_iff_eq, decide_eq_true_eq]
  constructor
  · rintro ⟨⟨gen, issued⟩, reached⟩
    exact ⟨Slot.mk.injEq .. ▸ ⟨gen, held⟩, issued, reached⟩
  · rintro ⟨slot, issued, reached⟩
    exact ⟨⟨congrArg Slot.gen slot, issued⟩, reached⟩

/-- R98: a report that names no delivery so is STALE. -/
theorem classify_stale (none : ∀ d, ¬ ReportNames g d s) : classify s g = .stale := by
  unfold classify
  split
  · rfl
  · next d held => rw [if_neg (mt (genuine_iff_reportNames held).mp (none d))]

theorem ReportNames.classify_direct (h : ReportNames g d s) (state : d.state = .retryWait ∨ d.state = .issuing) :
    classify s g = .direct := by
  have genuine_ := (genuine_iff_reportNames h.held).mpr h
  rcases state with state | state <;> simp only [classify, h.held, genuine_, state, if_true]

theorem ReportNames.classify_closed (h : ReportNames g d s) (state : d.state = .airPending ∨ d.state = .awaitAck) :
    classify s g = .closed := by
  have genuine_ := (genuine_iff_reportNames h.held).mpr h
  rcases state with state | state <;> simp only [classify, h.held, genuine_, state, if_true]

/-- R99: in SETTLING the outcome of the attempt decides. -/
theorem ReportNames.classify_settling {o : AttemptOutcome} (h : ReportNames g d s) (state : d.state = .settling)
    (attempt : d.attempt = some a) (outcome : a.outcome = some o) :
    classify s g = if o = .missed then .turned else .duplicate := by
  simp only [classify, h.held, (genuine_iff_reportNames h.held).mpr h, state, attempt, Option.bind_some, outcome,
    Option.some.injEq, if_true]

end Class

/-! ## The effect of a report (R56, R57) -/

section Effect

variable {g : Tag} {d : Delivery} {a : Attempt} {s : State}

/-- R99: the station with a report counted in its class. -/
abbrev ackCounted (c : AckClass) (s : State) : State := mapMatcherCounts (countAck c) s

theorem matchReport_of_class {c : AckClass} (found : classify s g = c) :
    matchReport g s = acknowledge (tagSlot g) c (ackCounted c s) := by
  rw [matchReport, found]

theorem matchReport_stale (none : ∀ d, ¬ ReportNames g d s) : matchReport g s = ackCounted .stale s :=
  matchReport_of_class (classify_stale none)

theorem ReportNames.match_direct (h : ReportNames g d s) (state : d.state = .retryWait ∨ d.state = .issuing) :
    matchReport g s = endedDelivered (tagSlot g) d (ackCounted .direct s) := by
  have same : putDelivery (tagSlot g) d (ackCounted .direct s) = ackCounted .direct s := putDelivery_self h.held
  rw [matchReport_of_class (h.classify_direct state), ← endDelivery_delivered, same]
  rfl

theorem ReportNames.match_turned (h : ReportNames g d s) (state : d.state = .settling) (attempt : d.attempt = some a)
    (outcome : a.outcome = some .missed) : matchReport g s =
      putDelivery (tagSlot g) { d with attempt := some { a with outcome := some .acked } } (ackCounted .turned s) := by
  have held : deliveryAt (ackCounted .turned s) (tagSlot g) = some d := h.held
  rw [matchReport_of_class (h.classify_settling state attempt outcome), if_pos rfl, acknowledge, mapAttempt,
    mapDelivery_eq_put held, attempt]
  rfl

theorem ReportNames.match_duplicate (h : ReportNames g d s) (state : d.state = .settling) (attempt : d.attempt = some a)
    (outcome : a.outcome = some .acked) : matchReport g s = ackCounted .duplicate s :=
  matchReport_of_class (h.classify_settling state attempt outcome)

theorem ReportNames.match_closed (h : ReportNames g d s) (state : d.state = .airPending ∨ d.state = .awaitAck) :
    matchReport g s = closeAttempt (tagSlot g) .acked (putDelivery (tagSlot g) d (ackCounted .closed s)) := by
  have same : putDelivery (tagSlot g) d (ackCounted .closed s) = ackCounted .closed s := putDelivery_self h.held
  rw [matchReport_of_class (h.classify_closed state), same]
  rfl

/-- R56, R60: a close with no zone in ACCEPTED withdraws nothing, and waits for a zone in SENT. -/
theorem closeAttempt_sent {k : Fin 256} (attempt : d.attempt = some a) (sent : ∃ z ∈ a.zones, z.state = .sent)
    (none : ∀ z ∈ a.zones, z.state ≠ .accepted) (o : AttemptOutcome) :
    closeAttempt k o (putDelivery k d s) = putDelivery k (closedDelivery o d a) s := by
  have nothing : acceptedZones a = [] := by
    refine List.eq_nil_iff_forall_not_mem.mpr fun z mem => ?_
    obtain ⟨e, among, accepted, -⟩ := mem_acceptedZones.mp mem
    exact none e among accepted
  obtain ⟨e, mem, sent⟩ := sent
  rw [closeAttempt_putDelivery attempt, nothing, List.foldl_nil]
  exact settleIfResolved_open (a := closedAs o a) rfl fun _ => ⟨e, mem, by rw [sent]; rfl⟩

end Effect

/-! ## The match, wherever the report comes from -/

/-- The station when a report is matched: the event has brought the level of OFFPEAK, and a notice its frame. -/
def atReport (p : Pins) (b : Bus) (x : Vector Presence 24) (m : Matcher) (s : State) : State :=
  { s with pins := p, bus := b, exchange := { s.exchange with presence := x }, matcher := m }

section AtReport

variable {k : Fin 256} {d : Delivery} {a : Attempt} {s : State} (p : Pins) (b : Bus) (x : Vector Presence 24) (m : Matcher)

theorem CloseWaits.atReport (h : CloseWaits k a s) : CloseWaits k a (atReport p b x m s) :=
  ⟨h.keys, h.zones, h.held, h.open_⟩

theorem CloseSettles.atReport (h : CloseSettles k d a s) : CloseSettles k d a (atReport p b x m s) :=
  ⟨h.record, h.zones, h.done⟩

/-- R98, R99, R57: the match meets its specification. -/
theorem reportMatched (g : Tag) (s : State) :
    ReportMatched g m.counts (fun c => atReport p b x { m with counts := c } s) s
      (.next (matchReport g (atReport p b x m s))) := by
  refine ⟨fun absent => ?_, fun d slot => ⟨fun early => ?_, fun issued reached => ?_⟩⟩
  · refine congrArg _ (matchReport_stale fun d ⟨slot, _, _⟩ => ?_)
    have slot : s.store.slots[g.slot.toNat] = { gen := g.gen, held := some d } := slot
    simp [slot] at absent
  · refine congrArg _ (matchReport_stale fun e ⟨also, issued, reached⟩ => ?_)
    obtain rfl : d = e := Option.some.inj (congrArg Slot.held (slot.symm.trans also))
    rcases early with fresh | ahead
    · simp [fresh] at issued
    · omega
  have names : ReportNames g d (atReport p b x m s) := ⟨slot, issued, reached⟩
  have put : ∀ (c : MatcherCounts) (y : Delivery),
      putDelivery (tagSlot g) y (atReport p b x { m with counts := c } s) = _ :=
    fun c y => putDelivery_tag (s := atReport p b x { m with counts := c } s) slot y
  refine ⟨fun state => congrArg _ (names.match_direct state), fun a state attempt outcome => ?_,
    fun a state attempt outcome => congrArg _ (names.match_duplicate state attempt outcome), ?_⟩
  · exact congrArg _ ((names.match_turned state attempt outcome).trans (put _ _))
  · rintro a closed state attempt rfl
    rw [names.match_closed state]
    refine ⟨fun sent none => ?_, fun waits => ⟨_, rfl, ?_⟩, fun settles => ⟨_, rfl, ?_⟩⟩
    · rw [closeAttempt_sent attempt sent none]
      exact congrArg _ (put _ _)
    · exact closeAttempt_waits (waits.atReport p b x _) attempt .acked
    · exact closeAttempt_settles (settles.atReport p b x _) attempt .acked

end AtReport

/-! ## The HEARD notice (R97) -/

section Heard

variable {offpeak : Bool} {heard : List BusChar} {f : Received} {g : Tag} {q : Byte} {r : Report} {s : State}

/-- R97: the station that has counted a notice. -/
def heardCounted (s : State) : State := mapMatcherCounts (fun c => { c with heardTaken := raise c.heardTaken }) s

theorem takeHeard_misrouted (other : isOwn s r.tag.home.toNat = false) :
    takeHeard r s = mapMatcherCounts (fun c => { c with misrouted := raise c.misrouted }) (heardCounted s) :=
  if_pos other

theorem takeHeard_lowQuality (home : isOwn s r.tag.home.toNat = true) (low : r.quality.toNat < (cfg s).minQuality) :
    takeHeard r s = mapMatcherCounts (fun c => { c with lowQuality := raise c.lowQuality }) (heardCounted s) :=
  (if_neg (Bool.not_eq_false _ ▸ home)).trans (if_pos low)

theorem takeHeard_matched (home : isOwn s r.tag.home.toNat = true) (good : (cfg s).minQuality ≤ r.quality.toNat) :
    takeHeard r s = matchReport r.tag (heardCounted s) :=
  (if_neg (Bool.not_eq_false _ ▸ home)).trans (if_neg (Nat.not_lt.mpr good))

theorem exec_heard (own : hearsOwn .heard heard f s) (joined : member s = true)
    (payload : f.payload = [g.home, g.slot, g.gen, g.attempt, q]) :
    exec (.heard offpeak heard) s =
      .next (takeHeard { tag := g, quality := q } (withOffpeak offpeak (noted f s))) :=
  congrArg _ (takeFrame_member own joined (by rw [payload]; rfl) (fun _ r => takeHeard r) offpeak)

end Heard

/-- Settles O32: by the home and the quality of the notice; the rest is the match of a report. -/
theorem heardNoticeIsMatched : Obligations.HeardNoticeIsMatched := by
  unfold Obligations.HeardNoticeIsMatched
  rintro offpeak heard f g q s own joined payload n base rfl rfl
  rw [exec_heard own joined payload]
  refine ⟨fun other => congrArg _ (takeHeard_misrouted other),
    fun home low => congrArg _ (takeHeard_lowQuality home low), fun home good => ?_⟩
  rw [takeHeard_matched (r := { tag := g, quality := q }) (s := withOffpeak offpeak (noted f s)) home good]
  exact reportMatched _ _ _ _ g s

end Sys2Proof.Machine
end

section
/-! The head of the reverse FIFO (R94 to R96, R98). -/

namespace Sys2Proof.Machine

section Route

variable {offpeak : Bool} {r : Report} {rest : List Report} {s : State}

theorem exec_matcherTakeHead (joined : member s = true) (queue : s.matcher.fifo = r :: rest) :
    exec (.matcherTakeHead offpeak) s = .next (routeHead r (withOffpeak offpeak s)) := by
  change execMatcherTakeHead offpeak s = _
  simp only [execMatcherTakeHead, joined, queue, Bool.true_eq_false, if_false]

theorem dropHead_eq (queue : s.matcher.fifo = r :: rest) :
    dropHead s = { s with matcher := { s.matcher with fifo := rest } } := by
  rw [dropHead, State.mapMatcher, queue]
  rfl

theorem routeHead_own (home : isOwn s r.tag.home.toNat = true) : routeHead r s = matchReport r.tag (dropHead s) :=
  if_pos home

theorem routeHead_relayed (other : isOwn s r.tag.home.toNat = false)
    (present : (presenceAt s r.tag.home.toNat).present = true) (room : s.bus.answers.length < 24) :
    routeHead r s = mapMatcherCounts (fun c => { c with relayed := raise c.relayed })
      (answerTo .heard r.tag.home.toNat 0 (heardPayload r) (dropHead s)) :=
  ((if_neg (Bool.not_eq_true _ ▸ other)).trans (if_pos present)).trans (if_pos room)

theorem routeHead_waits (other : isOwn s r.tag.home.toNat = false)
    (present : (presenceAt s r.tag.home.toNat).present = true) (full : 24 ≤ s.bus.answers.length) : routeHead r s = s :=
  ((if_neg (Bool.not_eq_true _ ▸ other)).trans (if_pos present)).trans (if_neg (Nat.not_lt.mpr full))

theorem routeHead_absent (other : isOwn s r.tag.home.toNat = false)
    (absent : (presenceAt s r.tag.home.toNat).present = false) :
    routeHead r s = mapMatcherCounts (fun c => { c with homeAbsent := raise c.homeAbsent }) (dropHead s) :=
  (if_neg (Bool.not_eq_true _ ▸ other)).trans (if_neg (Bool.not_eq_true _ ▸ absent))

/-- R95, R151: the HEARD notice made for the head, with room for it. -/
theorem answerTo_heard (room : s.bus.answers.length < 24) :
    answerTo .heard r.tag.home.toNat 0 (heardPayload r) s = { s with bus := { s.bus with answers := s.bus.answers ++ [
      { kind := .heard, dest := r.tag.home, src := BitVec.ofNat 8 (ownNumber s), seq := 0,
        payload := [r.tag.home, r.tag.slot, r.tag.gen, r.tag.attempt, r.quality] }] } } := by
  rw [answerTo, pushAnswer_room room, frameFrom, BitVec.ofNat_toNat, BitVec.setWidth_eq]
  rfl

end Route

/-- Settles O51: by the home of the report; one for this station is matched once it has left the FIFO. -/
theorem matcherRoutesHead : Obligations.MatcherRoutesHead := by
  unfold Obligations.MatcherRoutesHead
  rintro offpeak r rest n s joined queue rfl
  have dropped : dropHead (withOffpeak offpeak s) = _ := dropHead_eq (s := withOffpeak offpeak s) queue
  rw [exec_matcherTakeHead joined queue]
  refine ⟨fun other present => ⟨fun room => ?_,
    fun full => congrArg _ (routeHead_waits (s := withOffpeak offpeak s) other present full)⟩,
    fun other absent => ?_, fun home => ?_⟩
  · have dropRoom : (dropHead (withOffpeak offpeak s)).bus.answers.length < 24 := room
    rw [routeHead_relayed (s := withOffpeak offpeak s) other present room, answerTo_heard dropRoom, dropped]
    rfl
  · rw [routeHead_absent (s := withOffpeak offpeak s) other absent, dropped]
    rfl
  · rw [routeHead_own (s := withOffpeak offpeak s) home, dropped]
    exact reportMatched _ s.bus s.exchange.presence { s.matcher with fifo := rest } r.tag s

end Sys2Proof.Machine
end

section
/-! The reverse port (R91, R92). -/

namespace Sys2Proof.Machine

section Reports

variable {cs : List RxChar} {s : State}

/-- R92: the tests 2 and 3 fail: a field out of range, or a check sum that is not 0. -/
def badFields (cs : List RxChar) : Prop :=
  ¬ (1 ≤ (charAt cs 0).toNat ∧ (charAt cs 0).toNat ≤ 24) ∨ ¬ (1 ≤ (charAt cs 3).toNat ∧ (charAt cs 3).toNat ≤ 7)
    ∨ 15 < (charAt cs 4).toNat ∨ (cs.map (·.byte)).foldl (· + ·) 0 ≠ 0

theorem judge_badReport (bad : (∃ x ∈ cs, x.framing = true) ∨ badFields cs) : judge s cs = .badReport := by
  by_cases marked : List.any cs (fun c => c.framing) = true
  · exact if_pos marked
  have bad : badFields cs := bad.resolve_left fun framed => marked (List.any_eq_true.mpr framed)
  refine (if_neg marked).trans (ite_eq_left_iff.mpr fun ranges => if_pos ?_)
  obtain ⟨least, most, first, last, quality⟩ := not_not.mp ranges
  exact ((bad.resolve_left fun home => home ⟨least, most⟩).resolve_left fun attempt => attempt ⟨first, last⟩).resolve_left
    (Nat.not_lt.mpr quality)

/-- R92: the tests 4 to 6, of a report that passes the first three. -/
theorem judge_good (unmarked : ¬ ∃ x ∈ cs, x.framing = true) (good : ¬ badFields cs) :
    judge s cs =
      if (charAt cs 4).toNat < (cfg s).minQuality then .lowQuality
      else if reportsWanted s = false then .ignored
      else if 8 ≤ s.matcher.fifo.length then .fifoFull
      else .taken := by
  obtain ⟨home, attempt, quality, sum⟩ : _ ∧ _ ∧ _ ∧ _ := by simpa only [badFields, not_or, not_not, not_lt] using good
  refine (if_neg (mt List.any_eq_true.mp unmarked)).trans ((if_neg ?_).trans (if_neg (not_not.mpr sum)))
  exact not_not.mpr ⟨home.1, home.2, attempt.1, attempt.2, quality⟩

/-- R91, R92: a station that runs listens to reports in every state but CONFIGURED. -/
theorem reportsWanted_eq_false_iff (run : running s = true) : reportsWanted s = false ↔ s.life.state = .configured := by
  unfold running at run
  cases state : s.life.state <;> simp_all [reportsWanted, member]

theorem takeReport_of_judge {j : Judgement} (judged : judge s cs = j) :
    takeReport cs s = { s with matcher := {
      fifo := if j = .taken then s.matcher.fifo ++ [reportOf cs] else s.matcher.fifo, run := .complete false,
      counts := countJudgement j s.matcher.counts } } := by
  rw [← judged]
  rfl

end Reports

/-! ## The commands -/

section Commands

variable {char : Byte} {framing : Bool} {cs : List RxChar} {s : State}

theorem exec_reportCharacterReceived_starts (run : running s = true)
    (between : s.matcher.run = .idle ∨ ∃ b, s.matcher.run = .complete b) :
    exec (.reportCharacterReceived char framing) s = .next { s with
      matcher := { s.matcher with run := .gathering [{ byte := char, framing := framing }] } } := by
  change execReportCharacterReceived char framing s = _
  rcases between with idle | ⟨b, complete⟩
  · simp only [execReportCharacterReceived, run, idle, Bool.true_eq_false, if_false]
    rfl
  · simp only [execReportCharacterReceived, run, complete, Bool.true_eq_false, if_false]
    rfl

theorem exec_reportCharacterReceived_joins (run : running s = true) (gathering : s.matcher.run = .gathering cs)
    (few : cs.length < 5) :
    exec (.reportCharacterReceived char framing) s = .next { s with
      matcher := { s.matcher with run := .gathering (cs ++ [{ byte := char, framing := framing }]) } } := by
  change execReportCharacterReceived char framing s = _
  simp only [execReportCharacterReceived, run, gathering, few, Bool.true_eq_false, if_false, if_true]
  rfl

theorem exec_shortReport_gathering (run : running s = true) (gathering : s.matcher.run = .gathering cs) :
    exec .shortReport s = .next { s with matcher := { s.matcher with
      run := .idle, counts := { s.matcher.counts with badReport := raise s.matcher.counts.badReport } } } := by
  change execShortReport s = _
  simp only [execShortReport, run, gathering, Bool.true_eq_false, if_false]
  rfl

theorem exec_extraReportCharacter_first (run : running s = true) (complete : s.matcher.run = .complete false) :
    exec .extraReportCharacter s = .next { s with matcher := { s.matcher with
      run := .complete true, counts := { s.matcher.counts with badReport := raise s.matcher.counts.badReport } } } := by
  change execExtraReportCharacter s = _
  simp only [execExtraReportCharacter, run, complete, Bool.true_eq_false, if_false]
  rfl

theorem exec_reverseReport_completes (run : running s = true) (gathering : s.matcher.run = .gathering cs)
    (five : cs.length = 5) : exec (.reverseReport char framing) s =
      .next (takeReport (cs ++ [{ byte := char, framing := framing }]) s) := by
  change execReverseReport char framing s = _
  simp only [execReverseReport, run, gathering, five, Bool.true_eq_false, if_false, if_true]

end Commands

/-- Settles O50: a character by the run it meets; a complete report by the first test it fails. -/
theorem reportsAreGatheredAndJudged : Obligations.ReportsAreGatheredAndJudged := by
  unfold Obligations.ReportsAreGatheredAndJudged
  rintro char framing c n s run rfl rfl
  refine ⟨exec_reportCharacterReceived_starts run, fun cs => exec_reportCharacterReceived_joins run,
    fun cs => exec_shortReport_gathering run, exec_extraReportCharacter_first run, ?_⟩
  rintro c1 c2 c3 c4 c5 gathering marked bad done isMarked isBad rfl
  have fields : bad ↔ badFields [c1, c2, c3, c4, c5, { byte := char, framing := framing }] := by
    simp only [isBad, badFields, charAt, List.map_cons, List.map_nil, List.getD_cons_zero, List.getD_cons_succ,
      List.foldl_cons, List.foldl_nil, zero_add]
  have judged : ∀ j, judge s [c1, c2, c3, c4, c5, { byte := char, framing := framing }] = j →
      exec (.reverseReport char framing) s = .next { s with matcher := {
        fifo := if j = .taken
          then s.matcher.fifo ++ [reportOf [c1, c2, c3, c4, c5, { byte := char, framing := framing }]]
          else s.matcher.fifo,
        run := .complete false, counts := countJudgement j s.matcher.counts } } := fun j is => by
    rw [exec_reverseReport_completes run gathering rfl]
    exact congrArg _ (takeReport_of_judge is)
  rw [isMarked, fields]
  refine ⟨fun fails => judged .badReport (judge_badReport fails), fun unmarked good => ?_⟩
  have tests := judge_good (s := s) unmarked good
  refine ⟨fun low => judged .lowQuality (tests.trans (if_pos low)), fun quality => ?_⟩
  have passed := tests.trans (if_neg (Nat.not_lt.mpr quality))
  have wanted : s.life.state ≠ .configured → ¬ reportsWanted s = false := mt (reportsWanted_eq_false_iff run).mp
  exact ⟨
    fun configured => judged .ignored (passed.trans (if_pos ((reportsWanted_eq_false_iff run).mpr configured))),
    fun listens full => judged .fifoFull ((passed.trans (if_neg (wanted listens))).trans (if_pos full)),
    fun listens room => judged .taken ((passed.trans (if_neg (wanted listens))).trans (if_neg (Nat.not_le.mpr room)))⟩

end Sys2Proof.Machine
end

section
/-! The release of the due heads of the Retry Queue (R108). -/

namespace Sys2Proof.Machine

section Release

variable {k : Fin 256} {ks rest : List (Fin 256)} {s t : State}

/-- R108: a delivery that has been released. -/
def releasedDelivery (d : Delivery) : Delivery := { d with due := none, state := .issuing }

/-- R108: the deliveries `ks` at the head of the Retry Queue of `s`, before `rest`, have been released in turn. -/
structure Released (ks rest : List (Fin 256)) (s t : State) : Prop where
  frame : t = { s with store := { s.store with
    retry := rest, issue := s.store.issue ++ ks, released := raise^[ks.length] s.store.released, slots := t.store.slots } }
  released : ∀ k ∈ ks, slotAt t k = { slotAt s k with held := (deliveryAt s k).map releasedDelivery }
  others : ∀ k ∉ ks, slotAt t k = slotAt s k

theorem raise_iterate {n : Nat} (some_ : n ≠ 0) (m : Nat) : raise^[n] m = min (m + n) 65535 := by
  obtain ⟨n, rfl⟩ := Nat.exists_eq_succ_of_ne_zero some_
  clear some_
  induction n with
  | zero => rfl
  | succ n ih =>
    rw [Function.iterate_succ_apply', ih, raise]
    omega

/-- R108: the release of the head. -/
theorem released_head (queue : s.store.retry = k :: rest) (once : s.store.retry.Nodup) :
    Released [k] rest s (releaseRetry s k) := by
  obtain ⟨new, -⟩ := List.nodup_cons.mp (queue ▸ once)
  have gone : s.store.retry.filter (fun j => j != k) = rest := by
    rw [queue, List.filter_cons_of_neg (by simp), List.filter_eq_self]
    intro j mem
    rw [bne_iff_ne]
    rintro rfl
    exact new mem
  refine ⟨?_, fun j mem => ?_, fun j other => ?_⟩
  · rw [← gone]
    rfl
  · obtain rfl := List.mem_singleton.mp mem
    exact slotAt_setSlot j _ s
  · exact slotAt_setSlot_ne (by simpa using other) _ s

theorem Released.trans {js : List (Fin 256)} {u : State} (first : Released js (ks ++ rest) s t)
    (second : Released ks rest t u) (apart : ∀ k ∈ ks, k ∉ js) : Released (js ++ ks) rest s u := by
  refine ⟨?_, fun k mem => ?_, fun k other => ?_⟩
  · rw [second.frame, first.frame, List.length_append, Nat.add_comm, Function.iterate_add_apply, ← List.append_assoc]
  · by_cases late : k ∈ ks
    · rw [second.released k late, deliveryAt, first.others k (apart k late)]
      rfl
    · rw [second.others k late, first.released k ((List.mem_append.mp mem).resolve_right late)]
  · obtain ⟨before, after⟩ := not_or.mp (mt List.mem_append.mpr other)
    rw [second.others k after, first.others k before]

theorem released_foldl (queue : s.store.retry = ks ++ rest) (once : s.store.retry.Nodup) :
    Released ks rest s (ks.foldl releaseRetry s) := by
  induction ks generalizing s with
  | nil => exact ⟨by rw [List.append_nil, ← show s.store.retry = rest from queue]; rfl, by simp, fun _ _ => rfl⟩
  | cons k ks ih =>
    have first : Released [k] (ks ++ rest) s (releaseRetry s k) := released_head queue once
    obtain ⟨new, once⟩ := List.nodup_cons.mp (queue ▸ once)
    have retry : (releaseRetry s k).store.retry = ks ++ rest := by rw [first.frame]
    refine first.trans (ih retry (retry ▸ once)) fun j mem => ?_
    rw [List.mem_singleton]
    rintro rfl
    exact new (List.mem_append_left rest mem)

/-- R108: the due heads, the delivery after them not due. -/
theorem dueRetries_eq (queue : s.store.retry = ks ++ rest) (due : ∀ k ∈ ks, reached s.tick (dueOf s k) = true)
    (early : ∀ j, rest.head? = some j → reached s.tick (dueOf s j) = false) : dueRetries s = ks := by
  rw [dueRetries, queue, List.takeWhile_append_of_pos due]
  cases rest with
  | nil => exact List.append_nil ks
  | cons j rest => rw [List.takeWhile_cons_of_neg (by simp [early j rfl]), List.append_nil]

theorem dueOf_eq {d : Delivery} {due : Tick} (held : deliveryAt s k = some d) (timer : d.due = some due) :
    dueOf s k = due := by
  rw [dueOf, held, Option.bind_some, timer, Option.getD_some]

end Release

/-- Settles O45: the due heads are the heads given, and each release leaves the next in place. -/
theorem retryReleaseIssuesDueHeads : Obligations.RetryReleaseIssuesDueHeads := by
  unfold Obligations.RetryReleaseIssuesDueHeads
  intro ks rest s joined queue nonempty once due early
  have heads : dueRetries s = ks := by
    refine dueRetries_eq queue (fun k mem => ?_) fun j head => ?_
    · obtain ⟨d, timer, held, isTimer, past⟩ := due k mem
      rw [dueOf_eq held isTimer]
      exact (reached_iff _ _).mpr past
    · obtain ⟨d, timer, held, isTimer, ahead⟩ := early j head
      rw [dueOf_eq held isTimer, ← Bool.not_eq_true, reached_iff]
      omega
  have ran : exec .retryRelease s = .next (ks.foldl releaseRetry s) := by
    change execRetryRelease s = _
    rw [execRetryRelease, if_pos joined, heads]
  obtain ⟨frame, released, others⟩ := released_foldl queue once
  refine ⟨_, ran, ?_, fun k mem d held => ?_, others⟩
  · rw [← raise_iterate (mt List.length_eq_zero_iff.mp nonempty)]
    exact frame
  · have held : deliveryAt s k = some d := held
    have slot := released k mem
    rw [held] at slot
    exact slot

end Sys2Proof.Machine
end

section
/-! The attempt charge by its stages (R116 to R119), and LOAD-PLAN, TAKE-RECORDS and CLOSE-PERIOD with its walk
(R112, R129, R131 to R133). -/

namespace Sys2Proof.Machine

/-! ## The attempt charge -/

theorem acceptAmount_le_cap {p : Plan} (capped : p.messageCap ≠ 0) : acceptAmount p ≤ p.messageCap := by
  rw [acceptAmount, if_neg capped]
  exact min_le_right _ _

theorem cappedAmount_of_zero {p : Plan} (cap : p.messageCap = 0) (charged net : Nat) :
    cappedAmount p charged net = net := if_pos cap

theorem cappedAmount_of_ne {p : Plan} (cap : p.messageCap ≠ 0) (charged net : Nat) :
    cappedAmount p charged net = min net (p.messageCap - charged) := if_neg cap

/-- R119: the cap keeps the order of two charges. -/
theorem cappedAmount_mono (p : Plan) (charged : Nat) {m n : Nat} (le : m ≤ n) :
    cappedAmount p charged m ≤ cappedAmount p charged n := by
  unfold cappedAmount
  split
  · exact le
  · exact min_le_min_right _ le

/-- R119: what is charged under a cap leaves the delivery within it. -/
theorem charged_add_cappedAmount_le {p : Plan} (cap : p.messageCap ≠ 0) {charged : Nat} (within : charged ≤ p.messageCap)
    (net : Nat) : charged + cappedAmount p charged net ≤ p.messageCap := by
  rw [cappedAmount_of_ne cap]
  omega

/-- R118: the discount never raises a charge. -/
theorem netAmount_offpeak_le (p : Plan) (gross : Nat) : netAmount p true gross ≤ netAmount p false gross :=
  Nat.sub_le _ _

/-- Settles O31: the stages are those of the definition, and cap and discount keep the bounds stage by stage. -/
theorem attemptChargeStages : Obligations.AttemptChargeStages := by
  unfold Obligations.AttemptChargeStages
  rintro p usage charged a n gross retried net rfl rfl rfl
  refine ⟨fun free => ⟨?_, ?_⟩, fun capped => ⟨?_, ?_⟩, fun offpeak capped within => ?_, acceptAmount_le_cap, ?_⟩
  · exact cappedAmount_of_zero free _ _
  · exact cappedAmount_of_zero free _ _
  · exact cappedAmount_of_ne capped _ _
  · exact cappedAmount_of_ne capped _ _
  · exact charged_add_cappedAmount_le capped within _
  · exact cappedAmount_mono p charged (netAmount_offpeak_le p _)

/-! ## LOAD-PLAN -/

/-- R112: the ruling on the plan number. -/
def rulePlan (p : List Byte) (s : State) : Ruling :=
  if h : (byteAt p 0).toNat < 16 then .done [] (s.mapPlans fun ps => ps.set (byteAt p 0).toNat (readPlan p))
  else .badParam

theorem rulePlan_of_lt {p : List Byte} (h : (byteAt p 0).toNat < 16) (s : State) :
    rulePlan p s = .done [] { s with plans := s.plans.set (byteAt p 0).toNat (readPlan p) } := dif_pos h

theorem rulePlan_of_ge {p : List Byte} (h : 16 ≤ (byteAt p 0).toNat) (s : State) : rulePlan p s = .badParam :=
  dif_neg (Nat.not_lt.mpr h)

/-- R178: LOAD-PLAN where the station state accepts it. -/
theorem exec_loadPlan {s : State} (accepted : acceptedIn 0x02 s.life.state = true) (p : List Byte) :
    exec (.loadPlan p) s = .next (supervise 0x02 true 27 p (rulePlan p) s) := by
  rw [← accepted]
  rfl

/-- Settles O8, by the ruling on the plan number. -/
theorem loadPlanReplacesPlan : Obligations.LoadPlanReplacesPlan := by
  unfold Obligations.LoadPlanReplacesPlan
  refine fun p s acts accepted length => ⟨fun number => ?_, fun number => ?_⟩
  · rw [exec_loadPlan accepted, supervise_done acts length (rulePlan_of_lt number s)]
    simp only [readPlan, clamp, field_one]
  · rw [exec_loadPlan accepted, supervise_badParam acts length (rulePlan_of_ge number s)]

/-! ## TAKE-RECORDS -/

theorem length_recordBytes (r : BillingRecord) : (recordBytes r).length = 27 := rfl

theorem length_flatMap_recordBytes (rs : List BillingRecord) : (rs.flatMap recordBytes).length = 27 * rs.length := by
  simp [List.length_flatMap, length_recordBytes, Nat.mul_comm]

theorem ruleTake_of_count {n : Byte} (low : 1 ≤ n.toNat) (high : n.toNat ≤ 4) (s : State) :
    ruleTake [n] s = .done ((s.billing.queue.take n.toNat).flatMap recordBytes)
      { s with billing := { s.billing with queue := s.billing.queue.drop n.toNat } } := by
  have count : field [n] 0 1 = n.toNat := field_one _ _
  simp only [ruleTake, count]
  exact if_pos ⟨low, high⟩

theorem ruleTake_badParam {n : Byte} (outside : n.toNat = 0 ∨ 4 < n.toNat) (s : State) : ruleTake [n] s = .badParam := by
  have count : field [n] 0 1 = n.toNat := field_one _ _
  simp only [ruleTake, count]
  exact if_neg (by omega)

theorem exec_takeRecords (p : List Byte) (s : State) :
    exec (.takeRecords p) s = .next (supervise 0x0A true 1 p (ruleTake p) s) := rfl

/-- Settles O12, by the ruling on the count. -/
theorem takeRecordsRemovesOldest : Obligations.TakeRecordsRemovesOldest := by
  unfold Obligations.TakeRecordsRemovesOldest
  refine fun n s acts => ⟨fun low high => ⟨_, ?_, rfl, ?_⟩, fun outside => ?_⟩
  · rw [exec_takeRecords, supervise_done acts List.length_singleton (ruleTake_of_count low high s)]
  · rw [length_flatMap_recordBytes, List.length_take]
  · rw [exec_takeRecords, supervise_badParam acts List.length_singleton (ruleTake_badParam outside s)]

/-! ## CLOSE-PERIOD -/

theorem exec_closePeriod (p : List Byte) (s : State) :
    exec (.closePeriod p) s = .next (supervise 0x0B (configured s) 0 p ruleClose s) := rfl

theorem configured_eq_true {s : State} (h : s.life.state ≠ .unconfigured) : configured s = true := bne_iff_ne.mpr h

theorem ruleClose_of_walk {s : State} (walk : s.billing.walk ≠ none) : ruleClose s = .notNow :=
  if_pos (Option.isSome_iff_ne_none.mpr walk)

theorem ruleClose_of_none {s : State} (walk : s.billing.walk = none) :
    ruleClose s = .done [] { s with
      billing := { s.billing with walk := if s.directory = [] then none else some 0 } } := by
  simp only [ruleClose, walk, List.isEmpty_iff]
  rfl

/-! ## The period-close walk -/

/-- R132: the record of a period close. -/
def closingRecord (r : Subscriber) : BillingRecord :=
  { recordFor .periodClose r with amount := r.periodTotal, tallies := some (r.accepted, r.missed) }

/-- R132: a walk step while the billing queue has room. -/
theorem walkStep_eq {i : Nat} {r : Subscriber} {s : State} (record : s.directory[i]? = some r)
    (room : s.billing.queue.length < 128) :
    walkStep i s = { s with
      directory := s.directory.set i (closeRecord r)
      billing := { s.billing with
        queue := s.billing.queue ++ [{ closingRecord r with seq := s.billing.seq, offpeak := s.pins.offpeak }]
        seq := s.billing.seq + 1, walk := if i + 1 = s.directory.length then none else some (i + 1) } } := by
  unfold walkStep
  dsimp only
  rw [produceFor_eq record, produceRecord_room room, modifyRecord, ← modify_eq_set record]
  rfl

theorem exec_periodCloseStep {i : Nat} {r : Subscriber} {s : State} (walk : s.billing.walk = some i)
    (record : s.directory[i]? = some r) (offpeak : Bool) :
    exec (.periodCloseStep offpeak) s =
      .next (if s.billing.queue.length < 112 then walkStep i (withOffpeak offpeak s) else s) := by
  have length : i < s.directory.length := (List.getElem?_eq_some_iff.mp record).1
  have free : Config.billingReserve < billingFree s ↔ s.billing.queue.length < 112 := by
    simp only [billingFree, Config.billingQueueSize, Config.billingReserve]
    omega
  change execPeriodCloseStep offpeak s = _
  simp only [execPeriodCloseStep, walk, length, free, true_and]

/-- Settles O13: CLOSE-PERIOD by its ruling, a walk step by the room of the billing queue. -/
theorem periodIsClosed : Obligations.PeriodIsClosed := by
  unfold Obligations.PeriodIsClosed
  refine ⟨fun s acts => ⟨fun state => ?_, fun state walk => ?_, fun state walk => ?_⟩,
    fun offpeak i r s walk record => ⟨fun room => ?_, fun full => ?_⟩⟩
  · rw [exec_closePeriod, supervise_eq _ _ _ _ _ _ acts, if_pos (by simp [configured, state])]
  · rw [exec_closePeriod, configured_eq_true state, supervise_eq _ _ _ _ _ _ acts, ruleClose_of_walk walk]
    rfl
  · rw [exec_closePeriod, configured_eq_true state, supervise_done acts List.length_nil (ruleClose_of_none walk)]
  · rw [exec_periodCloseStep walk record, if_pos room,
      walkStep_eq (s := withOffpeak offpeak s) record (room.trans (by decide))]
    rfl
  · rw [exec_periodCloseStep walk record, if_neg (Nat.not_lt.mpr full)]

end Sys2Proof.Machine
end

section
/-! The advance of the Billing Meter (R127, R128): the relation between its states before and after records are produced,
and the operations of the Billing Meter and of the Page Store, each of which advances it. -/

namespace Sys2Proof.Machine

/-! ## The advance of the meter -/

/-- R127, R128: from one state of the Billing Meter to another, records have been produced, some stored behind those
queued and the others lost and counted; the sequence counter has advanced by one for each. -/
def Advances (b m : Billing) : Prop :=
  ∃ (new : List BillingRecord) (lost : Nat), m.queue = b.queue ++ new ∧ m.lost = raise^[lost] b.lost
    ∧ m.seq = b.seq + BitVec.ofNat 16 (new.length + lost)

@[simp] theorem Advances.refl (b : Billing) : Advances b b := ⟨[], 0, by simp⟩

/-- The position of the walk has no part in it. -/
@[simp] theorem advances_walk {b m : Billing} {w : Option Nat} : Advances b { m with walk := w } ↔ Advances b m :=
  Iff.rfl

theorem Advances.stored {b m : Billing} (h : Advances b m) (r : BillingRecord) :
    Advances b { m with queue := m.queue ++ [r], seq := m.seq + 1 } := by
  obtain ⟨new, lost, queue, count, seq⟩ := h
  have total : (new ++ [r]).length + lost = new.length + lost + 1 := by
    rw [List.length_append, List.length_singleton, Nat.add_right_comm]
  exact ⟨new ++ [r], lost, by simp [queue], count, by rw [total, BitVec.ofNat_add, ← BitVec.add_assoc, ← seq]; rfl⟩

theorem Advances.dropped {b m : Billing} (h : Advances b m) :
    Advances b { m with seq := m.seq + 1, lost := raise m.lost } := by
  obtain ⟨new, lost, queue, count, seq⟩ := h
  exact ⟨new, lost + 1, queue, by rw [Function.iterate_succ_apply', ← count],
    by rw [← Nat.add_assoc, BitVec.ofNat_add, ← BitVec.add_assoc, ← seq]; rfl⟩

/-- A counter below its maximum has counted every raise. -/
theorem iterate_raise_of_lt {n m : Nat} (below : raise^[n] m < 65535) : raise^[n] m = m + n := by
  induction n with
  | zero => rfl
  | succ n ih =>
    rw [Function.iterate_succ_apply', raise] at below ⊢
    have counted := ih (by omega)
    omega

/-- R128: while the lost count is below its maximum, the records stored and lost account for the advance. -/
theorem Advances.accounts {b m : Billing} (h : Advances b m) (below : m.lost < 65535) :
    b.queue.length ≤ m.queue.length ∧ b.lost ≤ m.lost
      ∧ m.seq = b.seq + BitVec.ofNat 16 (m.queue.length - b.queue.length + (m.lost - b.lost))
      ∧ ∃ new, m.queue = b.queue ++ new := by
  obtain ⟨new, lost, queue, count, seq⟩ := h
  have lostCount : m.lost = b.lost + lost := count.trans (iterate_raise_of_lt (count ▸ below))
  have stored : m.queue.length = b.queue.length + new.length := by rw [queue, List.length_append]
  refine ⟨by omega, by omega, ?_, new, queue⟩
  rw [seq, stored, lostCount, Nat.add_sub_cancel_left, Nat.add_sub_cancel_left]

/-- A fold of effects each of which advances the meter. -/
theorem advances_foldl {α : Type} {f : State → α → State} {b : Billing} (step : ∀ s a, Advances b s.billing →
    Advances b (f s a).billing) (xs : List α) {s : State} (h : Advances b s.billing) :
    Advances b (xs.foldl f s).billing := by
  induction xs generalizing s with
  | nil => exact h
  | cons a xs ih => exact ih (step s a h)

/-! ## What leaves the meter alone

The equations closed by `(rfl)`, in brackets, are rewrite rules like the others: `simp` then uses them under the condition of
a lemma about `Advances`, where an equation by definition alone would not do. -/

theorem billing_of_outsideBus {s t : State} (h : outsideBus t = outsideBus s) : t.billing = s.billing := by
  obtain ⟨-, -, -, -, -, -, -, -, -, billing⟩ := eq_of_outsideBus h
  exact billing

theorem BusStep.billing {s t : State} (h : BusStep s t) : t.billing = s.billing := billing_of_outsideBus h.outside

section Kept

variable (s : State)

@[simp] theorem billing_withOffpeak (level : Bool) : (withOffpeak level s).billing = s.billing := (rfl)

@[simp] theorem billing_modifyRecord (i : Nat) (f : Subscriber → Subscriber) :
    (modifyRecord i f s).billing = s.billing := (rfl)

@[simp] theorem billing_setSlot (k : Fin 256) (x : Slot) : (setSlot k x s).billing = s.billing := (rfl)

@[simp] theorem billing_mapDelivery (k : Fin 256) (f : Delivery → Delivery) :
    (mapDelivery k f s).billing = s.billing := (rfl)

@[simp] theorem billing_mapAttempt (k : Fin 256) (f : Attempt → Attempt) :
    (mapAttempt k f s).billing = s.billing := (rfl)

@[simp] theorem billing_setZone (k : Fin 256) (z : Nat) (st : ZoneState) :
    (setZone k z st s).billing = s.billing := (rfl)

@[simp] theorem billing_freeSlot (k : Fin 256) : (freeSlot k s).billing = s.billing := (rfl)

@[simp] theorem billing_mapLine (k : Fin 8) (f : Line → Line) : (mapLine k f s).billing = s.billing := (rfl)

@[simp] theorem billing_mapIntakeCounts (f : IntakeCounts → IntakeCounts) :
    (mapIntakeCounts f s).billing = s.billing := (rfl)

@[simp] theorem billing_mapExchangeCounts (f : ExchangeCounts → ExchangeCounts) :
    (mapExchangeCounts f s).billing = s.billing := (rfl)

@[simp] theorem billing_mapBusCounts (f : BusCounts → BusCounts) : (mapBusCounts f s).billing = s.billing := (rfl)

@[simp] theorem billing_mapAirCounts (f : AirCounts → AirCounts) : (mapAirCounts f s).billing = s.billing := (rfl)

@[simp] theorem billing_mapMatcherCounts (f : MatcherCounts → MatcherCounts) :
    (mapMatcherCounts f s).billing = s.billing := (rfl)

@[simp] theorem billing_dropHead : (dropHead s).billing = s.billing := (rfl)

@[simp] theorem billing_setPresence (n : Nat) (p : Presence) : (setPresence n p s).billing = s.billing :=
  (busStep_setPresence n p s).billing

@[simp] theorem billing_answerTo (x : FrameKind) (dest : Nat) (seq : Byte) (payload : List Byte) :
    (answerTo x dest seq payload s).billing = s.billing := billing_of_outsideBus (outsideBus_answerTo ..)

@[simp] theorem billing_removeAnswers (drop : Frame → Bool) : (removeAnswers drop s).billing = s.billing := (rfl)

@[simp] theorem billing_refill : (refill s).billing = s.billing := (rfl)

@[simp] theorem billing_mapEntry (key : EntryKey) (f : Outstanding → Outstanding) :
    (mapEntry key f s).billing = s.billing := (rfl)

@[simp] theorem billing_claimEntry (peer : Nat) (kind : EntryKind) (owner : Owner) (payload : List Byte) :
    (claimEntry peer kind owner payload s).billing = s.billing := (rfl)

@[simp] theorem billing_freeEntry (key : EntryKey) : (freeEntry key s).billing = s.billing :=
  billing_of_outsideBus (outsideBus_freeEntry key s)

@[simp] theorem billing_convertEntry (key : EntryKey) (kind : EntryKind) (payload : List Byte) :
    (convertEntry key kind payload s).billing = s.billing := billing_of_outsideBus (outsideBus_convertEntry ..)

@[simp] theorem billing_freeZoneEntry (k : Fin 256) (z : Nat) : (freeZoneEntry k z s).billing = s.billing :=
  billing_of_outsideBus (outsideBus_freeZoneEntry ..)

@[simp] theorem billing_makePresence (p : PresenceBody) : (makePresence p s).billing = s.billing :=
  billing_of_outsideBus (outsideBus_makePresence p s)

@[simp] theorem billing_admitAsk (ask : AirAsk) : (admitAsk ask s).billing = s.billing := by
  unfold admitAsk
  repeat' split
  all_goals rfl

@[simp] theorem billing_withdrawAir (t : Tag) (w : PendingWithdraw) : (withdrawAir t w s).billing = s.billing := by
  unfold withdrawAir
  split <;> rfl

@[simp] theorem billing_withdrawZone (k : Fin 256) (t : Tag) (z : Nat) :
    (withdrawZone k t z s).billing = s.billing := by
  unfold withdrawZone withdrawOwn withdrawRemote
  repeat' split
  all_goals simp

@[simp] theorem billing_recogniseRelease (k : Fin 8) : (recogniseRelease k s).billing = s.billing := by
  unfold recogniseRelease cancelForward
  dsimp only
  split <;> simp

@[simp] theorem billing_endRun : (endRun s).billing = s.billing := (busStep_endRun s).billing

@[simp] theorem billing_endOwnRun : (endOwnRun s).billing = s.billing := (rfl)

@[simp] theorem billing_giveUp : (giveUp s).billing = s.billing := (busStep_giveUp s).billing

@[simp] theorem billing_stopBus : (stopBus s).billing = s.billing := (busStep_stopBus s).billing

@[simp] theorem billing_startAckWait (k : Fin 256) : (startAckWait k s).billing = s.billing := by
  unfold startAckWait
  repeat' split
  all_goals rfl

@[simp] theorem billing_enterRetry (k : Fin 256) : (enterRetry k s).billing = s.billing := by
  unfold enterRetry
  split <;> rfl

@[simp] theorem billing_startNextFree : (startNextFree s).billing = s.billing := by
  unfold startNextFree
  split <;> rfl

/-- R168: billing records at the end of a cycle in progress alone. -/
theorem billing_enterConfigured : (enterConfigured s).billing = (endAnyCycle s).billing := by
  simp [enterConfigured, ignoreReports, clearMark]

@[simp] theorem billing_takeMark : (takeMark s).billing = s.billing := by
  unfold takeMark
  split_ifs <;> rfl

end Kept

section Produced

variable {b : Billing} {s : State} (h : Advances b s.billing)
include h

/-! ## The Billing Meter -/

@[simp] theorem advances_produceRecord {r : BillingRecord} : Advances b (produceRecord r s).billing := by
  unfold produceRecord
  dsimp only
  split
  · exact h.stored _
  · exact h.dropped

@[simp] theorem advances_produceFor {i : Nat} {fill : Subscriber → BillingRecord} :
    Advances b (produceFor i fill s).billing := by
  unfold produceFor
  split <;> simp [h]

@[simp] theorem advances_acceptCharge {k : Fin 256} {i : Nat} : Advances b (acceptCharge k i s).billing := by
  simp [acceptCharge, h]

/-- R121: each level of the watch produces one notice, or none. -/
@[simp] theorem advances_quotaWatch {i before after : Nat} : Advances b (quotaWatch i before after s).billing := by
  unfold quotaWatch
  dsimp only
  split_ifs <;> simp [h]

@[simp] theorem advances_attemptCharge {k : Fin 256} {d : Delivery} {a z : Nat} :
    Advances b (attemptCharge k d a z s).billing := by
  unfold attemptCharge
  split <;> simp [h]

@[simp] theorem advances_cancelCredit {k : Fin 256} {d : Delivery} : Advances b (cancelCredit k d s).billing := by
  simp [cancelCredit, h]

@[simp] theorem advances_missCredit {k : Fin 256} {d : Delivery} : Advances b (missCredit k d s).billing := by
  unfold missCredit
  dsimp only
  split <;> simp [h]

@[simp] theorem advances_terminalCredit {k : Fin 256} {d : Delivery} {o : Terminal} :
    Advances b (terminalCredit k d o s).billing := by
  cases o with
  | delivered => exact h
  | expired => exact advances_missCredit h
  | cancelled => exact advances_cancelCredit h

@[simp] theorem advances_walkStep {position : Nat} : Advances b (walkStep position s).billing := by
  simp [walkStep, h]

/-! ## The Page Store -/

@[simp] theorem advances_endDelivery {k : Fin 256} {o : Terminal} : Advances b (endDelivery k o s).billing := by
  unfold endDelivery
  split <;> simp [h]

@[simp] theorem advances_countAttempt {k : Fin 256} {d : Delivery} {a : Attempt} :
    Advances b (countAttempt k d a s).billing := by
  unfold countAttempt
  split <;> simp [h]

@[simp] theorem advances_nextStep {k : Fin 256} {o : AttemptOutcome} : Advances b (nextStep k o s).billing := by
  unfold nextStep
  split
  · exact h
  · cases o with
    | acked => simp [h]
    | missed => dsimp only; split <;> simp [h]

@[simp] theorem advances_settle {k : Fin 256} : Advances b (settle k s).billing := by
  unfold settle
  repeat' split
  all_goals simp [h]

@[simp] theorem advances_settleIfResolved {k : Fin 256} : Advances b (settleIfResolved k s).billing := by
  unfold settleIfResolved
  repeat' split
  all_goals simp [h]

@[simp] theorem advances_closeAttempt {k : Fin 256} {o : AttemptOutcome} : Advances b (closeAttempt k o s).billing := by
  unfold closeAttempt
  split
  · exact h
  · exact advances_settleIfResolved (advances_foldl (fun _ _ g => by simp [g]) _ (by simpa))

@[simp] theorem advances_closeIfExhausted {k : Fin 256} : Advances b (closeIfExhausted k s).billing := by
  unfold closeIfExhausted
  repeat' split
  all_goals simp [h]

@[simp] theorem advances_afterResolved {k : Fin 256} : Advances b (afterResolved k s).billing := by
  simp [afterResolved, h]

@[simp] theorem advances_resolveZone {k : Fin 256} {z : Nat} {st : ZoneState} :
    Advances b (resolveZone k z st s).billing := by
  simp [resolveZone, h]

@[simp] theorem advances_loseZone {k : Fin 256} {z : Nat} : Advances b (loseZone k z s).billing := by
  unfold loseZone
  repeat' split
  all_goals simp [h]

@[simp] theorem advances_takeAired {z : Nat} {t : Tag} : Advances b (takeAired z s t).billing := by
  unfold takeAired
  split <;> simp [h]

@[simp] theorem advances_accept {k : Fin 256} {i : Nat} {c : MessageClass} {body : List Byte} {o : Option Origin} :
    Advances b (accept k i c body o s).billing := by
  simp [accept, h]

@[simp] theorem advances_decideEntry {n : Nat} {c : MessageClass} {body : List Byte} {o : Option Origin} :
    Advances b (decideEntry n c body o s).billing := by
  unfold decideEntry
  split <;> simp [h]

end Produced

end Sys2Proof.Machine
end

section
/-! The advance of the Billing Meter through the events of the other blocks, the frames taken, the host's commands and the
resets (R127, R128). -/

namespace Sys2Proof.Machine

section Produced

variable {b : Billing} {s : State} (h : Advances b s.billing)
include h

/-! ## The end of a cycle -/

theorem advances_reportHome {tags : List Tag} {home : Byte} : Advances b (reportHome tags s home).billing := by
  unfold reportHome
  dsimp only
  split
  · exact advances_foldl (fun _ _ g => advances_takeAired g) _ h
  · exact advances_foldl (fun _ _ g => by simp [g]) _ h

@[simp] theorem advances_ownWithdrawn {t : Tag} : Advances b (ownWithdrawn t s).billing := by
  unfold ownWithdrawn
  repeat' split
  all_goals simp [h]

theorem advances_answerOwed {e : AirEntry} : Advances b (answerOwed s e).billing := by
  unfold answerOwed
  repeat' split
  all_goals simp [h]

/-- R82: the reports, then the answers owed. -/
@[simp] theorem advances_endCycle {y : Cycle} : Advances b (endCycle y s).billing := by
  have reported : Advances b (makeReports y s).billing := advances_foldl (fun _ _ g => advances_reportHome g) _ h
  rw [endCycle, State.mapAir_billing]
  exact advances_foldl (fun _ _ => advances_foldl (fun _ _ g => advances_answerOwed g) _) _ reported

@[simp] theorem advances_endAnyCycle : Advances b (endAnyCycle s).billing := by
  unfold endAnyCycle
  split <;> simp [h]

/-! ## The Acknowledgement Matcher -/

@[simp] theorem advances_matchReport {t : Tag} : Advances b (matchReport t s).billing := by
  unfold matchReport acknowledge
  dsimp only
  split <;> simp [h]

@[simp] theorem advances_routeHead {r : Report} : Advances b (routeHead r s).billing := by
  unfold routeHead
  split_ifs <;> simp [h]

@[simp] theorem advances_takeHeard {r : Report} : Advances b (takeHeard r s).billing := by
  unfold takeHeard
  dsimp only
  split_ifs <;> simp [h]

/-! ## The Intake Unit -/

@[simp] theorem advances_routeEntry {k : Fin 8} {ask : ForwardAsk} : Advances b (routeEntry k ask s).billing := by
  unfold routeEntry produceVerdict forwardEntry
  repeat' split
  all_goals simp [h]

@[simp] theorem advances_checkEntry {k : Fin 8} {e : EntryAssembly} : Advances b (checkEntry k e s).billing := by
  unfold checkEntry produceVerdict
  split <;> simp [h]

theorem advances_assemble {k : Fin 8} {c : RxChar} : Advances b (assemble k s c).billing := by
  unfold assemble
  repeat' split
  all_goals simp [h]

@[simp] theorem advances_feedAssembler {k : Fin 8} : Advances b (feedAssembler k s).billing := by
  unfold feedAssembler
  split
  · exact advances_foldl (fun _ _ g => advances_assemble g) _ h
  · exact advances_foldl (fun _ _ g => advances_assemble g) _ h
  · exact h

@[simp] theorem advances_leaveLookup {k : Fin 8} {v : Verdict} : Advances b (leaveLookup k v s).billing := by
  unfold leaveLookup drainFifo
  split
  · exact advances_foldl (fun _ _ g => advances_assemble g) _ h
  · exact h

@[simp] theorem advances_forwardTimedOut {e : Outstanding} : Advances b (forwardTimedOut e s).billing := by
  unfold forwardTimedOut cancelForward
  dsimp only
  repeat' split
  all_goals simp [h]

/-! ## Issues, expiries and reply timers -/

@[simp] theorem advances_issueHead {k : Fin 256} {d : Delivery} : Advances b (issueHead k d s).billing := by
  unfold issueHead
  dsimp only
  split
  · exact advances_afterResolved (advances_foldl (fun _ _ g => by simp [requestOwn, g]) _
      (advances_foldl (fun _ _ g => by simp [requestZone, g]) _ (by simpa)))
  · simpa

theorem advances_issueHeads {fuel : Nat} : Advances b (issueHeads fuel s).billing := by
  induction fuel generalizing s with
  | zero => exact h
  | succ fuel ih =>
    unfold issueHeads
    split
    · exact h
    · exact ih (advances_issueHead h)

@[simp] theorem advances_expireLifetime {k : Fin 256} {d : Delivery} : Advances b (expireLifetime k d s).billing := by
  unfold expireLifetime
  split <;> simp [h]

@[simp] theorem advances_completeEntry {e : Outstanding} : Advances b (completeEntry e s).billing := by
  unfold completeEntry
  repeat' split
  all_goals simp [h]

/-! ## Fresh joins -/

theorem advances_completeKey {key : EntryKey} : Advances b (completeKey s key).billing := by
  unfold completeKey
  split <;> simp [h]

@[simp] theorem advances_completeKeys {keys : List EntryKey} : Advances b (completeKeys keys s).billing := by
  have completed : Advances b (keys.foldl completeKey s).billing :=
    advances_foldl (fun _ _ g => advances_completeKey g) keys h
  unfold completeKeys
  dsimp only
  split
  · exact completed
  · exact advances_issueHeads completed

@[simp] theorem advances_freshJoin {station : Nat} : Advances b (freshJoin station s).billing := by
  have completed : ∀ keys, Advances b (completeKeys keys (removeAnswers
      (fun f => f.kind == .heard && f.dest.toNat == station) (purgeReports station (purgeAir station s)))).billing :=
    fun _ => advances_completeKeys (by simpa [purgeReports, purgeAir, dropAir])
  unfold freshJoin
  dsimp only
  split <;> simp [ordinaryPresence, completed]

/-! ## The frames taken -/

/-- R140, R142, R163: a frame taken advances the meter as what is done with it does. -/
theorem advances_takeFrame {kind : Byte → Bool} {heard : List BusChar} {act : Received → State → State}
    (step : ∀ f t, Advances b t.billing → Advances b (act f t).billing) :
    Advances b (takeFrame kind heard act s).billing := by
  unfold takeFrame
  split
  · next t bytes heardAll =>
    dsimp only
    split
    · exact step _ _ (by simpa [refreshPeer, countTaken, (busStep_listen heardAll).billing])
    · exact h
  · exact h

theorem advances_checked {α : Type} {f : Received} {content : Option α} {act : α → State → State}
    (step : ∀ x, Advances b (act x s).billing) : Advances b (checked f content act s).billing := by
  unfold checked
  repeat' split
  all_goals simp [countMisaddressed, countBadPayload, step, h]

theorem advances_membersOnly {act : State → State} (step : Advances b (act s).billing) :
    Advances b (membersOnly act s).billing := by
  unfold membersOnly
  split <;> simp [countNotMember, step, h]

theorem advances_matched {f : Received} {kind : EntryKind} {act : Outstanding → State → State}
    (step : ∀ e, Advances b (act e s).billing) : Advances b (matched f kind act s).billing := by
  unfold matched
  repeat' split
  all_goals simp [countLate, step, h]

/-- R156, R157: a request or report, checked and acted on by a member of the office. -/
theorem advances_takeRequest {α : Type} {kind : Byte → Bool} {heard : List BusChar} {content : Received → Option α}
    {act : Received → α → State → State} (step : ∀ f x t, Advances b t.billing → Advances b (act f x t).billing) :
    Advances b (takeFrame kind heard (fun f => checked f (content f) fun x => membersOnly (act f x)) s).billing :=
  advances_takeFrame h fun _ _ g => advances_checked g fun _ => advances_membersOnly g (step _ _ _ g)

/-- R156, R161: a reply, checked and handed to the owner of its entry. -/
theorem advances_takeReply {α : Type} {kind : Byte → Bool} {heard : List BusChar} {content : Received → Option α}
    {entry : EntryKind} {act : α → Outstanding → State → State}
    (step : ∀ x e t, Advances b t.billing → Advances b (act x e t).billing) :
    Advances b (takeFrame kind heard (fun f => checked f (content f) fun x => matched f entry (act x)) s).billing :=
  advances_takeFrame h fun _ _ g => advances_checked g fun _ => advances_matched g fun _ => step _ _ _ g

theorem advances_takeForward {f : Received} {ask : ForwardAsk} : Advances b (takeForward f ask s).billing := by
  simp [takeForward, h]

theorem advances_takeCancel {f : Received} {seq : Byte} : Advances b (takeCancel f seq s).billing := by
  unfold takeCancel cancelOrigin
  dsimp only
  rw [billing_answerTo]
  split <;> simp [h]

theorem advances_takeWithdraw {f : Received} {t : Tag} : Advances b (takeWithdraw f t s).billing := by
  unfold takeWithdraw
  dsimp only
  split <;> simp [h]

theorem advances_takeTaken {code : Byte} {e : Outstanding} : Advances b (takeTaken code e s).billing := by
  unfold takeTaken
  dsimp only
  repeat' split
  all_goals simp [h]

theorem advances_takeAirAnswer {code : AirCode} {e : Outstanding} : Advances b (takeAirAnswer code e s).billing := by
  unfold takeAirAnswer
  repeat' split
  all_goals simp [h]

theorem advances_takeWithdrawn {e : Outstanding} : Advances b (takeWithdrawn e s).billing := by
  unfold takeWithdrawn
  repeat' split
  all_goals simp [h]

theorem advances_takePresence {src : Nat} {p : PresenceBody} : Advances b (takePresence src p s).billing := by
  unfold takePresence
  dsimp only
  split_ifs <;> simp [h]

/-! ## A PRESENCE sent whole -/

theorem advances_presenceWhole {f : Frame} {removed : Bool} : Advances b (presenceWhole f removed s).billing := by
  unfold presenceWhole
  dsimp only
  split
  · split_ifs
    · exact h
    · exact h
    · rw [billing_enterConfigured]
      exact advances_endAnyCycle (by simpa)
    · exact h
  · exact h

theorem advances_requestSent {f : Frame} {removed : Bool} : Advances b (requestSent f removed s).billing := by
  unfold requestSent
  dsimp only
  rw [billing_refill]
  split_ifs
  · exact advances_presenceWhole (by simpa [countSent])
  · exact h
  · exact h

/-! ## The host's commands and the resets -/

theorem advances_frameEnds {act : State → State} (step : Advances b (act s).billing) :
    Advances b (frameEnds act s).billing := by
  unfold frameEnds
  split_ifs
  · exact h
  · exact h
  · exact step

/-- R173: a host's command advances the meter as the effect of its ruling does. -/
theorem advances_supervise {code : Byte} {accepted : Bool} {count : Nat} {params : List Byte} {rule : State → Ruling}
    (step : ∀ data after, rule s = .done data after → Advances b after.billing) :
    Advances b (supervise code accepted count params rule s).billing := by
  obtain ⟨u, f, eq, rfl | ⟨-, data, ruling⟩⟩ := supervise_cases code accepted count params rule s
  · simpa [eq]
  · simpa [eq] using step data u ruling

/-- A command whose ruling leaves the meter alone. -/
theorem advances_supervise_of_billing {code : Byte} {accepted : Bool} {count : Nat} {params : List Byte}
    {rule : State → Ruling} (keeps : ∀ data after, rule s = .done data after → after.billing = s.billing) :
    Advances b (supervise code accepted count params rule s).billing :=
  advances_supervise h fun data after ruling => by rwa [keeps data after ruling]

/-- R131: CLOSE-PERIOD moves the walk alone. -/
theorem advances_ruleClose {data : List Byte} {after : State} (ruling : ruleClose s = .done data after) :
    Advances b after.billing := by
  unfold ruleClose at ruling
  split at ruling
  · simp at ruling
  · obtain ⟨-, rfl⟩ := Ruling.done.inj ruling
    exact h

/-- R187: a warm reset keeps the billing records, the sequence counter and the lost count. -/
theorem advances_warmReset {kind : ResetKind} : Advances b (warmReset kind s).billing := h

theorem advances_sampleReset {high : Bool} : Advances b (sampleReset s high).billing := by
  unfold sampleReset recogniseHigh recogniseLow pinReset
  dsimp only
  split_ifs <;> exact h

theorem advances_levelComes {high : Bool} : Advances b (levelComes high s).billing :=
  advances_foldl (fun _ _ g => advances_sampleReset g) _ h

end Produced

end Sys2Proof.Machine
end

section
/-! Every command but POWER-ON and TAKE-RECORDS advances the Billing Meter (R127, R128, R129). -/

namespace Sys2Proof.Machine

/-! ## Rulings that leave the meter alone -/

section Rulings

variable {p data : List Byte} {s after : State}

theorem billing_rulePlan (ruling : rulePlan p s = .done data after) : after.billing = s.billing := by
  unfold rulePlan at ruling
  split at ruling
  · obtain ⟨-, rfl⟩ := Ruling.done.inj ruling
    rfl
  · simp at ruling

theorem billing_ruleRange (ruling : ruleRange p s = .done data after) : after.billing = s.billing := by
  unfold ruleRange at ruling
  split at ruling
  · obtain ⟨-, rfl⟩ := Ruling.done.inj ruling
    rfl
  · simp at ruling

theorem billing_ruleSubscriber (ruling : ruleSubscriber p s = .done data after) : after.billing = s.billing := by
  unfold ruleSubscriber at ruling
  split at ruling
  · simp at ruling
  · split at ruling
    · obtain ⟨-, rfl⟩ := Ruling.done.inj ruling
      rfl
    · split_ifs at ruling
      obtain ⟨-, rfl⟩ := Ruling.done.inj ruling
      rfl

theorem billing_ruleState (ruling : ruleState p s = .done data after) : after.billing = s.billing := by
  unfold ruleState at ruling
  dsimp only at ruling
  split at ruling
  · split_ifs at ruling
    obtain ⟨-, rfl⟩ := Ruling.done.inj ruling
    rfl
  · simp at ruling

/-- R17: READ-SUBSCRIBER changes nothing. -/
theorem eq_of_ruleRead (ruling : ruleRead p s = .done data after) : after = s := by
  unfold ruleRead at ruling
  dsimp only at ruling
  split at ruling
  · split at ruling
    · split_ifs at ruling
      exact (Ruling.done.inj ruling).2.symm
    · simp at ruling
  · simp at ruling

/-- R184: READ-COUNTS changes nothing. -/
theorem eq_of_ruleCounts (ruling : ruleCounts p s = .done data after) : after = s := by
  unfold ruleCounts at ruling
  split at ruling
  · exact (Ruling.done.inj ruling).2.symm
  · simp at ruling

theorem billing_ruleClear (ruling : ruleClear p s = .done data after) : after.billing = s.billing := by
  unfold ruleClear at ruling
  dsimp only at ruling
  split_ifs at ruling
  obtain ⟨-, rfl⟩ := Ruling.done.inj ruling
  rfl

theorem billing_startLeaving (s : State) : (startLeaving s).billing = s.billing := by
  unfold startLeaving announceLeaving ordinaryPresence
  dsimp only
  split <;> simp

theorem billing_atReading (seen : LineSeen) (s : State) : (atReading seen s).billing = s.billing :=
  (busStep_measureRun _ _).billing.trans (busStep_listenOn _ s).billing

end Rulings

/-! ## Every command -/

/-- A command answers with a state whose meter has advanced. -/
def MovesOn (b : Billing) (o : Host.Outcome State Fault Refusal) : Prop := ∀ t, o = .next t → Advances b t.billing

theorem movesOn_next {b : Billing} {t : State} (h : Advances b t.billing) : MovesOn b (.next t) :=
  fun _ eq => Host.Outcome.next.inj eq ▸ h

/-- A command that acts on a condition, and otherwise leaves the state as it is. -/
theorem movesOn_ite {c : Prop} [Decidable c] {b : Billing} {s t : State} (h : Advances b s.billing)
    (acted : Advances b t.billing) : MovesOn b (.next (if c then t else s)) := by
  refine movesOn_next ?_
  split
  · exact acted
  · exact h

section Commands

variable {b : Billing} {s : State} (h : Advances b s.billing)
include h

/-! ### The supervisory port and the resets -/

theorem movesOn_execFrameStart : MovesOn b (execFrameStart s) := by
  refine movesOn_next ?_
  split <;> exact h

theorem movesOn_execTransferFaultFrame {bits : List Bool} : MovesOn b (execTransferFaultFrame bits s) := by
  refine movesOn_next ?_
  split
  · exact advances_frameEnds h h
  · exact h

theorem movesOn_execUnknownCommand {code : Byte} {p : List Byte} : MovesOn b (execUnknownCommand code p s) := by
  refine movesOn_next ?_
  split
  · exact h
  · exact advances_frameEnds h h

theorem movesOn_execPoll {p : List Byte} : MovesOn b (execPoll p s) :=
  movesOn_next <| advances_supervise_of_billing h fun _ _ ruling => by rw [← (Ruling.done.inj ruling).2]

theorem movesOn_execLoadConfig {p : List Byte} : MovesOn b (execLoadConfig p s) := by
  refine movesOn_next <| advances_supervise_of_billing h fun _ _ ruling => ?_
  split at ruling
  · obtain ⟨-, rfl⟩ := Ruling.done.inj ruling
    rfl
  · simp at ruling

theorem movesOn_execLoadPlan {p : List Byte} : MovesOn b (execLoadPlan p s) :=
  movesOn_next <| advances_supervise_of_billing (rule := rulePlan p) h fun _ _ => billing_rulePlan

theorem movesOn_execJoin {p : List Byte} : MovesOn b (execJoin p s) :=
  movesOn_next <| advances_supervise_of_billing h fun _ _ ruling => by rw [← (Ruling.done.inj ruling).2]; rfl

theorem movesOn_execLeave {p : List Byte} : MovesOn b (execLeave p s) :=
  movesOn_next <| advances_supervise_of_billing h fun _ _ ruling => by
    rw [← (Ruling.done.inj ruling).2, billing_startLeaving]

theorem movesOn_execRestart {p : List Byte} : MovesOn b (execRestart p s) :=
  movesOn_next <| advances_supervise h fun _ _ ruling => (Ruling.done.inj ruling).2 ▸ advances_warmReset h

theorem movesOn_execReadCounts {p : List Byte} {seen : LineSeen} : MovesOn b (execReadCounts p seen s) :=
  movesOn_next <| advances_supervise_of_billing (by rwa [billing_atReading]) fun _ _ ruling => by
    rw [eq_of_ruleCounts ruling]

/-! ### The intake lines -/

theorem movesOn_execSeizeSample {k : Fin 8} {high : Bool} : MovesOn b (execSeizeSample k high s) := by
  refine movesOn_next ?_
  split_ifs
  · exact h
  · exact h
  · rwa [billing_recogniseRelease]
  · exact h
  · exact h

theorem movesOn_execReleaseRecognised {k : Fin 8} : MovesOn b (execReleaseRecognised k s) :=
  movesOn_ite h (by rwa [billing_recogniseRelease])

theorem movesOn_execCharacterReceived {offpeak : Bool} {k : Fin 8} {char : Byte} {framing : Bool} :
    MovesOn b (execCharacterReceived offpeak k char framing s) :=
  movesOn_ite h (advances_feedAssembler (by simpa))

/-! ### The frames taken -/

theorem movesOn_execForward {offpeak : Bool} {heard : List BusChar} : MovesOn b (execForward offpeak heard s) :=
  movesOn_next <| advances_takeRequest (by simpa) fun _ _ _ g => advances_takeForward g

theorem movesOn_execCancel {offpeak : Bool} {heard : List BusChar} : MovesOn b (execCancel offpeak heard s) :=
  movesOn_next <| advances_takeRequest (by simpa) fun _ _ _ g => advances_takeCancel g

theorem movesOn_execAirRequest {heard : List BusChar} : MovesOn b (execAirRequest heard s) :=
  movesOn_next <| advances_takeRequest h fun _ _ _ g => by simp [takeAirRequest, g]

theorem movesOn_execWithdraw {heard : List BusChar} : MovesOn b (execWithdraw heard s) :=
  movesOn_next <| advances_takeRequest h fun _ _ _ g => advances_takeWithdraw g

theorem movesOn_execAired {offpeak : Bool} {heard : List BusChar} : MovesOn b (execAired offpeak heard s) :=
  movesOn_next <| advances_takeRequest (act := fun f (tags : List Tag) x => tags.foldl (takeAired f.src.toNat) x)
    (by simpa) fun _ _ _ g => advances_foldl (fun _ _ g => advances_takeAired g) _ g

theorem movesOn_execHeard {offpeak : Bool} {heard : List BusChar} : MovesOn b (execHeard offpeak heard s) :=
  movesOn_next <| advances_takeRequest (act := fun _ => takeHeard) (by simpa) fun _ _ _ g => advances_takeHeard g

theorem movesOn_execTaken {heard : List BusChar} : MovesOn b (execTaken heard s) :=
  movesOn_next <| advances_takeReply h fun _ _ _ g => advances_takeTaken g

theorem movesOn_execCancelAnswer {heard : List BusChar} : MovesOn b (execCancelAnswer heard s) :=
  movesOn_next <| advances_takeReply h fun _ _ _ g => by simpa

theorem movesOn_execAirAnswer {offpeak : Bool} {heard : List BusChar} : MovesOn b (execAirAnswer offpeak heard s) :=
  movesOn_next <| advances_takeReply (by simpa) fun _ _ _ g => advances_takeAirAnswer g

theorem movesOn_execWithdrawn {offpeak : Bool} {heard : List BusChar} : MovesOn b (execWithdrawn offpeak heard s) :=
  movesOn_next <| advances_takeReply (act := fun _ => takeWithdrawn) (by simpa) fun _ _ _ g => advances_takeWithdrawn g

theorem movesOn_execPresence {offpeak : Bool} {heard : List BusChar} : MovesOn b (execPresence offpeak heard s) := by
  refine movesOn_next <| advances_takeFrame (by simpa) fun f t g => ?_
  split
  · exact advances_takePresence g
  · exact g

theorem movesOn_execBadKindFrame {kind : Byte} {heard : List BusChar} : MovesOn b (execBadKindFrame kind heard s) :=
  movesOn_next <| advances_takeFrame h fun _ _ g => g

theorem movesOn_execFrameDroppedBySource {src : Byte} {heard : List BusChar} :
    MovesOn b (execFrameDroppedBySource src heard s) := by
  refine movesOn_next ?_
  split
  · next t bytes heardAll =>
    split
    · unfold dropFrame
      split <;> simpa [(busStep_listen heardAll).billing]
    · exact h
  · exact h

theorem movesOn_execFrameDiscard {heard : List BusChar} : MovesOn b (execFrameDiscard heard s) := by
  refine movesOn_next ?_
  split
  · next t causes heardAll =>
    split
    · exact h
    · rwa [(busStep_countDiscards causes t).billing, (busStep_listen heardAll).billing]
  · exact h

/-! ### The bus line -/

theorem movesOn_execBreakHeard {bits : Nat} : MovesOn b (execBreakHeard bits s) := by
  refine movesOn_ite h ?_
  split <;> simpa

theorem movesOn_execTransmissionStart {gap : Nat} : MovesOn b (execTransmissionStart gap s) := by
  refine movesOn_ite h ?_
  split
  · split <;> exact h
  · split <;> exact h
  · exact h

theorem movesOn_execFrameSent : MovesOn b (execFrameSent s) := by
  refine movesOn_next ?_
  split
  · exact h
  · split
    · exact h
    · exact advances_requestSent h
    · exact h

/-! ### The Page Store and the timers -/

theorem movesOn_execIssue {offpeak : Bool} : MovesOn b (execIssue offpeak s) := by
  refine movesOn_next ?_
  split
  · exact h
  · exact advances_issueHead (by simpa)

theorem movesOn_execLifetimeExpiry {offpeak : Bool} {k : Fin 256} : MovesOn b (execLifetimeExpiry offpeak k s) := by
  refine movesOn_next ?_
  split
  · exact h
  · split
    · exact advances_expireLifetime (by simpa)
    · exact h

theorem movesOn_execAckWaitExpiry {offpeak : Bool} {k : Fin 256} : MovesOn b (execAckWaitExpiry offpeak k s) := by
  refine movesOn_next ?_
  split
  · exact h
  · split
    · exact advances_closeAttempt (by simpa)
    · exact h

theorem movesOn_execReplyTimeout {offpeak : Bool} {key : EntryKey} : MovesOn b (execReplyTimeout offpeak key s) := by
  refine movesOn_next ?_
  split
  · exact h
  · split
    · exact advances_completeEntry (by simpa)
    · exact h

theorem movesOn_execRetryRelease : MovesOn b (execRetryRelease s) :=
  movesOn_ite h (advances_foldl (f := releaseRetry) (fun _ _ g => g) _ h)

/-! ### The Air Scheduler -/

theorem movesOn_execCycleTimerExpiry : MovesOn b (execCycleTimerExpiry s) := by
  refine movesOn_ite h ?_
  unfold cycleTimerEffect
  split_ifs <;> exact h

theorem movesOn_execSlotStart {ready : Bool} : MovesOn b (execSlotStart ready s) := by
  refine movesOn_next ?_
  split <;> exact h

theorem movesOn_execCellHanded : MovesOn b (execCellHanded s) := by
  refine movesOn_next ?_
  split
  · exact h
  · split
    · exact h
    · split <;> exact h

theorem movesOn_execCycleEnd {offpeak : Bool} : MovesOn b (execCycleEnd offpeak s) := by
  refine movesOn_next ?_
  split
  · exact h
  · split
    · rw [billing_startNextFree]
      exact advances_endCycle (by simpa)
    · exact h

/-! ### The reverse port -/

theorem movesOn_execReportCharacterReceived {char : Byte} {framing : Bool} :
    MovesOn b (execReportCharacterReceived char framing s) := by
  refine movesOn_next ?_
  split
  · exact h
  · dsimp only
    split
    · split <;> exact h
    · exact h

theorem movesOn_execReverseReport {char : Byte} {framing : Bool} : MovesOn b (execReverseReport char framing s) := by
  refine movesOn_next ?_
  split
  · exact h
  · split
    · split <;> exact h
    · exact h

theorem movesOn_execShortReport : MovesOn b (execShortReport s) := by
  refine movesOn_next ?_
  split
  · exact h
  · split <;> exact h

theorem movesOn_execExtraReportCharacter : MovesOn b (execExtraReportCharacter s) := by
  refine movesOn_next ?_
  split
  · exact h
  · split <;> exact h

theorem movesOn_execMatcherTakeHead {offpeak : Bool} : MovesOn b (execMatcherTakeHead offpeak s) := by
  refine movesOn_next ?_
  split
  · exact h
  · split
    · exact advances_routeHead (by simpa)
    · exact h

/-! ### The Exchange Unit and the period close -/

theorem movesOn_execPresenceInterval : MovesOn b (execPresenceInterval s) := by
  refine movesOn_ite h ?_
  dsimp only
  split
  · exact h
  · simpa [ordinaryPresence]

theorem movesOn_execPeriodCloseStep {offpeak : Bool} : MovesOn b (execPeriodCloseStep offpeak s) := by
  refine movesOn_next ?_
  split
  · exact h
  · split
    · exact advances_walkStep (by simpa)
    · exact h

end Commands

/-- Every command but POWER-ON and TAKE-RECORDS advances the meter. -/
theorem exec_movesOn {c : Instr} (notOn : ∀ low, c ≠ .powerOn low) (notTake : ∀ p, c ≠ .takeRecords p) (s : State) :
    MovesOn s.billing (exec c s) := by
  have h := Advances.refl s.billing
  cases c with
  | powerOn low => exact absurd rfl (notOn low)
  | takeRecords p => exact absurd rfl (notTake p)
  | resetNFall => exact movesOn_next (advances_levelComes h)
  | resetNRise => exact movesOn_next (advances_levelComes h)
  | frameStart => exact movesOn_execFrameStart h
  | transferFaultFrame => exact movesOn_execTransferFaultFrame h
  | unknownCommand code p => exact movesOn_execUnknownCommand (p := p) h
  | poll => exact movesOn_execPoll h
  | loadConfig => exact movesOn_execLoadConfig h
  | loadPlan => exact movesOn_execLoadPlan h
  | loadRange => exact movesOn_next <| advances_supervise_of_billing h fun _ _ => billing_ruleRange
  | loadSubscriber => exact movesOn_next <| advances_supervise_of_billing h fun _ _ => billing_ruleSubscriber
  | join => exact movesOn_execJoin h
  | leave => exact movesOn_execLeave h
  | restart => exact movesOn_execRestart h
  | setState => exact movesOn_next <| advances_supervise_of_billing h fun _ _ => billing_ruleState
  | readSubscriber =>
    exact movesOn_next <| advances_supervise_of_billing h fun _ _ ruling => by rw [eq_of_ruleRead ruling]
  | closePeriod => exact movesOn_next <| advances_supervise h fun _ _ => advances_ruleClose h
  | readCounts => exact movesOn_execReadCounts h
  | clearFaults => exact movesOn_next <| advances_supervise_of_billing h fun _ _ => billing_ruleClear
  | seizeRecognised => exact movesOn_ite h h
  | releaseRecognised => exact movesOn_execReleaseRecognised h
  | seizeSample => exact movesOn_execSeizeSample h
  | calibrationFirstEdge => exact movesOn_ite h h
  | rateChosen => exact movesOn_ite h h
  | measurementOverflow => exact movesOn_ite h h
  | calibrationTimeout => exact movesOn_ite h h
  | characterReceived => exact movesOn_execCharacterReceived h
  | entryTimeout => exact movesOn_ite h h
  | verdictTransmission => exact movesOn_ite h h
  | forward => exact movesOn_execForward h
  | cancel => exact movesOn_execCancel h
  | airRequest => exact movesOn_execAirRequest h
  | withdraw => exact movesOn_execWithdraw h
  | aired => exact movesOn_execAired h
  | heard => exact movesOn_execHeard h
  | taken => exact movesOn_execTaken h
  | cancelAnswer => exact movesOn_execCancelAnswer h
  | airAnswer => exact movesOn_execAirAnswer h
  | withdrawn => exact movesOn_execWithdrawn h
  | presence => exact movesOn_execPresence h
  | badKindFrame => exact movesOn_execBadKindFrame h
  | frameDroppedBySource => exact movesOn_execFrameDroppedBySource h
  | frameDiscard => exact movesOn_execFrameDiscard h
  | breakHeard => exact movesOn_execBreakHeard h
  | shortBreak => exact movesOn_ite h (by simp)
  | stuckLine => exact movesOn_ite h (by simp [absentAll])
  | stoppedConditionEnd => exact movesOn_ite h h
  | breakStart => exact movesOn_ite h (by simp [clearMark, driveBreak])
  | transmissionStart => exact movesOn_execTransmissionStart h
  | frameSent => exact movesOn_execFrameSent h
  | lostArbitration => exact movesOn_ite h (by simp)
  | issue => exact movesOn_execIssue h
  | lifetimeExpiry => exact movesOn_execLifetimeExpiry h
  | ackWaitExpiry => exact movesOn_execAckWaitExpiry h
  | replyTimeout => exact movesOn_execReplyTimeout h
  | retryRelease => exact movesOn_execRetryRelease h
  | freeCycleStart => exact movesOn_next (by simp)
  | cycleTimerExpiry => exact movesOn_execCycleTimerExpiry h
  | slotStart => exact movesOn_execSlotStart h
  | cellHanded => exact movesOn_execCellHanded h
  | cycleEnd => exact movesOn_execCycleEnd h
  | reportCharacterReceived => exact movesOn_execReportCharacterReceived h
  | reverseReport => exact movesOn_execReverseReport h
  | shortReport => exact movesOn_execShortReport h
  | extraReportCharacter => exact movesOn_execExtraReportCharacter h
  | matcherTakeHead => exact movesOn_execMatcherTakeHead h
  | presenceTimeout => exact movesOn_ite h (by simp)
  | presenceInterval => exact movesOn_execPresenceInterval h
  | listenTimer => exact movesOn_ite h (by simp)
  | drain => exact movesOn_ite h (by simp [announceLeaving])
  | periodCloseStep => exact movesOn_execPeriodCloseStep h

/-- Settles O59: every command but the two advances the meter, and the advance is accounted for while the lost count is
below its maximum. -/
theorem billingSequenceCountsRecords : Obligations.BillingSequenceCountsRecords := by
  unfold Obligations.BillingSequenceCountsRecords
  exact fun c s t notOn notTake ran below => (exec_movesOn notOn notTake s t ran).accounts below

end Sys2Proof.Machine
end

section
/-! The receiver of the bus: what one character brings about (R137, R139 to R141), the frame that a whole reception
completes (R138, R139), and the frames that are counted and not taken (R140, R141, R156). -/

namespace Sys2Proof.Machine

/-! ## One character -/

/-- R140: the station with its reception at `rx`, after a character. -/
def receptionAt (rx : Option (List Byte)) (s : State) : State := s.mapBus fun b => { b with rx := rx, run := 0 }

/-- R141: an address character discards a frame still under reception. -/
def interruption (rx : Option (List Byte)) : List DiscardCause := if rx.isSome then [.interrupted] else []

section Character

variable {mine : Byte → Bool} {rx : Option (List Byte)} {c : BusChar} {bytes : List Byte}

theorem receiveChar_noise (noise : isNoise c = true) : receiveChar mine rx c = (rx, .silent) := if_pos noise

theorem receiveChar_address (clean : isNoise c = false) (address : isAddress c = true) :
    receiveChar mine rx c = openFrame (mine (dataOf c)) c rx := by
  simp [receiveChar, clean, address]

theorem receiveChar_outside (clean : isNoise c = false) (further : isAddress c = false) :
    receiveChar mine none c = (none, .silent) := by
  simp [receiveChar, clean, further]

theorem receiveChar_further (clean : isNoise c = false) (further : isAddress c = false) :
    receiveChar mine (some bytes) c = joinFrame c bytes := by
  simp [receiveChar, clean, further]

theorem openFrame_other : openFrame false c rx = (none, .discarded (interruption rx)) := rfl

theorem openFrame_marked (marked : framingError c = true) :
    openFrame true c rx = (none, .discarded (interruption rx ++ [.framing])) := by
  simp [openFrame, marked, interruption]

theorem openFrame_opens (unmarked : framingError c = false) :
    openFrame true c rx = (some [dataOf c], .discarded (interruption rx)) := by
  simp [openFrame, unmarked, interruption]

theorem joinFrame_marked (marked : framingError c = true) : joinFrame c bytes = (none, .discarded [.framing]) :=
  if_pos marked

/-- R139: the fifth character is the length, at most 96. -/
theorem joinFrame_tooLong (unmarked : framingError c = false) (fifth : bytes.length = 4) (long : 96 < (dataOf c).toNat) :
    joinFrame c bytes = (none, .discarded [.length]) := by
  simp [joinFrame, unmarked, fifth, long]

/-- R138: the character joins a frame that still lacks some. -/
theorem joinFrame_joins (unmarked : framingError c = false) (fits : bytes.length = 4 → (dataOf c).toNat ≤ 96)
    (short : bytes.length < 4 ∨ bytes.length + 1 < frameLength (bytes ++ [dataOf c])) :
    joinFrame c bytes = (some (bytes ++ [dataOf c]), .silent) := by
  simp only [joinFrame, unmarked, Bool.false_eq_true, if_false, List.length_append, List.length_singleton]
  rw [if_neg (fun ⟨fifth, long⟩ => absurd (fits (by omega)) (by omega)), if_pos (by omega)]

/-- R139: the last character completes the frame or discards it, by the CRC. -/
theorem joinFrame_last (unmarked : framingError c = false) (past : 5 ≤ bytes.length)
    (last : bytes.length + 1 = frameLength (bytes ++ [dataOf c])) :
    joinFrame c bytes = if crcAgrees (bytes ++ [dataOf c]) then (none, .complete (bytes ++ [dataOf c]))
      else (none, .discarded [.crc]) := by
  simp only [joinFrame, unmarked, Bool.false_eq_true, if_false, List.length_append, List.length_singleton]
  rw [if_neg (by omega), if_neg (by omega)]

end Character

/-- A byte of the front of a list. -/
theorem byteAt_append_left {xs : List Byte} {i : Nat} (h : i < xs.length) (ys : List Byte) :
    byteAt (xs ++ ys) i = byteAt xs i := by
  simp only [byteAt, List.getD_eq_getElem?_getD, List.getElem?_append_left h]

theorem forThis_iff {s : State} {data : Byte} : forThis s data = true ↔ data = 0 ∨ isOwn s data.toNat = true := by
  rw [forThis, Bool.or_eq_true, beq_iff_eq]
  exact or_congr_left (BitVec.toNat_eq (y := 0)).symm

theorem receives_iff {s : State} : receives s = true ↔ running s = true ∧ s.bus.stopped = false := by
  rw [receives, Bool.and_eq_true, Bool.not_eq_true']

theorem hearChar_of_receives {c : BusChar} {s : State} (acts : receives s = true) : hearChar c s =
    (receptionAt (receiveChar (forThis s) s.bus.rx c).1 s, (receiveChar (forThis s) s.bus.rx c).2) := if_pos acts

/-! ## FRAME_DISCARD on one character (R141) -/

section Discard

variable {c : BusChar} {rx : Option (List Byte)} {causes : List DiscardCause} {s : State}

theorem exec_frameDiscard_one (acts : receives s = true)
    (brings : receiveChar (forThis s) s.bus.rx c = (rx, .discarded causes)) :
    exec (.frameDiscard [c]) s = .next (if causes = [] then s else countDiscards causes (receptionAt rx s)) := by
  change execFrameDiscard [c] s = _
  rw [execFrameDiscard, listen, if_pos rfl, hearChar_of_receives acts, brings]

/-- A character that discards nothing is no such event. -/
theorem exec_frameDiscard_nothing (acts : receives s = true)
    (brings : receiveChar (forThis s) s.bus.rx c = (rx, .discarded [])) : exec (.frameDiscard [c]) s = .next s := by
  rw [exec_frameDiscard_one acts brings, if_pos rfl]

/-- R141: each frame discarded raises the count of its cause. -/
theorem exec_frameDiscard_causes (acts : receives s = true) (some_ : causes ≠ [])
    (brings : receiveChar (forThis s) s.bus.rx c = (rx, .discarded causes)) :
    exec (.frameDiscard [c]) s = .next { s with bus := { s.bus with
      rx := rx, run := 0, counts := causes.foldl countDiscard s.bus.counts } } := by
  rw [exec_frameDiscard_one acts brings, if_neg some_]
  rfl

end Discard

/-- R139: the last two characters do not agree with the CRC over those before them. -/
theorem crcAgrees_eq_false {bytes : List Byte} {data : Byte} {covered : Nat} (last : bytes.length = covered + 1)
    (differs : (bytes ++ [data]).drop covered ≠ be2 (crc (bytes.take covered)).toNat) :
    crcAgrees (bytes ++ [data]) = false := by
  have front : (bytes ++ [data]).length - 2 = covered := by simp [last]
  have takes : (bytes ++ [data]).take covered = bytes.take covered := List.take_append_of_le_length (by omega)
  rw [crcAgrees, front, beq_eq_false_iff_ne, withCrc, takes]
  intro same
  exact differs ((congrArg (List.drop covered) same).trans (List.drop_left' (by simp [last])))

/-! ## A whole frame (R138 to R140) -/

/-- R138, R139: the bytes are those of a frame that a receiver completes. -/
structure WholeFrame (bytes : List Byte) : Prop where
  length : bytes.length = frameLength bytes
  payload : (byteAt bytes 4).toNat ≤ 96
  crc : crcAgrees bytes = true

theorem crcAgrees_withCrc (bytes : List Byte) : crcAgrees (withCrc bytes) = true := by
  simp [crcAgrees, withCrc, be2]

theorem wholeFrame_frameBytes {f : Frame} (fits : f.payload.length ≤ 96) : WholeFrame (frameBytes f) := by
  have length : (byteAt (frameBytes f) 4).toNat = f.payload.length := by
    simp [frameBytes, withCrc, byteAt]
    omega
  refine ⟨?_, by omega, crcAgrees_withCrc _⟩
  rw [frameLength, length]
  simp [frameBytes, withCrc, be2]
  omega

theorem readFrame_frameBytes {f : Frame} (fits : f.payload.length ≤ 96) : readFrame (frameBytes f) =
    { dest := f.dest, src := f.src, kind := kindCode f.kind, seq := f.seq, payload := f.payload } := by
  have length : f.payload.length % 256 = f.payload.length := Nat.mod_eq_of_lt (by omega)
  simp [readFrame, frameBytes, withCrc, byteAt, length]

section BusChar

variable (mark : Bool) (b : Byte)

@[simp] theorem isNoise_busChar : isNoise (busChar mark b) = false := by
  simp only [isNoise, busChar, BitVec.getLsbD_append]
  simp

@[simp] theorem isAddress_busChar : isAddress (busChar mark b) = mark := by
  simp only [isAddress, busChar, BitVec.getLsbD_append]
  simp

@[simp] theorem framingError_busChar : framingError (busChar mark b) = false := by
  simp only [framingError, busChar, BitVec.getLsbD_append]
  simp

@[simp] theorem dataOf_busChar : dataOf (busChar mark b) = b := by
  refine BitVec.eq_of_getLsbD_eq fun i small => ?_
  simp only [dataOf, busChar, BitVec.getLsbD_extractLsb', BitVec.getLsbD_append]
  simp [small, Nat.add_comm 1 i]

end BusChar

section Whole

variable {b : Byte} {head later : List Byte}

/-- R138: a character of a whole frame that is not its last joins it. -/
theorem joinFrame_within (whole : WholeFrame (head ++ b :: later)) (more : later ≠ []) :
    joinFrame (busChar false b) head = (some (head ++ [b]), .silent) := by
  have split : head ++ b :: later = (head ++ [b]) ++ later := by simp
  have some_ : 0 < later.length := List.length_pos_of_ne_nil more
  rw [joinFrame_joins (framingError_busChar ..) ?_ ?_, dataOf_busChar]
  · intro fifth
    have fits := whole.payload
    rw [split, byteAt_append_left (by simp [fifth])] at fits
    simpa [byteAt, ← fifth] using fits
  · by_cases short : head.length < 4
    · exact .inl short
    · have length := whole.length
      rw [split, frameLength, byteAt_append_left (by simp; omega)] at length
      simp only [List.length_append, List.length_singleton] at length
      rw [dataOf_busChar, frameLength]
      omega

/-- R139: its last character completes it. -/
theorem joinFrame_whole (whole : WholeFrame (head ++ [b])) :
    joinFrame (busChar false b) head = (none, .complete (head ++ [b])) := by
  have length := whole.length
  rw [List.length_append, List.length_singleton] at length
  have long : 7 ≤ head.length + 1 := by rw [length]; exact Nat.le_add_right ..
  rw [joinFrame_last (framingError_busChar ..) (by omega) (by rw [dataOf_busChar]; exact length), dataOf_busChar,
    if_pos whole.crc]

end Whole

/-- R140: the further characters of a whole frame complete it. -/
theorem listen_further {s : State} (acts : receives s = true) {head rest : List Byte} (more : rest ≠ [])
    (whole : WholeFrame (head ++ rest)) : listen (rest.map (busChar false)) (receptionAt (some head) s) =
      some (receptionAt none s, .complete (head ++ rest)) := by
  induction rest generalizing head with
  | nil => exact absurd rfl more
  | cons b later ih =>
    have hears : hearChar (busChar false b) (receptionAt (some head) s) =
        (receptionAt (joinFrame (busChar false b) head).1 s, (joinFrame (busChar false b) head).2) := by
      rw [hearChar_of_receives (s := receptionAt (some head) s) acts]
      change (receptionAt (receiveChar _ (some head) _).1 _, (receiveChar _ (some head) _).2) = _
      rw [receiveChar_further (isNoise_busChar ..) (isAddress_busChar ..)]
      rfl
    rw [List.map_cons, listen]
    by_cases last : later = []
    · subst last
      rw [List.map_nil, if_pos rfl, hears, joinFrame_whole whole]
    · rw [if_neg (by simpa using last), hears, joinFrame_within whole last, if_pos rfl]
      have joined : head ++ b :: later = (head ++ [b]) ++ later := by simp
      rw [joined] at whole ⊢
      exact ih last whole

/-- R140: the characters of a whole frame for this station complete it. -/
theorem listen_lineChars {s : State} (acts : receives s = true) (idle : s.bus.rx = none) {dest : Byte} {rest : List Byte}
    (mine : forThis s dest = true) (more : rest ≠ []) (whole : WholeFrame (dest :: rest)) :
    listen (lineChars (dest :: rest)) s = some (receptionAt none s, .complete (dest :: rest)) := by
  have opens : hearChar (busChar true dest) s = (receptionAt (some [dest]) s, .silent) := by
    rw [hearChar_of_receives acts, receiveChar_address (isNoise_busChar ..) (isAddress_busChar ..), dataOf_busChar, mine,
      openFrame_opens (framingError_busChar ..), dataOf_busChar, idle]
    rfl
  rw [lineChars, listen, if_neg (by simpa using more), opens, if_pos rfl]
  exact listen_further (head := [dest]) acts more whole

/-! ## Frames that are not taken -/

/-- R156: the codes of the eleven kinds are those that name one. -/
theorem kindOf_eq_none {code : Byte} (unnamed : namesFrameKind code = false) : kindOf code = none := by
  refine List.find?_eq_none.mpr fun k _ => ?_
  rw [decide_eq_true_iff]
  rintro rfl
  cases k <;> exact absurd unnamed (by decide)

/-- R140: what a frame that completes with a source other than another station's does. -/
theorem exec_frameDroppedBySource {heard : List BusChar} {bytes : List Byte} {s t : State}
    (completes : listen heard s = some (t, .complete bytes)) (dropped : judgeSource bytes (receptionAt none s) ≠ .valid) :
    exec (.frameDroppedBySource (byteAt bytes 1) heard) s =
      .next (dropFrame (judgeSource bytes (receptionAt none s)) (receptionAt none s)) := by
  have same : t = receptionAt none s := (listen_complete completes).2
  subst same
  change execFrameDroppedBySource (byteAt bytes 1) heard s = _
  rw [execFrameDroppedBySource, completes]
  exact congrArg _ (if_pos ⟨rfl, dropped⟩)

section Source

variable {bytes : List Byte} {s : State}

theorem judgeSource_bad (outside : byteAt bytes 1 = 0 ∨ 24 < (byteAt bytes 1).toNat) : judgeSource bytes s = .bad := by
  refine if_pos (outside.imp_left fun zero => ?_)
  rw [zero]
  rfl

theorem judgeSource_own (low : 1 ≤ (byteAt bytes 1).toNat) (high : (byteAt bytes 1).toNat ≤ 24)
    (own : isOwn s (byteAt bytes 1).toNat = true) :
    judgeSource bytes s = if transmits bytes s then .own else .duplicate := by
  rw [judgeSource, if_neg (by omega), if_pos own]

theorem transmits_iff : transmits bytes s = true ↔
    ∃ cs removed, (s.bus.tx = .answer cs removed ∨ s.bus.tx = .request cs removed) ∧ cs.map dataOf = bytes := by
  unfold transmits
  cases s.bus.tx <;> simp

end Source

/-! ### The discards (R141) -/

section Discards

variable {c : BusChar} {s : State}

/-- R141: a character with the mark bit recessive, by the reception that it meets. -/
theorem exec_frameDiscard_address (acts : receives s = true) (clean : isNoise c = false) (address : isAddress c = true) :
    (forThis s (dataOf c) = false → exec (.frameDiscard [c]) s = .next (if s.bus.rx = none then s else
      { s with bus := { s.bus with
        rx := none, run := 0, counts := (interruption s.bus.rx).foldl countDiscard s.bus.counts } }))
    ∧ (forThis s (dataOf c) = true → framingError c = false → exec (.frameDiscard [c]) s = .next (
      if s.bus.rx = none then s else { s with bus := { s.bus with
        rx := some [dataOf c], run := 0, counts := (interruption s.bus.rx).foldl countDiscard s.bus.counts } }))
    ∧ (forThis s (dataOf c) = true → framingError c = true → exec (.frameDiscard [c]) s = .next {
      s with bus := { s.bus with
        rx := none, run := 0,
        counts := (interruption s.bus.rx ++ [DiscardCause.framing]).foldl countDiscard s.bus.counts } }) := by
  have brings {m : Bool} {r : Option (List Byte) × RxEvent} (mine : forThis s (dataOf c) = m)
      (opens : openFrame m c s.bus.rx = r) : receiveChar (forThis s) s.bus.rx c = r := by
    rw [receiveChar_address clean address, mine, opens]
  have cut (rx : Option (List Byte))
      (taken : receiveChar (forThis s) s.bus.rx c = (rx, .discarded (interruption s.bus.rx))) : exec (.frameDiscard [c]) s = .next (if s.bus.rx = none then s else { s with bus := { s.bus with
        rx := rx, run := 0, counts := (interruption s.bus.rx).foldl countDiscard s.bus.counts } }) := by
    split
    · next none => exact exec_frameDiscard_nothing acts (by rw [taken, none]; rfl)
    · next under =>
      exact exec_frameDiscard_causes acts (by simp [interruption, Option.isSome_iff_ne_none.mpr under]) taken
  exact ⟨fun other => cut _ (brings other openFrame_other),
    fun mine unmarked => cut _ (brings mine (openFrame_opens unmarked)),
    fun mine marked => exec_frameDiscard_causes acts (by simp) (brings mine (openFrame_marked marked))⟩

/-- R141: a further character of a frame under reception, that discards it for a cause. -/
theorem exec_frameDiscard_further {bytes : List Byte} {cause : DiscardCause} (acts : receives s = true)
    (clean : isNoise c = false) (further : isAddress c = false) (under : s.bus.rx = some bytes)
    (joins : joinFrame c bytes = (none, .discarded [cause])) : exec (.frameDiscard [c]) s = .next {
      s with bus := { s.bus with rx := none, run := 0, counts := countDiscard s.bus.counts cause } } :=
  exec_frameDiscard_causes (causes := [cause]) acts (by simp) (by rw [under, receiveChar_further clean further, joins])

end Discards

/-- R141: a frame under reception is interrupted. -/
theorem interruption_of_ne_none {rx : Option (List Byte)} (under : rx ≠ none) : interruption rx = [.interrupted] :=
  if_pos (Option.isSome_iff_ne_none.mpr under)

/-- Settles O22: by the judgement of the source, and by the character under the reception that it meets. -/
theorem untakenFramesAreCounted : Obligations.UntakenFramesAreCounted := by
  unfold Obligations.UntakenFramesAreCounted
  refine ⟨?badKind, ?source, ?discard⟩
  case badKind =>
    rintro kind heard f s unnamed heardFrame rfl
    exact congrArg _ (takeFrame_of_hears heardFrame (by simp [kindOf_eq_none unnamed]) _)
  case source =>
    rintro _ heard bytes s t n rfl completes rfl _ rfl
    have dropped {j : SourceJudgement} (judged : judgeSource bytes (receptionAt none s) = j) (notValid : j ≠ .valid) :
        exec (.frameDroppedBySource (byteAt bytes 1) heard) s = .next (dropFrame j (receptionAt none s)) :=
      judged ▸ exec_frameDroppedBySource completes (judged ▸ notValid)
    refine ⟨fun outside => dropped (judgeSource_bad outside) (by decide), fun low high own => ?_⟩
    have judged := judgeSource_own (s := receptionAt none s) low high own
    refine ⟨fun sent => dropped (j := .own) ?_ (by decide), fun other => dropped (j := .duplicate) ?_ (by decide)⟩
    · rw [judged, if_pos (transmits_iff (s := receptionAt none s).mpr sent)]
    · rw [judged, if_neg fun sends => ?_]
      obtain ⟨cs, removed, tx, same⟩ := transmits_iff.mp sends
      exact other cs removed tx same
  case discard =>
    rintro c data s n runs goes rfl rfl _ rfl
    have acts : receives s = true := receives_iff.mpr ⟨runs, goes⟩
    have marked (stop : c.getLsbD 10 = false) : framingError c = true := by rw [framingError, stop]; rfl
    have unmarked (stop : c.getLsbD 10 = true) : framingError c = false := by rw [framingError, stop]; rfl
    refine ⟨fun noise => exec_frameDiscard_nothing acts (receiveChar_noise noise), fun clean address => ?_,
      fun clean further => ⟨fun idle => exec_frameDiscard_nothing (rx := none) acts ?_, fun bytes under => ?_⟩⟩
    · obtain ⟨other, opens, framing⟩ := exec_frameDiscard_address acts clean address
      have notMine (zero : dataOf c ≠ 0) (own : isOwn s (dataOf c).toNat = false) : forThis s (dataOf c) = false :=
        Bool.eq_false_iff.mpr fun mine => (forThis_iff.mp mine).elim zero (by simp [own])
      refine ⟨fun idle quiet => ?_, fun idle stop own => ?_, ?_⟩
      · rw [if_pos idle] at other opens
        cases mine : forThis s (dataOf c) with
        | false => exact other mine
        | true =>
          refine opens mine (unmarked (quiet.resolve_right fun ⟨zero, own⟩ => ?_))
          rw [notMine zero own] at mine
          cases mine
      · rw [framing (forThis_iff.mpr own) (marked stop), idle]
        rfl
      · rintro _ rfl under
        rw [if_neg under, interruption_of_ne_none under] at other opens
        rw [interruption_of_ne_none under] at framing
        exact ⟨fun zero own => other (notMine zero own), fun own =>
          ⟨fun stop => opens (forThis_iff.mpr own) (unmarked stop),
            fun stop => framing (forThis_iff.mpr own) (marked stop)⟩⟩
    · rw [idle]
      exact receiveChar_outside clean further
    · have discarded {cause : DiscardCause} := exec_frameDiscard_further (cause := cause) acts clean further under
      refine ⟨fun stop => discarded (joinFrame_marked (marked stop)),
        fun stop fifth long => discarded (joinFrame_tooLong (unmarked stop) fifth long), ?_⟩
      rintro len stop past rfl last differs
      refine discarded (cause := .crc) ?_
      have length : byteAt (bytes ++ [dataOf c]) 4 = byteAt bytes 4 := byteAt_append_left past _
      rw [joinFrame_last (unmarked stop) past (by rw [frameLength, length]; exact last),
        crcAgrees_eq_false (data := dataOf c) (by omega) differs]
      rfl

end Sys2Proof.Machine
end

section
/-! Breaks, marks and a stuck line: the end of a dominant run (R141, R148), the mark that it passes (R75, R89), the
station's own break (R144, R147), and the stopped condition (R149, R150). -/

namespace Sys2Proof.Machine

/-! ## The end of a dominant run (R141, R148) -/

section Run

variable {s : State}

/-- R141: a run of more than a character time discards a frame under reception. -/
theorem cutFrame_eq (s : State) : cutFrame s = { s with bus := { s.bus with
    rx := none, counts := { s.bus.counts with framingErrors := framingRaised s } } } := by
  by_cases idle : s.bus.rx = none
  · rw [cutFrame, if_neg (by simp [idle]), framingRaised, if_pos idle, ← idle]
  · rw [cutFrame, if_pos (Option.isSome_iff_ne_none.mpr idle), framingRaised, if_neg idle]
    rfl

/-- The station after a run of more than a character time. -/
def runEnded (s : State) : State := { s with bus := { s.bus with
  rx := none, run := 0, counts := { s.bus.counts with framingErrors := framingRaised s } } }

theorem endRun_eq (s : State) : endRun s = runEnded s := by
  rw [endRun, cutFrame_eq]
  rfl

/-- R148: a mark heard, before what the Air Scheduler makes of it. -/
def markHeard (s : State) : State := mapBusCounts (fun c => { c with marksHeard := raise c.marksHeard }) (runEnded s)

theorem exec_breakHeard {bits : Nat} (runs : running s = true) (long : 22 ≤ bits) (short : bits ≤ 44) :
    exec (.breakHeard bits) s = .next (if s.bus.drove then endOwnRun (runEnded s) else takeMark (markHeard s)) := by
  change execBreakHeard bits s = _
  rw [execBreakHeard, if_pos ⟨runs, by simp [isBreak, long, short]⟩, endRun_eq]
  rfl

end Run

/-! ## The mark (R75, R89) -/

section Mark

variable {s : State}

/-- R75: a cycle that a mark may start in a member: in LEAVING, only while an air queue holds an entry. -/
def MarkStarts (s : State) : Prop :=
  s.life.state = .onBus ∨ (s.life.state = .leaving ∧ (s.air.regular ≠ [] ∨ s.air.priority ≠ []))

theorem takeMark_unaligned (out : member s = false ∨ (cfg s).mode = .free) : takeMark s = s :=
  if_neg fun ⟨joined, aligned⟩ => by
    rcases out with stranger | free
    · exact absurd (joined.symm.trans stranger) (by decide)
    · exact absurd (aligned.symm.trans free) (by decide)

theorem takeMark_inCycle (joined : member s = true) (mode : (cfg s).mode = .aligned) (busy : s.air.cycle ≠ none) :
    takeMark s = mapAirCounts (fun c => { c with marksIgnored := raise c.marksIgnored }) s := by
  rw [takeMark, if_pos ⟨joined, mode⟩, if_pos (Option.isSome_iff_ne_none.mpr busy)]

theorem takeMark_between (joined : member s = true) (mode : (cfg s).mode = .aligned) (idle : s.air.cycle = none) :
    takeMark s = if s.life.state = .leaving ∧ airEmpty s = true then clearMark s else startCycle (clearMark s) := by
  rw [takeMark, if_pos ⟨joined, mode⟩, idle]
  rfl

theorem takeMark_drained (leaving : s.life.state = .leaving) (mode : (cfg s).mode = .aligned) (idle : s.air.cycle = none)
    (regular : s.air.regular = []) (priority : s.air.priority = []) : takeMark s = clearMark s := by
  rw [takeMark_between (by simp only [member, leaving]) mode idle, if_pos ⟨leaving, airEmpty_iff.mpr ⟨regular, priority⟩⟩]

theorem takeMark_starts (starts : MarkStarts s) (mode : (cfg s).mode = .aligned) (idle : s.air.cycle = none) :
    takeMark s = startCycle (clearMark s) := by
  have joined : member s = true := by rcases starts with state | ⟨state, -⟩ <;> simp only [member, state]
  rw [takeMark_between joined mode idle, if_neg]
  rintro ⟨leaving, empty⟩
  obtain ⟨regular, priority⟩ := airEmpty_iff.mp empty
  rcases starts with onBus | ⟨-, holds | holds⟩
  · exact absurd (onBus.symm.trans leaving) (by decide)
  · exact holds regular
  · exact holds priority

/-- R72, R74, R75: an ALIGNED cycle that a mark starts, as the station then stands. -/
theorem takeMark_starts_eq (starts : MarkStarts s) (mode : (cfg s).mode = .aligned) (idle : s.air.cycle = none) :
    takeMark s = { s with
      bus := { s.bus with pendingMark := false },
      air := { s.air with
        cycle := some (startedCycle s.tick (anyQueued s)), key := anyQueued s,
        lastCell := if anyQueued s then some 0xB4E61D else s.air.lastCell,
        timer := some (s.tick + BitVec.ofNat 32 (19 * (cfg s).slotTime)) } } := by
  rw [takeMark_starts starts mode idle, startCycle_aligned (s := clearMark s) mode]
  rfl

/-- R75: what a mark leaves of the Air Scheduler in every case. -/
theorem takeMark_cases (s : State) : takeMark s = s
    ∨ takeMark s = mapAirCounts (fun c => { c with marksIgnored := raise c.marksIgnored }) s
    ∨ takeMark s = clearMark s ∨ (s.air.cycle = none ∧ takeMark s = startCycle (clearMark s)) := by
  by_cases aligned : member s = true ∧ (cfg s).mode = .aligned
  · obtain ⟨joined, mode⟩ := aligned
    by_cases idle : s.air.cycle = none
    · rw [takeMark_between joined mode idle]
      split
      · exact .inr (.inr (.inl rfl))
      · exact .inr (.inr (.inr ⟨idle, rfl⟩))
    · exact .inr (.inl (takeMark_inCycle joined mode idle))
  · exact .inl (if_neg aligned)

/-- R75: with no pending mark, a mark changes the Air Scheduler alone, and there neither queue nor the marks sent; a cycle
in progress goes on. -/
theorem takeMark_air (noMark : s.bus.pendingMark = false) : takeMark s = { s with air := (takeMark s).air }
    ∧ (takeMark s).air.counts.marksSent = s.air.counts.marksSent ∧ (takeMark s).air.regular = s.air.regular
    ∧ (takeMark s).air.priority = s.air.priority ∧ (s.air.cycle ≠ none → (takeMark s).air.cycle = s.air.cycle) := by
  have cleared : clearMark s = s := by
    rw [clearMark, State.mapBus, ← noMark]
  rcases takeMark_cases s with same | ignored | clear | ⟨idle, starts⟩
  · rw [same]
    exact ⟨rfl, rfl, rfl, rfl, fun _ => rfl⟩
  · rw [ignored]
    exact ⟨rfl, rfl, rfl, rfl, fun _ => rfl⟩
  · rw [clear, cleared]
    exact ⟨rfl, rfl, rfl, rfl, fun _ => rfl⟩
  · rw [starts, cleared]
    exact ⟨rfl, rfl, rfl, rfl, fun busy => absurd idle busy⟩

/-- R144, R147: the station's own break begins. -/
def breakBegun (s : State) : State := clearMark (driveBreak s)

theorem mayTransmit_of_idle (runs : running s = true) (tx : s.bus.tx = .idle) (goes : s.bus.stopped = false) :
    mayTransmit s = true := by
  simp [mayTransmit, runs, tx, goes]

theorem exec_breakStart {gap : Nat} (runs : running s = true) (tx : s.bus.tx = .idle) (goes : s.bus.stopped = false)
    (mark : s.bus.pendingMark = true) (quiet : 22 ≤ gap) : exec (.breakStart gap) s =
      .next (mapAirCounts (fun c => { c with marksSent := raise c.marksSent }) (takeMark (breakBegun s))) :=
  congrArg _ (if_pos ⟨mayTransmit_of_idle runs tx goes, mark, quiet⟩)

end Mark

/-- R137, R147: READ-COUNTS measures the run in progress. -/
theorem bus_execReadCounts {p : List Byte} {bits : Nat} {s : State} (runs : running s = true) :
    ∃ t, exec (.readCounts p { heard := [], run := bits }) s = .next t ∧ t.bus = { s.bus with
      run := bits, tx := if s.bus.tx = .breaking ∧ 33 ≤ bits then .idle else s.bus.tx } := by
  have measured : atReading { heard := [], run := bits } s = s.mapBus fun b => { b with
      run := bits, tx := if b.tx = .breaking ∧ 33 ≤ bits then .idle else b.tx } := if_pos runs
  obtain ⟨u, f, supervised, found⟩ :=
    supervise_cases 0x0C true 1 p (ruleCounts p) (atReading { heard := [], run := bits } s)
  refine ⟨u.mapPort f, congrArg Host.Outcome.next supervised, ?_⟩
  rcases found with rfl | ⟨-, data, ruling⟩
  · rw [measured]
    rfl
  · unfold ruleCounts at ruling
    split at ruling
    · obtain ⟨-, rfl⟩ := Ruling.done.inj ruling
      rw [measured]
      rfl
    · cases ruling

/-- Settles O36: by the run's origin and what the mark finds, at a break heard and at the station's own. -/
theorem breaksCarryMarks : Obligations.BreaksCarryMarks := by
  unfold Obligations.BreaksCarryMarks
  rintro _ rfl
  refine ⟨fun bits s n runs counts => ?_, fun gap s runs tx goes mark quiet => ?_, fun bits p s runs breaks => ?_⟩
  · subst counts
    refine ⟨fun long short drove => ?_, fun long short drove m counts => ?_, fun long short drove => ?_⟩
    · rw [exec_breakHeard runs long short, if_pos drove]
      rfl
    · subst counts
      rw [exec_breakHeard runs long short, if_neg (by simp [drove])]
      refine ⟨fun out => ?_, fun joined mode busy => ?_, fun leaving mode idle regular priority => ?_,
        fun starts mode idle => ?_⟩
      · exact congrArg _ (takeMark_unaligned (s := markHeard s) out)
      · exact congrArg _ (takeMark_inCycle (s := markHeard s) joined mode busy)
      · exact congrArg _ (takeMark_drained (s := markHeard s) leaving mode idle regular priority)
      · exact ⟨startedCycle s.tick (anyQueued s), congrArg _ (takeMark_starts_eq (s := markHeard s) starts mode idle), rfl,
          anyQueued_iff, rfl, rfl, rfl, rfl, rfl, rfl, rfl, rfl⟩
    · refine congrArg _ ((if_pos ⟨runs, by simp [isShortBreak, long, short], drove⟩).trans ?_)
      rw [endRun_eq]
      rfl
  · obtain ⟨frame, sent, regular, priority, cycle⟩ := takeMark_air (s := breakBegun s) rfl
    refine ⟨_, exec_breakStart runs tx goes mark quiet, ?_, congrArg raise sent, regular, priority,
      fun leaving mode idle noRegular noPriority => ?_, fun starts mode idle => ?_, cycle⟩
    · rw [frame]
      rfl
    · rw [takeMark_drained (s := breakBegun s) leaving mode idle noRegular noPriority]
      rfl
    · rw [takeMark_starts_eq (s := breakBegun s) starts mode idle]
      exact ⟨startedCycle s.tick (anyQueued s), rfl, rfl, rfl, rfl⟩
  · obtain ⟨t, ran, bus⟩ := bus_execReadCounts (p := p) (bits := bits) runs
    refine ⟨t, ran, bus.trans ?_⟩
    simp only [breaks, true_and]

/-! ## The stuck line (R149, R150) -/

/-- R146, R149: a transmission whose removal was not called for leaves its frame at the head of its queue. -/
theorem giveUp_kept {s : State} (kept : ∀ cs, s.bus.tx ≠ .answer cs true ∧ s.bus.tx ≠ .request cs true) :
    giveUp s = setTx .idle s := by
  unfold giveUp
  split
  · next tx => exact absurd tx (kept _).1
  · next tx => exact absurd tx (kept _).2
  · rfl

/-- R149: the stopped condition begins with no removal called for. -/
theorem stopBus_kept {s : State} (kept : ∀ cs, s.bus.tx ≠ .answer cs true ∧ s.bus.tx ≠ .request cs true) :
    stopBus s = { s with bus := { s.bus with
      tx := .idle, stopped := true, rx := none, run := 45, drove := false,
      counts := { s.bus.counts with framingErrors := framingRaised s } } } := by
  rw [stopBus, cutFrame_eq, giveUp_kept (by exact kept)]
  rfl

theorem exec_stuckLine {s : State} (runs : running s = true) : exec .stuckLine s =
    .next (absentAll ((mapBusCounts (fun c => { c with stuckEvents := raise c.stuckEvents }) (stopBus s)).mapPort fun p =>
      { p with busStuck := true })) := congrArg _ (if_pos runs)

/-- Settles O37: the stopped condition as it begins and as it ends. -/
theorem stuckLineStopsTransmission : Obligations.StuckLineStopsTransmission := by
  unfold Obligations.StuckLineStopsTransmission
  refine ⟨fun s runs kept => ⟨_, exec_stuckLine runs, ?_, fun k => ?_, ?_⟩,
    fun quiet s runs stopped long => congrArg _ (if_pos ⟨runs, stopped, long⟩)⟩
  · rw [stopBus_kept kept]
    rfl
  · rw [stopBus_kept kept]
    exact Vector.getElem_map ..
  · simp [attention, absentAll]

end Sys2Proof.Machine
end

section
/-! The frames of this station on the bus: their start by class and their characters (R137 to R139, R143, R144), and their
end, sent whole or given up (R145, R146, R151, R152, R160). -/

namespace Sys2Proof.Machine

/-! ## The characters of a frame (R137 to R139) -/

/-- R138: the mark bit is recessive in the first character alone. -/
theorem lineChars_getElem? (bytes : List Byte) (i : Nat) :
    (lineChars bytes)[i]? = bytes[i]?.map (busChar (decide (i = 0))) := by
  cases bytes with
  | nil => rfl
  | cons b rest =>
    cases i with
    | zero => rfl
    | succ i => simp [lineChars]

theorem lineChars_length (bytes : List Byte) : (lineChars bytes).length = bytes.length := by
  cases bytes <;> simp [lineChars]

/-- R137: the bits of a character on the line. -/
theorem busChar_bits {mark : Bool} {b : Byte} {c : BusChar} (char : busChar mark b = c) : c.getLsbD 0 = false
    ∧ c.extractLsb' 1 8 = b ∧ c.getLsbD 9 = mark ∧ c.getLsbD 10 = true := by
  subst char
  exact ⟨isNoise_busChar mark b, dataOf_busChar mark b, isAddress_busChar mark b,
    by simpa [framingError] using framingError_busChar mark b⟩

/-! ## The start (R143, R144) -/

section Start

variable {gap : Nat} {s : State}

/-- R143: the head of the answer queue starts at a gap of 3 character times. -/
theorem exec_transmissionStart_answer {f : Frame} (may : mayTransmit s = true) (noMark : s.bus.pendingMark = false)
    (head : s.bus.answers.head? = some f) : exec (.transmissionStart gap) s =
      .next (if 33 ≤ gap then setTx (.answer (frameChars f) false) s else s) := by
  obtain ⟨rest, queue⟩ := List.head?_eq_some_iff.mp head
  change execTransmissionStart gap s = _
  rw [execTransmissionStart, if_pos ⟨may, noMark⟩, queue]

/-- R143: with no answer queued, the head of the request queue starts at a gap of 5 character times. -/
theorem exec_transmissionStart_request {f : Frame} (may : mayTransmit s = true) (noMark : s.bus.pendingMark = false)
    (noAnswer : s.bus.answers = []) (head : s.bus.requests.head? = some f) : exec (.transmissionStart gap) s =
      .next (if 55 ≤ gap then setTx (.request (frameChars f) false) s else s) := by
  obtain ⟨rest, queue⟩ := List.head?_eq_some_iff.mp head
  change execTransmissionStart gap s = _
  rw [execTransmissionStart, if_pos ⟨may, noMark⟩, noAnswer, queue]

end Start

/-- Settles O38: the characters of the frame, the gap of its class, and the reception of a whole frame. -/
theorem transmissionStartsByClass : Obligations.TransmissionStartsByClass := by
  unfold Obligations.TransmissionStartsByClass
  refine ⟨?starts, ?heard⟩
  case starts =>
    rintro gap f body s runs tx goes noMark rfl
    have may := mayTransmit_of_idle runs tx goes
    refine ⟨frameChars f, ?_, fun i c char => ?_, fun head => ?_, fun noAnswer head => ?_⟩
    · simp [frameChars, lineChars_length, frameBytes, withCrc, be2]
    · rw [frameChars, lineChars_getElem?, Option.map_eq_some_iff] at char
      obtain ⟨b, byte, char⟩ := char
      obtain ⟨start, data, mark, stop⟩ := busChar_bits char
      exact ⟨start, by rw [data]; exact byte.symm, mark, stop⟩
    · rw [exec_transmissionStart_answer may noMark head]
      exact ⟨fun long => congrArg _ (if_pos long), fun short => congrArg _ (if_neg (by omega))⟩
    · rw [exec_transmissionStart_request may noMark noAnswer head]
      exact ⟨fun long => congrArg _ (if_pos long), fun short => congrArg _ (if_neg (by omega))⟩
  case heard =>
    intro f s runs goes idle mine fits low high other
    have whole : WholeFrame (frameBytes f) := wholeFrame_frameBytes fits
    have heard : listen (frameChars f) s = some (receptionAt none s, .complete (frameBytes f)) :=
      listen_lineChars (receives_iff.mpr ⟨runs, goes⟩) idle (forThis_iff.mpr mine) (by simp) whole
    exact ⟨⟨_, _, heard, (readFrame_frameBytes fits).symm⟩, low, high, other⟩

/-! ## The end (R145, R146, R151, R152, R160) -/

section Sent

variable {e : Outstanding} {f : Frame} {s : State}

/-- R152, R160: a refill changes entries that wait alone. -/
theorem table_refill (s : State) : ∃ g, OnlyQueues g ∧ (∀ x, x.phase ≠ .waiting → g x = x)
    ∧ (refill s).exchange.table = s.exchange.table.map g := by
  refine ⟨_, fun x => ?_, fun x notWaiting => if_neg ?_, rfl⟩
  · split
    · exact .inr rfl
    · exact .inl rfl
  · simp [notWaiting]

/-- R152: a refill moves waiting frames to the tail of the request queue; beside that it changes the outstanding table. -/
theorem refill_eq (s : State) : ∃ table, refill s = { s with
    bus := { s.bus with
      requests := s.bus.requests ++ s.bus.waiting.take (32 - s.bus.requests.length),
      waiting := s.bus.waiting.drop (32 - s.bus.requests.length) },
    exchange := { s.exchange with table := table } } := ⟨_, rfl⟩

/-- R145, R152: what a request sent whole leaves of the station, its outstanding table apart. -/
theorem refill_markSent_requestLeft {rest : List Frame} (queue : s.bus.requests = f :: rest) :
    ∃ table, refill (markSent f (requestLeft s)) = { s with
      bus := { s.bus with
        tx := .idle,
        requests := rest ++ s.bus.waiting.take (32 - rest.length),
        waiting := s.bus.waiting.drop (32 - rest.length),
        counts := { s.bus.counts with framesSent := min (s.bus.counts.framesSent + 1) 65535 } },
      exchange := { s.exchange with table := table } } := by
  obtain ⟨table, refilled⟩ := refill_eq (markSent f (requestLeft s))
  have left : (markSent f (requestLeft s)).bus.requests = rest := congrArg List.tail queue
  rw [left] at refilled
  exact ⟨table, refilled⟩

/-- R160: an entry whose frame is sent whole. -/
def sentEntry (s : State) (e : Outstanding) : Outstanding := { e with phase := .sent, due := sentDue s e }

/-- R160: the entry of a frame sent whole becomes SENT, and stays so as waiting frames join. -/
theorem findEntry_sent (mem : e ∈ s.exchange.table) (sound : TableSound s.exchange.table)
    (frame : frameOf e.key f = true) : findEntry (refill (markSent f s)) e.key = some (sentEntry s e) := by
  obtain ⟨g, queues, kept, table⟩ := table_refill (markSent f s)
  have table : (refill (markSent f s)).exchange.table = s.exchange.table.map fun x =>
      g (if frameOf x.key f = true then sentEntry s x else x) := table.trans (List.map_map ..)
  have keys : (refill (markSent f s)).exchange.table.map (·.key) = s.exchange.table.map (·.key) := by
    rw [table, List.map_map]
    refine List.map_congr_left fun x _ => (queues.keeps _).1.trans ?_
    split <;> rfl
  have here : sentEntry s e ∈ (refill (markSent f s)).exchange.table := by
    rw [table]
    exact List.mem_map.mpr ⟨e, mem, by rw [if_pos frame]; exact kept _ (by simp [sentEntry])⟩
  exact findEntry_of_mem (keys ▸ sound.2) here

/-- R160: a CANCEL and a WITHDRAW start their timers as they are sent. -/
theorem sentDue_eq (s : State) (e : Outstanding) : sentDue s e =
    if e.key.kind = .cancel then some (s.tick + BitVec.ofNat 32 (cfg s).replyTimeout)
    else if e.key.kind = .withdraw then some (s.tick + BitVec.ofNat 32 ((cfg s).replyTimeout + 17 * (cfg s).slotTime))
    else e.due := by
  unfold sentDue
  cases e.key.kind <;> rfl

theorem exec_frameSent_answer {cs : List BusChar} {rest : List Frame} (runs : running s = true)
    (tx : s.bus.tx = .answer cs false) (queue : s.bus.answers = f :: rest) : exec .frameSent s =
      .next (countSent (s.mapBus fun b => { b with tx := .idle, answers := rest })) := by
  change execFrameSent s = _
  rw [execFrameSent, if_neg (by simp [runs]), tx, queue]

theorem exec_frameSent_request {cs : List BusChar} {rest : List Frame} (runs : running s = true)
    (tx : s.bus.tx = .request cs false) (queue : s.bus.requests = f :: rest) (kind : f.kind ≠ .presence) :
    exec .frameSent s = .next (refill (markSent f (requestLeft s))) := by
  change execFrameSent s = _
  rw [execFrameSent, if_neg (by simp [runs]), tx, queue]
  exact congrArg (fun x => Host.Outcome.next (refill x)) (if_neg kind)

end Sent

/-- Settles O39: by the class of the frame sent whole, and at a lost arbitration. -/
theorem frameSentLeavesQueue : Obligations.FrameSentLeavesQueue := by
  unfold Obligations.FrameSentLeavesQueue
  refine ⟨fun cs f rest s runs tx queue => exec_frameSent_answer runs tx queue, ?request, ?lost⟩
  case request =>
    intro cs f rest e s runs tx queue room kind mem sound frame
    have found := findEntry_sent (s := requestLeft s) mem sound frame
    obtain ⟨table, left⟩ := refill_markSent_requestLeft queue
    rw [left, sentEntry, sentDue_eq] at found
    exact ⟨_, (exec_frameSent_request runs tx queue kind).trans (congrArg _ left), rfl, rfl, rfl, rfl, rfl, rfl, found⟩
  case lost =>
    rintro txFault s runs ⟨cs, sends⟩
    have sending : sendingFrame s = true := by rcases sends with tx | tx <;> simp only [sendingFrame, tx]
    have kept (chars : List BusChar) : s.bus.tx ≠ .answer chars true ∧ s.bus.tx ≠ .request chars true := by
      rcases sends with tx | tx <;> simp [tx]
    refine congrArg _ ((if_pos ⟨runs, sending⟩).trans ?_)
    rw [giveUp_kept kept]
    rfl

end Sys2Proof.Machine
end

section
/-! The keys of the outstanding table (R158, R159): what leaves them alone, what takes some away, and the two operations
that make a new one, each of them a key that no entry holds. -/

namespace Sys2Proof.Machine

/-! ## Tables with the same keys -/

/-- R158, R159: the outstanding table is within its size and no key stands in it twice. -/
def KeysDistinct (s : State) : Prop := TableSound s.exchange.table

/-- The keys of the outstanding table, in the order of its entries. -/
def tableKeys (s : State) : List EntryKey := s.exchange.table.map (·.key)

theorem keysDistinct_iff (s : State) : KeysDistinct s ↔ (tableKeys s).length ≤ 96 ∧ (tableKeys s).Nodup := by
  simp [KeysDistinct, tableKeys]

theorem keysDistinct_congr {s t : State} (keys : tableKeys t = tableKeys s) : KeysDistinct t ↔ KeysDistinct s := by
  rw [keysDistinct_iff, keysDistinct_iff, keys]

theorem keysDistinct_of_busUnits {s t : State} (units : busUnits t = busUnits s) : KeysDistinct t ↔ KeysDistinct s := by
  rw [KeysDistinct, KeysDistinct, (Prod.mk.inj units).2]

theorem KeysDistinct.of_sublist {s t : State} (h : KeysDistinct s) (keys : (tableKeys t).Sublist (tableKeys s)) :
    KeysDistinct t := by
  obtain ⟨few, distinct⟩ := (keysDistinct_iff s).mp h
  exact (keysDistinct_iff t).mpr ⟨keys.length_le.trans few, distinct.sublist keys⟩

/-- A fold of effects each of which keeps the keys distinct. -/
theorem keysDistinct_foldl {α : Type} {f : State → α → State} (step : ∀ s a, KeysDistinct s → KeysDistinct (f s a))
    (xs : List α) {s : State} (h : KeysDistinct s) : KeysDistinct (xs.foldl f s) := by
  induction xs generalizing s with
  | nil => exact h
  | cons a xs ih => exact ih (step s a h)

/-! ## What leaves the keys alone

The equivalences hold by definition; `keysDistinct_congr rfl` makes each a rewrite rule that `simp` also uses under the
condition of a lemma below. -/

section Kept

variable (s : State)

@[simp] theorem keysDistinct_withOffpeak (level : Bool) : KeysDistinct (withOffpeak level s) ↔ KeysDistinct s :=
  keysDistinct_congr rfl

@[simp] theorem keysDistinct_mapDelivery (k : Fin 256) (f : Delivery → Delivery) :
    KeysDistinct (mapDelivery k f s) ↔ KeysDistinct s := keysDistinct_congr rfl

@[simp] theorem keysDistinct_setZone (k : Fin 256) (z : Nat) (st : ZoneState) :
    KeysDistinct (setZone k z st s) ↔ KeysDistinct s := keysDistinct_congr rfl

@[simp] theorem keysDistinct_mapLine (k : Fin 8) (f : Line → Line) :
    KeysDistinct (mapLine k f s) ↔ KeysDistinct s := keysDistinct_congr rfl

@[simp] theorem keysDistinct_mapIntakeCounts (f : IntakeCounts → IntakeCounts) :
    KeysDistinct (mapIntakeCounts f s) ↔ KeysDistinct s := keysDistinct_congr rfl

@[simp] theorem keysDistinct_mapExchangeCounts (f : ExchangeCounts → ExchangeCounts) :
    KeysDistinct (mapExchangeCounts f s) ↔ KeysDistinct s := keysDistinct_congr rfl

@[simp] theorem keysDistinct_mapBusCounts (f : BusCounts → BusCounts) :
    KeysDistinct (mapBusCounts f s) ↔ KeysDistinct s := keysDistinct_congr rfl

@[simp] theorem keysDistinct_mapAirCounts (f : AirCounts → AirCounts) :
    KeysDistinct (mapAirCounts f s) ↔ KeysDistinct s := keysDistinct_congr rfl

@[simp] theorem keysDistinct_mapMatcherCounts (f : MatcherCounts → MatcherCounts) :
    KeysDistinct (mapMatcherCounts f s) ↔ KeysDistinct s := keysDistinct_congr rfl

@[simp] theorem keysDistinct_mapAir (f : Air → Air) : KeysDistinct (s.mapAir f) ↔ KeysDistinct s := keysDistinct_congr rfl

@[simp] theorem keysDistinct_mapPort (f : Port → Port) : KeysDistinct (s.mapPort f) ↔ KeysDistinct s :=
  keysDistinct_congr rfl

@[simp] theorem keysDistinct_dropHead : KeysDistinct (dropHead s) ↔ KeysDistinct s := keysDistinct_congr rfl

@[simp] theorem keysDistinct_setPresence (n : Nat) (p : Presence) :
    KeysDistinct (setPresence n p s) ↔ KeysDistinct s := by
  unfold setPresence
  split
  · exact keysDistinct_congr rfl
  · rfl

@[simp] theorem keysDistinct_absentAll : KeysDistinct (absentAll s) ↔ KeysDistinct s := keysDistinct_congr rfl

@[simp] theorem keysDistinct_answerTo (x : FrameKind) (dest : Nat) (seq : Byte) (payload : List Byte) :
    KeysDistinct (answerTo x dest seq payload s) ↔ KeysDistinct s := by
  rw [answerTo_bus]
  exact keysDistinct_congr rfl

@[simp] theorem keysDistinct_removeAnswers (drop : Frame → Bool) :
    KeysDistinct (removeAnswers drop s) ↔ KeysDistinct s := keysDistinct_congr rfl

/-- R152: a refill changes phases alone. -/
@[simp] theorem tableKeys_refill : tableKeys (refill s) = tableKeys s := by
  obtain ⟨g, queues, -, table⟩ := table_refill s
  rw [tableKeys, table, List.map_map]
  exact List.map_congr_left fun x _ => (queues.keeps x).1

@[simp] theorem tableKeys_removeRequests (drop : Frame → Bool) : tableKeys (removeRequests drop s) = tableKeys s :=
  tableKeys_refill _

@[simp] theorem tableKeys_joinRequests (f : Frame) : tableKeys (joinRequests f s) = tableKeys s := by
  rw [tableKeys, exchange_joinRequests, tableKeys]

@[simp] theorem keysDistinct_refill : KeysDistinct (refill s) ↔ KeysDistinct s := keysDistinct_congr (tableKeys_refill s)

@[simp] theorem keysDistinct_makePresence (p : PresenceBody) : KeysDistinct (makePresence p s) ↔ KeysDistinct s := by
  refine keysDistinct_congr ?_
  unfold makePresence
  dsimp only
  split
  · simp
  · split
    · rfl
    · simp

@[simp] theorem keysDistinct_admitAsk (ask : AirAsk) : KeysDistinct (admitAsk ask s) ↔ KeysDistinct s := by
  unfold admitAsk
  repeat' split
  all_goals exact keysDistinct_congr rfl

@[simp] theorem keysDistinct_withdrawAir (t : Tag) (w : PendingWithdraw) :
    KeysDistinct (withdrawAir t w s) ↔ KeysDistinct s := by
  unfold withdrawAir
  split <;> exact keysDistinct_congr rfl

@[simp] theorem keysDistinct_endDelivery (k : Fin 256) (o : Terminal) :
    KeysDistinct (endDelivery k o s) ↔ KeysDistinct s := keysDistinct_of_busUnits (busUnits_endDelivery k o s)

@[simp] theorem keysDistinct_enterRetry (k : Fin 256) : KeysDistinct (enterRetry k s) ↔ KeysDistinct s :=
  keysDistinct_of_busUnits (busUnits_enterRetry k s)

@[simp] theorem keysDistinct_settleIfResolved (k : Fin 256) : KeysDistinct (settleIfResolved k s) ↔ KeysDistinct s :=
  keysDistinct_of_busUnits (busUnits_settleIfResolved k s)

@[simp] theorem keysDistinct_afterResolved (k : Fin 256) : KeysDistinct (afterResolved k s) ↔ KeysDistinct s :=
  keysDistinct_of_busUnits (busUnits_afterResolved k s)

@[simp] theorem keysDistinct_resolveZone (k : Fin 256) (z : Nat) (st : ZoneState) :
    KeysDistinct (resolveZone k z st s) ↔ KeysDistinct s := by simp [resolveZone]

@[simp] theorem keysDistinct_loseZone (k : Fin 256) (z : Nat) : KeysDistinct (loseZone k z s) ↔ KeysDistinct s :=
  keysDistinct_of_busUnits (busUnits_loseZone k z s)

@[simp] theorem keysDistinct_decideEntry (n : Nat) (c : MessageClass) (body : List Byte) (o : Option Origin) :
    KeysDistinct (decideEntry n c body o s) ↔ KeysDistinct s := keysDistinct_of_busUnits (busUnits_decideEntry n c body o s)

@[simp] theorem keysDistinct_startAckWait (k : Fin 256) : KeysDistinct (startAckWait k s) ↔ KeysDistinct s := by
  unfold startAckWait
  repeat' split
  all_goals exact keysDistinct_congr rfl

@[simp] theorem keysDistinct_takeMark : KeysDistinct (takeMark s) ↔ KeysDistinct s := by
  rcases takeMark_cases s with same | ignored | clear | ⟨-, starts⟩
  · rw [same]
  · rw [ignored, keysDistinct_mapAirCounts]
  · rw [clear]
    exact keysDistinct_congr rfl
  · rw [starts]
    exact keysDistinct_congr rfl

@[simp] theorem keysDistinct_endRun : KeysDistinct (endRun s) ↔ KeysDistinct s := by
  rw [endRun_eq]
  exact keysDistinct_congr rfl

@[simp] theorem keysDistinct_giveUp : KeysDistinct (giveUp s) ↔ KeysDistinct s := by
  unfold giveUp
  split
  · exact keysDistinct_congr rfl
  · rw [keysDistinct_refill]
    exact keysDistinct_congr rfl
  · exact keysDistinct_congr rfl

@[simp] theorem keysDistinct_stopBus : KeysDistinct (stopBus s) ↔ KeysDistinct s := by
  have given : KeysDistinct (stopBus s) ↔ KeysDistinct (giveUp (cutFrame s)) := keysDistinct_congr rfl
  rw [given, keysDistinct_giveUp, cutFrame_eq]
  exact keysDistinct_congr rfl

/-- R140: the characters heard are no matter of the Exchange Unit. -/
theorem exchange_listen {heard : List BusChar} {s t : State} {e : RxEvent} (h : listen heard s = some (t, e)) :
    t.exchange = s.exchange := by
  have first (c : BusChar) (s : State) : (hearChar c s).1.exchange = s.exchange := by
    rw [hearChar_state]
    split <;> rfl
  induction heard generalizing s with
  | nil => rw [← (Prod.mk.inj (Option.some.inj h)).1]
  | cons c rest ih =>
    unfold listen at h
    split at h
    · rw [← first c s, Option.some.inj h]
    · obtain ⟨-, h⟩ := Option.ite_none_right_eq_some.mp h
      rw [ih h, first]

omit s in
theorem keysDistinct_listen {heard : List BusChar} {s t : State} {e : RxEvent} (h : listen heard s = some (t, e)) :
    KeysDistinct t ↔ KeysDistinct s := keysDistinct_congr (by rw [tableKeys, exchange_listen h, tableKeys])

@[simp] theorem keysDistinct_atReading (seen : LineSeen) : KeysDistinct (atReading seen s) ↔ KeysDistinct s := by
  have measured (t : State) : KeysDistinct (measureRun seen.run t) ↔ KeysDistinct t := by
    unfold measureRun
    split
    · exact keysDistinct_congr rfl
    · rfl
  rw [atReading, measured, listenOn]
  split
  · next t heard => exact keysDistinct_listen heard
  · rfl

end Kept

/-! ## Entries freed, converted and claimed -/

section Changed

variable {s : State} (h : KeysDistinct s)
include h

/-- R162: an entry freed takes its key with it. -/
@[simp] theorem keysDistinct_freeEntry {key : EntryKey} : KeysDistinct (freeEntry key s) := by
  refine h.of_sublist ?_
  rw [freeEntry, tableKeys_removeRequests]
  exact List.filter_sublist.map _

/-- R158, R160: an entry converted takes a key that no entry holds. -/
@[simp] theorem keysDistinct_convertEntry {key : EntryKey} {kind : EntryKind} {payload : List Byte} :
    KeysDistinct (convertEntry key kind payload s) := by
  cases found : findEntry s key with
  | none => simpa only [convertEntry, found] using h
  | some e =>
    obtain ⟨mem, rfl⟩ := findEntry_some found
    obtain ⟨few, distinct⟩ := h
    exact ⟨(length_convertEntry ..).trans_le few, nodup_convertEntry distinct (by omega) mem kind payload⟩

/-- R158, R159: an entry claimed, for which there is room, takes a key that no entry holds. -/
theorem keysDistinct_claimEntry {peer : Nat} {kind : EntryKind} {owner : Owner} {payload : List Byte}
    (room : s.exchange.table.length < 96) : KeysDistinct (claimEntry peer kind owner payload s) := by
  have free := nextSequence_free (s := s) (by omega) peer kind
  refine ⟨?_, ?_⟩
  · simp only [claimEntry, takeSequence, State.mapExchange_exchange, State.mapBus_exchange, List.length_append,
      List.length_singleton]
    omega
  · simp only [claimEntry, takeSequence, State.mapExchange_exchange, State.mapBus_exchange, List.map_append, List.map_cons,
      List.map_nil]
    refine h.2.append (List.nodup_singleton _) (List.disjoint_singleton.mpr fun held => ?_)
    obtain ⟨x, mem, same⟩ := List.mem_map.mp held
    exact free x mem same

/-- R50: requests to remote zones, for which the table has room. -/
theorem keysDistinct_requestZones {k : Fin 256} {ask : AirAsk} {zones : List Nat}
    (room : zones.length ≤ 96 - s.exchange.table.length) : KeysDistinct (zones.foldl (requestZone k ask) s) := by
  induction zones generalizing s with
  | nil => exact h
  | cons z zones ih =>
    rw [List.length_cons] at room
    refine ih (keysDistinct_claimEntry h (by omega)) ?_
    simp only [requestZone, claimEntry, takeSequence, State.mapExchange_exchange, State.mapBus_exchange,
      List.length_append, List.length_singleton]
    omega

end Changed

end Sys2Proof.Machine
end

section
/-! The operations of the blocks, each of which keeps the keys of the outstanding table distinct (R158, R159). -/

namespace Sys2Proof.Machine

section Changed

variable {s : State} (h : KeysDistinct s)
include h

/-! ## The Page Store -/

/-- R60: a zone withdrawn; that of a peer has its entry converted. -/
@[simp] theorem keysDistinct_withdrawZone {k : Fin 256} {g : Tag} {z : Nat} : KeysDistinct (withdrawZone k g z s) := by
  unfold withdrawZone withdrawOwn withdrawRemote
  repeat' split
  all_goals simp [h]

@[simp] theorem keysDistinct_closeAttempt {k : Fin 256} {o : AttemptOutcome} : KeysDistinct (closeAttempt k o s) := by
  unfold closeAttempt
  split
  · exact h
  · rw [keysDistinct_settleIfResolved]
    exact keysDistinct_foldl (fun _ _ g => keysDistinct_withdrawZone g) _ h

@[simp] theorem keysDistinct_freeZoneEntry {k : Fin 256} {z : Nat} : KeysDistinct (freeZoneEntry k z s) := by
  unfold freeZoneEntry
  split <;> simp [h]

@[simp] theorem keysDistinct_takeAired {z : Nat} {g : Tag} : KeysDistinct (takeAired z s g) := by
  unfold takeAired
  split <;> simp [h]

/-- R48, R50: the requests of an issue have room in the table. -/
theorem keysDistinct_issueHead {k : Fin 256} {d : Delivery} (can : canIssue s d = true) :
    KeysDistinct (issueHead k d s) := by
  have room : (remoteSent s (issueZones s d)).length ≤ 96 - s.exchange.table.length := by
    simp only [canIssue, outstandingFree, Config.outstandingSize, Bool.and_eq_true] at can
    exact of_decide_eq_true can.1.2
  unfold issueHead
  dsimp only
  split
  · rw [keysDistinct_afterResolved]
    refine keysDistinct_foldl (fun t (e : ZoneEntry) g => by simpa [requestOwn]) _ (keysDistinct_requestZones ?_ room)
    exact h
  · rw [keysDistinct_enterRetry]
    exact h

@[simp] theorem keysDistinct_issueHeads {fuel : Nat} : KeysDistinct (issueHeads fuel s) := by
  induction fuel generalizing s with
  | zero => exact h
  | succ fuel ih =>
    unfold issueHeads
    split
    · exact h
    · next issues => exact ih (keysDistinct_issueHead h (issuable_some issues).2.2)

@[simp] theorem keysDistinct_expireLifetime {k : Fin 256} {d : Delivery} : KeysDistinct (expireLifetime k d s) := by
  unfold expireLifetime
  split <;> simp [h]

/-! ## The end of a cycle -/

@[simp] theorem keysDistinct_ownWithdrawn {g : Tag} : KeysDistinct (ownWithdrawn g s) := by
  unfold ownWithdrawn
  repeat' split
  all_goals simp [h]

theorem keysDistinct_reportHome {tags : List Tag} {home : Byte} : KeysDistinct (reportHome tags s home) := by
  unfold reportHome
  dsimp only
  split
  · exact keysDistinct_foldl (fun _ _ g => keysDistinct_takeAired g) _ h
  · exact keysDistinct_foldl (fun _ _ g => by simpa) _ h

theorem keysDistinct_answerOwed {e : AirEntry} : KeysDistinct (answerOwed s e) := by
  unfold answerOwed
  repeat' split
  all_goals simp [h]

@[simp] theorem keysDistinct_endCycle {y : Cycle} : KeysDistinct (endCycle y s) := by
  have reported : KeysDistinct (makeReports y s) := keysDistinct_foldl (fun _ _ g => keysDistinct_reportHome g) _ h
  rw [endCycle, keysDistinct_mapAir]
  exact keysDistinct_foldl (fun _ _ => keysDistinct_foldl (fun _ _ g => keysDistinct_answerOwed g) _) _ reported

@[simp] theorem keysDistinct_startNextFree : KeysDistinct (startNextFree s) := by
  unfold startNextFree
  split <;> exact h

/-! ## The Acknowledgement Matcher -/

@[simp] theorem keysDistinct_matchReport {g : Tag} : KeysDistinct (matchReport g s) := by
  unfold matchReport acknowledge
  dsimp only
  split <;> simp [h, mapAttempt]

@[simp] theorem keysDistinct_routeHead {r : Report} : KeysDistinct (routeHead r s) := by
  unfold routeHead
  split_ifs <;> simp [h]

@[simp] theorem keysDistinct_takeHeard {r : Report} : KeysDistinct (takeHeard r s) := by
  unfold takeHeard
  dsimp only
  split_ifs <;> simp [h]

/-! ## The Intake Unit -/

@[simp] theorem keysDistinct_produceVerdict {k : Fin 8} {v : Verdict} : KeysDistinct (produceVerdict k v s) := h

/-- R31, R33: an entry routed to a peer claims an entry of the table, which has room. -/
@[simp] theorem keysDistinct_routeEntry {k : Fin 8} {ask : ForwardAsk} : KeysDistinct (routeEntry k ask s) := by
  unfold routeEntry
  split
  · exact h
  · split
    · exact h
    · exact keysDistinct_produceVerdict ((keysDistinct_decideEntry ..).mpr h)
    · split_ifs with leaving absent full
      · exact h
      · exact h
      · exact h
      · rw [not_or] at full
        rw [forwardEntry, keysDistinct_mapLine]
        refine keysDistinct_claimEntry h ?_
        simp only [outstandingFree, Config.outstandingSize] at full
        omega

theorem keysDistinct_assemble {k : Fin 8} {c : RxChar} : KeysDistinct (assemble k s c) := by
  unfold assemble checkEntry
  repeat' split
  all_goals simp [h]

@[simp] theorem keysDistinct_feedAssembler {k : Fin 8} : KeysDistinct (feedAssembler k s) := by
  unfold feedAssembler
  split
  · exact keysDistinct_foldl (fun _ _ g => keysDistinct_assemble g) _ h
  · exact keysDistinct_foldl (fun _ _ g => keysDistinct_assemble g) _ h
  · exact h

@[simp] theorem keysDistinct_leaveLookup {k : Fin 8} {v : Verdict} : KeysDistinct (leaveLookup k v s) := by
  unfold leaveLookup drainFifo
  split
  · exact keysDistinct_foldl (fun _ _ g => keysDistinct_assemble g) _ h
  · exact h

@[simp] theorem keysDistinct_forwardTimedOut {e : Outstanding} : KeysDistinct (forwardTimedOut e s) := by
  unfold forwardTimedOut cancelForward
  dsimp only
  repeat' split
  all_goals simp [h]

@[simp] theorem keysDistinct_recogniseRelease {k : Fin 8} : KeysDistinct (recogniseRelease k s) := by
  unfold recogniseRelease cancelForward
  dsimp only
  split <;> simp [h]

/-! ## Reply timers and fresh joins -/

@[simp] theorem keysDistinct_completeEntry {e : Outstanding} : KeysDistinct (completeEntry e s) := by
  unfold completeEntry
  repeat' split
  all_goals simp [h]

theorem keysDistinct_completeKey {key : EntryKey} : KeysDistinct (completeKey s key) := by
  unfold completeKey
  split <;> simp [h]

@[simp] theorem keysDistinct_completeKeys {keys : List EntryKey} : KeysDistinct (completeKeys keys s) := by
  have completed : KeysDistinct (keys.foldl completeKey s) :=
    keysDistinct_foldl (fun _ _ g => keysDistinct_completeKey g) keys h
  unfold completeKeys
  dsimp only
  split
  · exact completed
  · exact keysDistinct_issueHeads completed

@[simp] theorem keysDistinct_freshJoin {station : Nat} : KeysDistinct (freshJoin station s) := by
  have completed : ∀ keys, KeysDistinct (completeKeys keys (removeAnswers
      (fun f => f.kind == .heard && f.dest.toNat == station) (purgeReports station (purgeAir station s)))) :=
    fun _ => keysDistinct_completeKeys (by exact h)
  unfold freshJoin
  dsimp only
  split <;> simp [ordinaryPresence, completed]

/-! ## The frames taken -/

/-- R140, R142, R163: a frame taken keeps the keys distinct when what is done with it does. -/
theorem keysDistinct_takeFrame {kind : Byte → Bool} {heard : List BusChar} {act : Received → State → State}
    (step : ∀ f t, KeysDistinct t → KeysDistinct (act f t)) : KeysDistinct (takeFrame kind heard act s) := by
  unfold takeFrame
  split
  · next t bytes heardAll =>
    dsimp only
    split
    · exact step _ _ (by simpa [refreshPeer, countTaken] using (keysDistinct_listen heardAll).mpr h)
    · exact h
  · exact h

theorem keysDistinct_checked {α : Type} {f : Received} {content : Option α} {act : α → State → State}
    (step : ∀ x, KeysDistinct (act x s)) : KeysDistinct (checked f content act s) := by
  unfold checked
  repeat' split
  all_goals simp [countMisaddressed, countBadPayload, step, h]

/-- R156, R157: a request or report, checked and acted on by a member of the office. -/
theorem keysDistinct_takeRequest {α : Type} {kind : Byte → Bool} {heard : List BusChar} {content : Received → Option α}
    {act : Received → α → State → State} (step : ∀ f x t, KeysDistinct t → KeysDistinct (act f x t)) :
    KeysDistinct (takeFrame kind heard (fun f => checked f (content f) fun x => membersOnly (act f x)) s) :=
  keysDistinct_takeFrame h fun f t g => keysDistinct_checked g fun x => by
    unfold membersOnly
    split
    · exact step f x t g
    · exact g

/-- R156, R161: a reply, checked and handed to the owner of its entry. -/
theorem keysDistinct_takeReply {α : Type} {kind : Byte → Bool} {heard : List BusChar} {content : Received → Option α}
    {entry : EntryKind} {act : α → Outstanding → State → State}
    (step : ∀ x e t, KeysDistinct t → KeysDistinct (act x e t)) :
    KeysDistinct (takeFrame kind heard (fun f => checked f (content f) fun x => matched f entry (act x)) s) :=
  keysDistinct_takeFrame h fun f t g => keysDistinct_checked g fun x => by
    unfold matched
    split
    · split
      · exact step x _ t g
      · exact g
    · exact g

theorem keysDistinct_takeCancel {f : Received} {seq : Byte} : KeysDistinct (takeCancel f seq s) := by
  unfold takeCancel cancelOrigin
  dsimp only
  rw [keysDistinct_answerTo]
  split <;> simp [h]

theorem keysDistinct_takeWithdraw {f : Received} {g : Tag} : KeysDistinct (takeWithdraw f g s) := by
  unfold takeWithdraw
  dsimp only
  split <;> simp [h]

theorem keysDistinct_takeTaken {code : Byte} {e : Outstanding} : KeysDistinct (takeTaken code e s) := by
  unfold takeTaken
  dsimp only
  repeat' split
  all_goals simp [h]

/-- R52: an entry held keeps its key. -/
theorem keysDistinct_takeAirAnswer {code : AirCode} {e : Outstanding} : KeysDistinct (takeAirAnswer code e s) := by
  have held {key : EntryKey} {t : State} (g : KeysDistinct t) :
      KeysDistinct (mapEntry key (fun x => { x with phase := .held, due := none }) t) := by
    refine (keysDistinct_congr ?_).mpr g
    rw [tableKeys, mapEntry, State.mapExchange_exchange, List.map_map]
    refine List.map_congr_left fun x _ => ?_
    rw [Function.comp_apply]
    split <;> rfl
  unfold takeAirAnswer
  repeat' split
  all_goals simp [h, held]

theorem keysDistinct_takeWithdrawn {e : Outstanding} : KeysDistinct (takeWithdrawn e s) := by
  unfold takeWithdrawn
  repeat' split
  all_goals simp [h]

theorem keysDistinct_takePresence {src : Nat} {p : PresenceBody} : KeysDistinct (takePresence src p s) := by
  unfold takePresence
  dsimp only
  split_ifs <;> simp [h]

/-! ## A frame sent whole -/

theorem keysDistinct_presenceWhole {f : Frame} {removed : Bool} : KeysDistinct (presenceWhole f removed s) := by
  have configured {t : State} (g : KeysDistinct t) : KeysDistinct (enterConfigured t) := by
    have ended : KeysDistinct (endAnyCycle t) := by
      unfold endAnyCycle
      split <;> simp [g]
    exact ended
  unfold presenceWhole
  dsimp only
  split
  · split_ifs
    · exact h
    · exact h
    · exact configured h
    · exact h
  · exact h

/-- R160: an entry whose frame is sent keeps its key. -/
theorem keysDistinct_markSent {f : Frame} : KeysDistinct (markSent f s) := by
  refine (keysDistinct_congr ?_).mpr h
  rw [tableKeys, markSent, State.mapExchange_exchange, List.map_map]
  refine List.map_congr_left fun x _ => ?_
  rw [Function.comp_apply]
  split <;> rfl

theorem keysDistinct_requestSent {f : Frame} {removed : Bool} : KeysDistinct (requestSent f removed s) := by
  unfold requestSent
  dsimp only
  rw [keysDistinct_refill]
  split_ifs
  · exact keysDistinct_presenceWhole (by exact h)
  · exact h
  · exact keysDistinct_markSent (by exact h)

/-! ## The host's commands and the resets -/

theorem keysDistinct_frameEnds {act : State → State} (step : KeysDistinct (act s)) : KeysDistinct (frameEnds act s) := by
  unfold frameEnds
  split_ifs
  · exact h
  · exact h
  · exact step

/-- R173: a host's command keeps the keys distinct as the effect of its ruling does. -/
theorem keysDistinct_supervise {code : Byte} {accepted : Bool} {count : Nat} {params : List Byte} {rule : State → Ruling}
    (step : ∀ data after, rule s = .done data after → KeysDistinct after) :
    KeysDistinct (supervise code accepted count params rule s) := by
  obtain ⟨u, f, eq, rfl | ⟨-, data, ruling⟩⟩ := supervise_cases code accepted count params rule s
  · simpa [eq]
  · simpa [eq] using step data u ruling

theorem keysDistinct_startLeaving : KeysDistinct (startLeaving s) := by
  have left : KeysDistinct (ordinaryPresence
      ((s.mapLife fun l => { l with state := .leaving }).mapExchange fun x => { x with leaveMade := false })) := by
    rw [ordinaryPresence, keysDistinct_makePresence]
    exact h
  unfold startLeaving
  dsimp only
  split
  · rw [announceLeaving, keysDistinct_makePresence]
    exact left
  · exact left

omit h in
/-- R187: a warm reset empties the table. -/
theorem keysDistinct_of_empty (empty : s.exchange.table = []) : KeysDistinct s :=
  ⟨by simp [empty], by simp [empty]⟩

theorem keysDistinct_sampleReset {high : Bool} : KeysDistinct (sampleReset s high) := by
  have reset {t : State} (g : KeysDistinct t) : KeysDistinct (pinReset t) := by
    unfold pinReset
    split
    · exact keysDistinct_of_empty rfl
    · exact g
  unfold sampleReset
  dsimp only
  split_ifs
  · exact h
  · exact reset h
  · exact h

end Changed

end Sys2Proof.Machine
end

section
/-! Every step keeps the keys of the outstanding table distinct (R158, R159). -/

namespace Sys2Proof.Machine

/-- A command answers with a state whose outstanding table has distinct keys. -/
def EndsDistinct (o : Host.Outcome State Fault Refusal) : Prop := ∀ t, o = .next t → KeysDistinct t

theorem endsDistinct_next {t : State} (h : KeysDistinct t) : EndsDistinct (.next t) :=
  fun _ eq => Host.Outcome.next.inj eq ▸ h

/-- A command that acts on a condition, and otherwise leaves the state as it is. -/
theorem endsDistinct_ite {c : Prop} [Decidable c] {s t : State} (h : KeysDistinct s) (acted : KeysDistinct t) :
    EndsDistinct (.next (if c then t else s)) := by
  refine endsDistinct_next ?_
  split
  · exact acted
  · exact h

section Commands

variable {s : State} (h : KeysDistinct s)
include h

/-! ## The supervisory port -/

theorem endsDistinct_execTransferFaultFrame {bits : List Bool} : EndsDistinct (execTransferFaultFrame bits s) := by
  refine endsDistinct_next ?_
  split
  · exact keysDistinct_frameEnds h h
  · exact h

theorem endsDistinct_execUnknownCommand {code : Byte} {p : List Byte} : EndsDistinct (execUnknownCommand code p s) := by
  refine endsDistinct_next ?_
  split
  · exact h
  · exact keysDistinct_frameEnds h h

theorem endsDistinct_execLoadConfig {p : List Byte} : EndsDistinct (execLoadConfig p s) := by
  refine endsDistinct_next <| keysDistinct_supervise h fun _ _ ruling => ?_
  split at ruling
  · obtain ⟨-, rfl⟩ := Ruling.done.inj ruling
    exact h
  · cases ruling

theorem endsDistinct_execLoadPlan {p : List Byte} : EndsDistinct (execLoadPlan p s) := by
  refine endsDistinct_next <| keysDistinct_supervise h fun _ _ ruling => ?_
  split at ruling
  · obtain ⟨-, rfl⟩ := Ruling.done.inj ruling
    exact h
  · cases ruling

theorem endsDistinct_execLoadRange {p : List Byte} : EndsDistinct (execLoadRange p s) := by
  refine endsDistinct_next <| keysDistinct_supervise h fun _ _ ruling => ?_
  unfold ruleRange at ruling
  split at ruling
  · obtain ⟨-, rfl⟩ := Ruling.done.inj ruling
    exact h
  · cases ruling

theorem endsDistinct_execLoadSubscriber {p : List Byte} : EndsDistinct (execLoadSubscriber p s) := by
  refine endsDistinct_next <| keysDistinct_supervise h fun _ _ ruling => ?_
  unfold ruleSubscriber at ruling
  split at ruling
  · cases ruling
  · split at ruling
    · obtain ⟨-, rfl⟩ := Ruling.done.inj ruling
      exact h
    · split_ifs at ruling
      obtain ⟨-, rfl⟩ := Ruling.done.inj ruling
      exact h

theorem endsDistinct_execSetState {p : List Byte} : EndsDistinct (execSetState p s) := by
  refine endsDistinct_next <| keysDistinct_supervise h fun _ _ ruling => ?_
  unfold ruleState at ruling
  dsimp only at ruling
  split at ruling
  · split_ifs at ruling
    obtain ⟨-, rfl⟩ := Ruling.done.inj ruling
    exact h
  · cases ruling

theorem endsDistinct_execTakeRecords {p : List Byte} : EndsDistinct (execTakeRecords p s) := by
  refine endsDistinct_next <| keysDistinct_supervise h fun _ _ ruling => ?_
  unfold ruleTake at ruling
  dsimp only at ruling
  split_ifs at ruling
  obtain ⟨-, rfl⟩ := Ruling.done.inj ruling
  exact h

theorem endsDistinct_execClosePeriod {p : List Byte} : EndsDistinct (execClosePeriod p s) := by
  refine endsDistinct_next <| keysDistinct_supervise h fun _ _ ruling => ?_
  unfold ruleClose at ruling
  split at ruling
  · cases ruling
  · obtain ⟨-, rfl⟩ := Ruling.done.inj ruling
    exact h

theorem endsDistinct_execClearFaults {p : List Byte} : EndsDistinct (execClearFaults p s) := by
  refine endsDistinct_next <| keysDistinct_supervise h fun _ _ ruling => ?_
  unfold ruleClear at ruling
  dsimp only at ruling
  split_ifs at ruling
  obtain ⟨-, rfl⟩ := Ruling.done.inj ruling
  exact h

theorem endsDistinct_execReadCounts {p : List Byte} {seen : LineSeen} : EndsDistinct (execReadCounts p seen s) :=
  endsDistinct_next <| keysDistinct_supervise (by simpa) fun _ _ ruling => by
    rw [eq_of_ruleCounts ruling]
    simpa

/-! ## The intake lines -/

theorem endsDistinct_execSeizeSample {k : Fin 8} {high : Bool} : EndsDistinct (execSeizeSample k high s) := by
  refine endsDistinct_next ?_
  split_ifs
  · exact h
  · exact h
  · exact keysDistinct_recogniseRelease h
  · exact h
  · exact h

/-! ## The frames that are not taken, and the bus line -/

theorem endsDistinct_execPresence {offpeak : Bool} {heard : List BusChar} : EndsDistinct (execPresence offpeak heard s) := by
  refine endsDistinct_next <| keysDistinct_takeFrame (by simpa) fun f t g => ?_
  split
  · exact keysDistinct_takePresence g
  · exact g

theorem endsDistinct_execFrameDroppedBySource {src : Byte} {heard : List BusChar} :
    EndsDistinct (execFrameDroppedBySource src heard s) := by
  refine endsDistinct_next ?_
  split
  · next t bytes heardAll =>
    split
    · have taken := (keysDistinct_listen heardAll).mpr h
      unfold dropFrame
      split <;> exact taken
    · exact h
  · exact h

theorem endsDistinct_execFrameDiscard {heard : List BusChar} : EndsDistinct (execFrameDiscard heard s) := by
  refine endsDistinct_next ?_
  split
  · next t causes heardAll =>
    split
    · exact h
    · exact (keysDistinct_listen heardAll).mpr h
  · exact h

theorem endsDistinct_execBreakHeard {bits : Nat} : EndsDistinct (execBreakHeard bits s) := by
  refine endsDistinct_ite h ?_
  split
  · exact (keysDistinct_congr rfl).mpr ((keysDistinct_endRun s).mpr h)
  · simpa

theorem endsDistinct_execTransmissionStart {gap : Nat} : EndsDistinct (execTransmissionStart gap s) := by
  refine endsDistinct_ite h ?_
  split
  · split <;> exact h
  · split <;> exact h
  · exact h

theorem endsDistinct_execFrameSent : EndsDistinct (execFrameSent s) := by
  refine endsDistinct_next ?_
  split
  · exact h
  · split
    · exact h
    · exact keysDistinct_requestSent h
    · exact h

/-! ## The Page Store and the timers -/

theorem endsDistinct_execIssue {offpeak : Bool} : EndsDistinct (execIssue offpeak s) := by
  refine endsDistinct_next ?_
  split
  · exact h
  · next issues => exact keysDistinct_issueHead ((keysDistinct_withOffpeak ..).mpr h) (issuable_some issues).2.2

theorem endsDistinct_execLifetimeExpiry {offpeak : Bool} {k : Fin 256} : EndsDistinct (execLifetimeExpiry offpeak k s) := by
  refine endsDistinct_next ?_
  split
  · exact h
  · split
    · exact keysDistinct_expireLifetime (by simpa)
    · exact h

theorem endsDistinct_execAckWaitExpiry {offpeak : Bool} {k : Fin 256} : EndsDistinct (execAckWaitExpiry offpeak k s) := by
  refine endsDistinct_next ?_
  split
  · exact h
  · split
    · exact keysDistinct_closeAttempt (by simpa)
    · exact h

theorem endsDistinct_execReplyTimeout {offpeak : Bool} {key : EntryKey} :
    EndsDistinct (execReplyTimeout offpeak key s) := by
  refine endsDistinct_next ?_
  split
  · exact h
  · split
    · exact keysDistinct_completeEntry (by simpa)
    · exact h

/-! ## The Air Scheduler -/

theorem endsDistinct_execCycleTimerExpiry : EndsDistinct (execCycleTimerExpiry s) := by
  refine endsDistinct_ite h ?_
  unfold cycleTimerEffect
  split_ifs <;> exact h

theorem endsDistinct_execSlotStart {ready : Bool} : EndsDistinct (execSlotStart ready s) := by
  refine endsDistinct_next ?_
  split <;> exact h

theorem endsDistinct_execCellHanded : EndsDistinct (execCellHanded s) := by
  refine endsDistinct_next ?_
  repeat' split
  all_goals exact h

theorem endsDistinct_execCycleEnd {offpeak : Bool} : EndsDistinct (execCycleEnd offpeak s) := by
  refine endsDistinct_next ?_
  split
  · exact h
  · split
    · exact keysDistinct_startNextFree (keysDistinct_endCycle (by simpa))
    · exact h

/-! ## The reverse port -/

theorem endsDistinct_execReportCharacterReceived {char : Byte} {framing : Bool} :
    EndsDistinct (execReportCharacterReceived char framing s) := by
  refine endsDistinct_next ?_
  dsimp only
  repeat' split
  all_goals exact h

theorem endsDistinct_execReverseReport {char : Byte} {framing : Bool} : EndsDistinct (execReverseReport char framing s) := by
  refine endsDistinct_next ?_
  repeat' split
  all_goals exact h

theorem endsDistinct_execShortReport : EndsDistinct (execShortReport s) := by
  refine endsDistinct_next ?_
  repeat' split
  all_goals exact h

theorem endsDistinct_execExtraReportCharacter : EndsDistinct (execExtraReportCharacter s) := by
  refine endsDistinct_next ?_
  repeat' split
  all_goals exact h

theorem endsDistinct_execMatcherTakeHead {offpeak : Bool} : EndsDistinct (execMatcherTakeHead offpeak s) := by
  refine endsDistinct_next ?_
  split
  · exact h
  · split
    · exact keysDistinct_routeHead (by simpa)
    · exact h

/-! ## The Exchange Unit and the period close -/

theorem endsDistinct_execPresenceInterval : EndsDistinct (execPresenceInterval s) := by
  refine endsDistinct_ite h ?_
  dsimp only
  split
  · exact h
  · rw [ordinaryPresence, keysDistinct_makePresence]
    exact h

theorem endsDistinct_execPeriodCloseStep {offpeak : Bool} : EndsDistinct (execPeriodCloseStep offpeak s) := by
  refine endsDistinct_next ?_
  split
  · exact h
  · split
    · exact (keysDistinct_of_busUnits (busUnits_produceFor ..)).mpr h
    · exact h

end Commands

/-- Every command keeps the keys of the outstanding table distinct. -/
theorem exec_endsDistinct {s : State} (h : KeysDistinct s) (c : Instr) : EndsDistinct (exec c s) := by
  cases c with
  | powerOn => exact endsDistinct_next (keysDistinct_of_empty rfl)
  | resetNFall => exact endsDistinct_next (keysDistinct_foldl (fun _ _ g => keysDistinct_sampleReset g) _ h)
  | resetNRise => exact endsDistinct_next (keysDistinct_foldl (fun _ _ g => keysDistinct_sampleReset g) _ h)
  | frameStart => exact endsDistinct_next (by split <;> exact h)
  | transferFaultFrame => exact endsDistinct_execTransferFaultFrame h
  | unknownCommand code p => exact endsDistinct_execUnknownCommand (p := p) h
  | poll => exact endsDistinct_next <| keysDistinct_supervise h fun _ _ ruling => (Ruling.done.inj ruling).2 ▸ h
  | loadConfig => exact endsDistinct_execLoadConfig h
  | loadPlan => exact endsDistinct_execLoadPlan h
  | loadRange => exact endsDistinct_execLoadRange h
  | loadSubscriber => exact endsDistinct_execLoadSubscriber h
  | join => exact endsDistinct_next <| keysDistinct_supervise h fun _ _ ruling => (Ruling.done.inj ruling).2 ▸ h
  | leave =>
    exact endsDistinct_next <| keysDistinct_supervise h fun _ _ ruling =>
      (Ruling.done.inj ruling).2 ▸ keysDistinct_startLeaving h
  | restart =>
    exact endsDistinct_next <| keysDistinct_supervise h fun _ _ ruling =>
      (Ruling.done.inj ruling).2 ▸ keysDistinct_of_empty rfl
  | setState => exact endsDistinct_execSetState h
  | readSubscriber => exact endsDistinct_next <| keysDistinct_supervise h fun _ _ ruling => by rwa [eq_of_ruleRead ruling]
  | takeRecords => exact endsDistinct_execTakeRecords h
  | closePeriod => exact endsDistinct_execClosePeriod h
  | readCounts => exact endsDistinct_execReadCounts h
  | clearFaults => exact endsDistinct_execClearFaults h
  | seizeRecognised => exact endsDistinct_ite h h
  | releaseRecognised => exact endsDistinct_ite h (keysDistinct_recogniseRelease h)
  | seizeSample => exact endsDistinct_execSeizeSample h
  | calibrationFirstEdge => exact endsDistinct_ite h h
  | rateChosen => exact endsDistinct_ite h h
  | measurementOverflow => exact endsDistinct_ite h h
  | calibrationTimeout => exact endsDistinct_ite h h
  | characterReceived => exact endsDistinct_ite h (keysDistinct_feedAssembler (by simpa))
  | entryTimeout => exact endsDistinct_ite h h
  | verdictTransmission => exact endsDistinct_ite h h
  | forward =>
    exact endsDistinct_next <| keysDistinct_takeRequest (by simpa) fun _ _ _ g => by simpa [takeForward]
  | cancel => exact endsDistinct_next <| keysDistinct_takeRequest (by simpa) fun _ _ _ g => keysDistinct_takeCancel g
  | airRequest => exact endsDistinct_next <| keysDistinct_takeRequest h fun _ _ _ g => by simpa [takeAirRequest]
  | withdraw => exact endsDistinct_next <| keysDistinct_takeRequest h fun _ _ _ g => keysDistinct_takeWithdraw g
  | aired =>
    exact endsDistinct_next <| keysDistinct_takeRequest
      (act := fun f (tags : List Tag) x => tags.foldl (takeAired f.src.toNat) x) (by simpa)
      fun _ _ _ g => keysDistinct_foldl (fun _ _ g => keysDistinct_takeAired g) _ g
  | heard =>
    exact endsDistinct_next <| keysDistinct_takeRequest (act := fun _ => takeHeard) (by simpa)
      fun _ _ _ g => keysDistinct_takeHeard g
  | taken => exact endsDistinct_next <| keysDistinct_takeReply h fun _ _ _ g => keysDistinct_takeTaken g
  | cancelAnswer => exact endsDistinct_next <| keysDistinct_takeReply h fun _ _ _ g => by simp [g]
  | airAnswer =>
    exact endsDistinct_next <| keysDistinct_takeReply (by simpa) fun _ _ _ g => keysDistinct_takeAirAnswer g
  | withdrawn =>
    exact endsDistinct_next <| keysDistinct_takeReply (act := fun _ => takeWithdrawn) (by simpa)
      fun _ _ _ g => keysDistinct_takeWithdrawn g
  | presence => exact endsDistinct_execPresence h
  | badKindFrame => exact endsDistinct_next <| keysDistinct_takeFrame h fun _ _ g => g
  | frameDroppedBySource => exact endsDistinct_execFrameDroppedBySource h
  | frameDiscard => exact endsDistinct_execFrameDiscard h
  | breakHeard => exact endsDistinct_execBreakHeard h
  | shortBreak => exact endsDistinct_ite h (by simpa)
  | stuckLine => exact endsDistinct_ite h (by simpa)
  | stoppedConditionEnd => exact endsDistinct_ite h h
  | breakStart => exact endsDistinct_ite h (by rw [keysDistinct_mapAirCounts, keysDistinct_takeMark]; exact h)
  | transmissionStart => exact endsDistinct_execTransmissionStart h
  | frameSent => exact endsDistinct_execFrameSent h
  | lostArbitration => exact endsDistinct_ite h (by simpa)
  | issue => exact endsDistinct_execIssue h
  | lifetimeExpiry => exact endsDistinct_execLifetimeExpiry h
  | ackWaitExpiry => exact endsDistinct_execAckWaitExpiry h
  | replyTimeout => exact endsDistinct_execReplyTimeout h
  | retryRelease => exact endsDistinct_ite h (keysDistinct_foldl (f := releaseRetry) (fun _ _ g => g) _ h)
  | freeCycleStart => exact endsDistinct_next (keysDistinct_startNextFree h)
  | cycleTimerExpiry => exact endsDistinct_execCycleTimerExpiry h
  | slotStart => exact endsDistinct_execSlotStart h
  | cellHanded => exact endsDistinct_execCellHanded h
  | cycleEnd => exact endsDistinct_execCycleEnd h
  | reportCharacterReceived => exact endsDistinct_execReportCharacterReceived h
  | reverseReport => exact endsDistinct_execReverseReport h
  | shortReport => exact endsDistinct_execShortReport h
  | extraReportCharacter => exact endsDistinct_execExtraReportCharacter h
  | matcherTakeHead => exact endsDistinct_execMatcherTakeHead h
  | presenceTimeout => exact endsDistinct_ite h (by simpa)
  | presenceInterval => exact endsDistinct_execPresenceInterval h
  | listenTimer => exact endsDistinct_ite h (by rw [keysDistinct_makePresence]; exact h)
  | drain => exact endsDistinct_ite h (by rw [announceLeaving, keysDistinct_makePresence]; exact h)
  | periodCloseStep => exact endsDistinct_execPeriodCloseStep h

/-- Settles O57: a tick keeps the table or, at a warm reset, empties it; a command frees, converts and claims entries, and
the sequence of a new key is one that no entry of its peer and kind holds. -/
theorem stepKeepsTableKeysDistinct : Obligations.StepKeepsTableKeysDistinct := by
  unfold Obligations.StepKeepsTableKeysDistinct
  intro s t (sound : KeysDistinct s) stepped
  cases waiting : s.pending with
  | nil =>
    rw [step_of_nil waiting] at stepped
    obtain rfl := Host.Outcome.next.inj stepped
    exact keysDistinct_sampleReset (s := countTick s) sound
  | cons c rest =>
    rw [step_of_cons waiting] at stepped
    exact exec_endsDistinct (s := s.setPending rest) sound c t stepped

end Sys2Proof.Machine
end

section
/-! An ordinary PRESENCE heard by a station that is no member (R163): the counterexample to the statement on PRESENCE frames
as it is written, whose last clause asks for a PRESENCE of this station after every PRESENCE heard. -/

namespace Sys2Proof.Machine

/-- Station 7 in CONFIGURED with nothing queued. -/
def configuredSeven : State :=
  { State.reset with life := { State.reset.life with
      state := .configured, config := some { StationConfig.blank with station := 7 } } }

/-- R165: an ordinary PRESENCE of station 12, state ON-BUS, with no flag set. -/
def ordinaryFromTwelve : Frame := { kind := .presence, dest := 0, src := 12, seq := 0, payload := [1, 0] }

/-- The parts of that frame as a receiver finds them. -/
def ordinaryParts : Received :=
  { dest := 0, src := 12, kind := kindCode .presence, seq := 0, payload := [1, 0] }

theorem hears_ordinaryFromTwelve : hears (frameChars ordinaryFromTwelve) ordinaryParts configuredSeven :=
  transmissionStartsByClass.2 ordinaryFromTwelve configuredSeven rfl rfl rfl (.inl rfl) (by decide) (by decide) (by decide)
    (by decide)

/-- Refutes O35: the clause on this station's own PRESENCE stands outside the clause on the fresh flag and asks for no
member. Station 7, in CONFIGURED with no frame queued, hears an ordinary PRESENCE of station 12. By the clause on a PRESENCE
without the fresh flag its request queue stays empty, so that no PRESENCE of its own stands at the end. -/
theorem not_presenceIsTaken : ¬ Obligations.PresenceIsTaken := by
  unfold Obligations.PresenceIsTaken
  intro holds
  obtain ⟨t, -, -, -, -, notFresh, -, announces⟩ := holds false (frameChars ordinaryFromTwelve) ordinaryParts 1 0
    configuredSeven hears_ordinaryFromTwelve rfl rfl (.inl rfl) (by decide)
  have bus : t.bus.requests ++ t.bus.waiting = [] := by rw [notFresh (by decide)]; rfl
  have announced := announces rfl (by simp [configuredSeven, State.reset, Bus.fresh])
  rw [bus] at announced
  cases announced

end Sys2Proof.Machine
end

section
/-! A PRESENCE of this station made (R152, R153, R165): the frames it joins, those it replaces, and what it leaves alone; with
it the flags of a PRESENCE and the drain condition (R168). -/

namespace Sys2Proof.Machine

/-! ## The request frames -/

/-- R152: the request frames, those queued before those that wait for room. -/
def requestFrames (s : State) : List Frame := s.bus.requests ++ s.bus.waiting

/-- The frame is a PRESENCE. -/
def isPresence (f : Frame) : Bool := f.kind == .presence

/-- R153: the request in transmission, which no removal takes. -/
def requestSending (s : State) : List Frame :=
  match s.bus.tx with
  | .request _ _ => s.bus.requests.take 1
  | _ => []

/-- No request is in transmission. -/
def NoRequestSent (s : State) : Prop := ∀ cs removed, s.bus.tx ≠ .request cs removed

section Frames

variable {s : State}

theorem requestSending_of_none (quiet : NoRequestSent s) : requestSending s = [] := by
  unfold requestSending
  split
  · next tx => exact absurd tx (quiet _ _)
  · rfl

/-- R153: the frames kept are those behind the one in transmission, and that one unless it is marked for removal. -/
theorem requestFrames_split (s : State) : ∃ queued, s.bus.requests = requestSending s ++ queued
    ∧ keptRequests s = (if removing s.bus.tx then [] else requestSending s) ++ (queued ++ s.bus.waiting) := by
  rw [keptRequests_eq, keptIn, requestSending]
  cases s.bus.tx with
  | request cs removed => exact ⟨s.bus.requests.tail, by cases s.bus.requests <;> cases removed <;> simp⟩
  | _ => exact ⟨s.bus.requests, by simp⟩

theorem mem_requestFrames_of_kept {f : Frame} (kept : f ∈ keptRequests s) : f ∈ requestFrames s := by
  obtain ⟨queued, requests, keeps⟩ := requestFrames_split s
  rw [keeps] at kept
  rw [requestFrames, requests, List.append_assoc]
  refine List.mem_append.mpr ((List.mem_append.mp kept).imp_left fun sends => ?_)
  split at sends
  · cases sends
  · exact sends

theorem keptRequests_of_none (quiet : NoRequestSent s) : keptRequests s = requestFrames s := by
  obtain ⟨queued, requests, keeps⟩ := requestFrames_split s
  rw [keeps, requestFrames, requests, requestSending_of_none quiet]
  simp

theorem ownPresence_eq_none_iff : ownPresence s = none ↔ (keptRequests s).filter isPresence = [] :=
  List.find?_eq_none.trans List.filter_eq_nil_iff.symm

end Frames

/-! ## A PRESENCE made -/

/-- R152, R153, R165: every PRESENCE queued or waiting has left but for one in transmission, which is marked for removal, and
`made` stands among the request frames; of the rest of the station phases of the outstanding table alone have changed. -/
structure Announces (made : List Frame) (s t : State) : Prop where
  rest : t = { s with bus := t.bus, exchange := { s.exchange with table := t.exchange.table } }
  keys : tableKeys t = tableKeys s
  answers : t.bus.answers = s.bus.answers
  presences : (requestFrames t).filter isPresence = (requestSending s).filter isPresence ++ made
  others : (requestFrames t).filter (fun f => !isPresence f) = (requestFrames s).filter fun f => !isPresence f
  quiet : NoRequestSent s → t.bus.tx = s.bus.tx
  marked : ∀ cs removed x, s.bus.tx = .request cs removed → x ∈ requestSending s → isPresence x = true →
    t.bus.tx = .request cs true

section Announced

variable {s t : State} {b : PresenceBody}

/-- R165: with no PRESENCE kept there is none to replace. -/
theorem announces_none (none : (keptRequests s).filter isPresence = []) :
    Announces [] s s ∧ s.bus.waiting.filter isPresence = [] := by
  obtain ⟨queued, requests, keeps⟩ := requestFrames_split s
  simp only [keeps, List.filter_append, List.append_eq_nil_iff] at none
  obtain ⟨sends, queue, waits⟩ := none
  refine ⟨⟨rfl, rfl, rfl, ?_, rfl, fun _ => rfl, fun cs removed x tx sent presence => ?_⟩, waits⟩
  · simp [requestFrames, requests, queue, waits]
  · cases removed with
    | true => exact tx
    | false =>
      rw [tx, removing_request, if_neg Bool.false_ne_true] at sends
      exact absurd presence (List.filter_eq_nil_iff.mp sends x sent)

/-- R153, R165: the PRESENCE frames of this station are removed. -/
theorem announces_removed (s : State) : Announces [] s (removeRequests isPresence s)
    ∧ (removeRequests isPresence s).bus.waiting.filter isPresence = [] := by
  have frames : requestFrames (removeRequests isPresence s) =
      (dropRequests isPresence s.bus).requests ++ (dropRequests isPresence s.bus).waiting := refill_frames _
  refine ⟨⟨rfl, tableKeys_removeRequests s _, answers_removeRequests _ s, ?_, ?_, fun quiet => ?_,
    fun cs removed x tx sent presence => ?_⟩, ?_⟩
  · rw [frames, dropRequests, requestSending]
    cases s.bus.tx with
    | request cs removed => cases s.bus.requests <;> simp [List.filter_filter, List.filter_cons]
    | _ => simp [List.filter_filter]
  · rw [frames, dropRequests, requestFrames]
    cases s.bus.tx with
    | request cs removed => cases s.bus.requests <;> simp [List.filter_filter, List.filter_cons]
    | _ => simp [List.filter_filter]
  · change (dropRequests isPresence s.bus).tx = s.bus.tx
    unfold dropRequests
    split
    · next tx _ => exact absurd tx (quiet _ _)
    · rfl
  · change (dropRequests isPresence s.bus).tx = .request cs true
    simp only [requestSending, tx] at sent
    cases queue : s.bus.requests with
    | nil => simp [queue] at sent
    | cons head rest =>
      obtain rfl : x = head := by simpa [queue] using sent
      simp [dropRequests, tx, queue, presence]
  · refine List.filter_eq_nil_iff.mpr fun f waits => ?_
    have left : f ∈ (dropRequests isPresence s.bus).waiting := List.mem_of_mem_drop waits
    unfold dropRequests at left
    split at left <;> simpa using (List.mem_filter.mp left).2

/-- R152: the PRESENCE made joins the request queue, or waits. -/
theorem Announces.join {f : Frame} (h : Announces [] s t) (waits : t.bus.waiting.filter isPresence = [])
    (kind : isPresence f = true) : Announces [f] s (joinRequests f t) := by
  have rest : joinRequests f t = { t with bus := (joinRequests f t).bus } := by
    rw [joinRequests_eq]
    split <;> rfl
  have tx : (joinRequests f t).bus.tx = t.bus.tx := by
    rw [joinRequests_eq]
    split <;> rfl
  have presences := h.presences
  simp only [requestFrames, List.filter_append, waits, List.append_nil] at presences
  refine ⟨?_, (tableKeys_joinRequests t f).trans h.keys, (answers_joinRequests f t).trans h.answers, ?_,
    .trans ?_ h.others, fun quiet => tx.trans (h.quiet quiet), fun cs removed x sends mem presence =>
      tx.trans (h.marked cs removed x sends mem presence)⟩
  · rw [rest, h.rest]
  · rw [joinRequests_eq]
    split <;> simp [requestFrames, presences, waits, kind]
  · rw [joinRequests_eq]
    split <;> simp [requestFrames, kind]

/-- R165: a PRESENCE made that is not like those kept, and not withheld for a leaving one. -/
theorem announces_makePresence (differs : ∀ old ∈ keptRequests s, old.kind = .presence →
      ¬ ((b.leaving = false ∧ carriesLeaving old = true) ∨ old.payload = presencePayload b)) :
    Announces [frameFrom s .presence 0 0 (presencePayload b)] s (makePresence b s) := by
  unfold makePresence
  dsimp only
  split
  · next none =>
    obtain ⟨same, waits⟩ := announces_none (ownPresence_eq_none_iff.mp none)
    exact same.join waits rfl
  · next old own =>
    have kind : old.kind = .presence := by simpa using List.find?_some own
    split
    · next like => exact absurd like (differs old (List.mem_of_find?_eq_some own) kind)
    · obtain ⟨removed, waits⟩ := announces_removed s
      exact removed.join waits rfl

/-- R165: with no PRESENCE queued or waiting, the one made joins as it is. -/
theorem makePresence_of_none (none : ∀ f ∈ requestFrames s, f.kind ≠ .presence) (b : PresenceBody) :
    makePresence b s = joinRequests (frameFrom s .presence 0 0 (presencePayload b)) s := by
  have own : ownPresence s = Option.none :=
    List.find?_eq_none.mpr fun f kept => by simpa using none f (mem_requestFrames_of_kept kept)
  simp only [makePresence, own]

end Announced

/-! ## The drain condition -/

theorem drained_iff (s : State) : drained s = true ↔ (∀ k : Fin 256, (s.store.slots[k.val]).held = none)
    ∧ s.air.regular = [] ∧ s.air.priority = [] ∧ s.exchange.table = [] := by
  simp only [drained, airEmpty, Bool.and_eq_true, List.isEmpty_iff, List.all_eq_true, Vector.mem_toList_iff,
    Option.isNone_iff_eq_none, and_assoc]
  refine and_congr_left fun _ => ⟨fun free k => free _ (Vector.getElem_mem _), fun free x mem => ?_⟩
  obtain ⟨i, below, rfl⟩ := Vector.getElem_of_mem mem
  exact free ⟨i, below⟩

end Sys2Proof.Machine
end

section
/-! JOIN and LEAVE (R167, R168), and the timers of presence, of the listen and of the drain (R164, R165, R167, R168). -/

namespace Sys2Proof.Machine

/-! ## The PRESENCE frames of this station (R165) -/

/-- R165: an ordinary one. -/
theorem presencePayload_ordinary : ∀ leavingState airing : Bool,
    presencePayload { leavingState := leavingState, airing := airing, fresh := false, leaving := false } =
      [if leavingState then 2 else 1, if airing then 1 else 0] := by decide

/-- R167: the fresh one. -/
theorem presencePayload_fresh : ∀ airing : Bool,
    presencePayload { leavingState := false, airing := airing, fresh := true, leaving := false } =
      [1, if airing then 3 else 2] := by decide

/-- R168: the leaving one. -/
theorem presencePayload_leaving : ∀ airing : Bool,
    presencePayload { leavingState := true, airing := airing, fresh := false, leaving := true } =
      [2, if airing then 5 else 4] := by decide

section Made

variable {s t u : State}

/-- R168: the mark that the leaving PRESENCE has been made. -/
def leaveMark (made : Bool) (s : State) : State := s.mapExchange fun x => { x with leaveMade := made }

/-- R168: the leaving PRESENCE takes the place of ordinary ones. -/
theorem announces_announceLeaving
    (old : ∀ f ∈ requestFrames s, f.kind = .presence → f.payload = [2, 0] ∨ f.payload = [2, 1]) :
    Announces [frameFrom s .presence 0 0 [2, if (cfg s).airing then 5 else 4]] (leaveMark true s) (announceLeaving s) := by
  have made := announces_makePresence (s := leaveMark true s)
    (b := { leavingState := true, airing := (cfg s).airing, fresh := false, leaving := true }) fun f kept kind => by
      have payload := old f (mem_requestFrames_of_kept (s := leaveMark true s) kept) kind
      rw [presencePayload_leaving]
      cases (cfg s).airing <;> rcases payload with payload | payload <;> simp [payload]
  rwa [presencePayload_leaving] at made

/-! ## JOIN and LEAVE -/

theorem exec_join (acts : portActs s) (state : s.life.state = .configured) :
    exec (.join []) s = .next (answered (.code 0x05) .done [] (startJoining s)) := by
  refine congrArg _ ((supervise_eq _ _ _ _ _ _ acts).trans ?_)
  rw [state]
  rfl

theorem exec_leave (acts : portActs s) (state : s.life.state = .onBus) :
    exec (.leave []) s = .next (answered (.code 0x06) .done [] (startLeaving s)) := by
  refine congrArg _ ((supervise_eq _ _ _ _ _ _ acts).trans ?_)
  rw [state]
  rfl

/-- R168: LEAVING is entered. -/
def leavingEntered (s : State) : State := leaveMark false (s.mapLife fun l => { l with state := .leaving })

/-- R165, R168: the ordinary PRESENCE of LEAVING takes the place of those with state ON-BUS. -/
theorem announces_leavingEntered
    (old : ∀ f ∈ requestFrames s, f.kind = .presence → f.payload = [1, 0] ∨ f.payload = [1, 1]) :
    Announces [frameFrom s .presence 0 0 [2, if (cfg s).airing then 1 else 0]] (leavingEntered s)
      (ordinaryPresence (leavingEntered s)) := by
  have made := announces_makePresence (s := leavingEntered s)
    (b := { leavingState := true, airing := (cfg s).airing, fresh := false, leaving := false }) fun f kept kind => by
      have payload := old f (mem_requestFrames_of_kept (s := leavingEntered s) kept) kind
      rcases payload with payload | payload <;> simp [payload, presencePayload_ordinary, carriesLeaving, readPresence]
  rwa [presencePayload_ordinary] at made

/-- R165: with no request in transmission, the PRESENCE frames are those made. -/
theorem Announces.presences_of_none {made : List Frame} (h : Announces made s t) (quiet : NoRequestSent s) :
    (requestFrames t).filter isPresence = made := by
  rw [h.presences, requestSending_of_none quiet, List.filter_nil, List.nil_append]

/-- R152, R165: one PRESENCE after another leaves the later one alone, with no request in transmission. -/
theorem Announces.trans {f g : Frame} (h : Announces [f] s t) (again : Announces [g] t u) (quiet : NoRequestSent s) :
    Announces [g] s u := by
  have calm : NoRequestSent t := fun cs removed tx => quiet cs removed ((h.quiet quiet).symm.trans tx)
  refine ⟨?_, again.keys.trans h.keys, again.answers.trans h.answers, ?_, again.others.trans h.others,
    fun _ => (again.quiet calm).trans (h.quiet quiet), fun cs removed _ tx => absurd tx (quiet cs removed)⟩
  · rw [again.rest, h.rest]
  · rw [again.presences_of_none calm, requestSending_of_none quiet, List.filter_nil, List.nil_append]

theorem Announces.leaveMark {made : List Frame} (h : Announces made s t) (m : Bool) :
    Announces made (leaveMark m s) (leaveMark m t) := by
  refine ⟨?_, h.keys, h.answers, h.presences, h.others, h.quiet, h.marked⟩
  rw [h.rest]
  rfl

/-- R165: making a PRESENCE leaves the station's life as it was. -/
theorem Announces.life {made : List Frame} (h : Announces made s t) : t.life = s.life := by rw [h.rest]

/-- R168: making a PRESENCE leaves the drain condition as it was. -/
theorem Announces.drained {made : List Frame} (h : Announces made s t) : drained t = drained s := by
  have table : t.exchange.table = [] ↔ s.exchange.table = [] := by
    have keys := h.keys
    simp only [tableKeys] at keys
    rw [← List.map_eq_nil_iff (f := (·.key)), keys, List.map_eq_nil_iff]
  rw [Bool.eq_iff_iff, drained_iff, drained_iff, table, h.rest]

/-- R165: with no request in transmission, the PRESENCE made is the only one. -/
theorem Announces.only {f x : Frame} (h : Announces [f] s t) (quiet : NoRequestSent s) (mem : x ∈ requestFrames t)
    (kind : x.kind = .presence) : x = f := by
  have among : x ∈ (requestFrames t).filter isPresence := List.mem_filter.mpr ⟨mem, by simp [isPresence, kind]⟩
  simpa [h.presences_of_none quiet] using among

/-- R168: at a LEAVE the ordinary PRESENCE is made, and in a drained station the leaving one in its place. -/
theorem startLeaving_announces (quiet : NoRequestSent s)
    (old : ∀ f ∈ requestFrames s, f.kind = .presence → f.payload = [1, 0] ∨ f.payload = [1, 1]) :
    Announces [frameFrom s .presence 0 0 [2, (if (cfg s).airing then 1 else 0) + if drained s then 4 else 0]]
      (leaveMark (drained s) (leavingEntered s)) (startLeaving s) := by
  have ordinary := announces_leavingEntered old
  have same : drained (ordinaryPresence (leavingEntered s)) = drained s := ordinary.drained
  change Announces _ _ (if drained (ordinaryPresence (leavingEntered s)) then
    announceLeaving (ordinaryPresence (leavingEntered s)) else ordinaryPresence (leavingEntered s))
  rw [same]
  cases drained s with
  | false =>
    have marked : Announces _ (leaveMark false (leavingEntered s)) _ := ordinary
    simpa using marked
  | true =>
    have life : (ordinaryPresence (leavingEntered s)).life = (leavingEntered s).life := ordinary.life
    have config : cfg (ordinaryPresence (leavingEntered s)) = cfg s := by rw [cfg, life]; rfl
    have leaving := announces_announceLeaving (s := ordinaryPresence (leavingEntered s)) fun f mem kind => by
      rw [ordinary.only quiet mem kind, frameFrom]
      cases (cfg s).airing <;> simp
    have flags : (if (cfg s).airing then 5 else 4 : Byte) = (if (cfg s).airing then 1 else 0) + 4 := by
      cases (cfg s).airing <;> rfl
    simp only [frameFrom, ownNumber, config, flags] at leaving
    exact (ordinary.leaveMark true).trans leaving quiet

end Made

/-- Settles O53: JOIN by the station it enters; LEAVE by the PRESENCE it leaves, the ordinary one or, in a drained station,
the leaving one that takes its place. -/
theorem joinAndLeaveAnnounce : Obligations.JoinAndLeaveAnnounce := by
  unfold Obligations.JoinAndLeaveAnnounce
  refine ⟨fun s acts state => exec_join acts state, fun s fl acts state idle old flags => ?_⟩
  have quiet : NoRequestSent s := fun cs removed => by simp [idle]
  have announces := startLeaving_announces quiet old
  have payload : fl = (if (cfg s).airing then 1 else 0) + if drained s then 4 else 0 := by
    simp only [flags, drained_iff]
  rw [← payload] at announces
  exact ⟨startLeaving s, _, exec_leave acts state, by rw [announces.rest]; rfl, announces.answers,
    by rw [announces.rest]; rfl, announces.presences_of_none quiet, rfl, announces.others⟩

/-! ## The timers and the drain (R164, R165, R167, R168) -/

section Timers

variable {s : State} {due : Tick}

theorem exec_presenceTimeout {peer : Nat} (present : (presenceAt s peer).present = true)
    (timer : (presenceAt s peer).absenceDue = some due) (late : 0 ≤ (s.tick - due).toInt) :
    exec (.presenceTimeout peer) s = .next (mapExchangeCounts (fun c => { c with peersTimedOut := raise c.peersTimedOut })
      (setPresence peer (absented (presenceAt s peer)) s)) :=
  congrArg _ (if_pos ⟨present, timerReached_of_toInt timer late⟩)

theorem exec_presenceInterval (joined : member s = true) (timer : s.exchange.intervalDue = some due)
    (late : 0 ≤ (s.tick - due).toInt) : exec .presenceInterval s =
      .next (if (ownPresence s).isSome then s.mapExchange fun x => { x with intervalDue := none }
        else ordinaryPresence (s.mapExchange fun x => { x with intervalDue := none })) :=
  congrArg _ (if_pos ⟨joined, timerReached_of_toInt timer late⟩)

theorem exec_listenTimer (state : s.life.state = .joining) (timer : s.exchange.listenDue = some due)
    (late : 0 ≤ (s.tick - due).toInt) : exec .listenTimer s =
      .next (makePresence { leavingState := false, airing := (cfg s).airing, fresh := true, leaving := false }
        (s.mapExchange fun x => { x with listenDue := none })) :=
  congrArg _ (if_pos ⟨state, timerReached_of_toInt timer late⟩)

theorem exec_drain (state : s.life.state = .leaving) (first : s.exchange.leaveMade = false) (empty : drained s = true) :
    exec .drain s = .next (announceLeaving s) := congrArg _ (if_pos ⟨state, first, empty⟩)

/-- R164: a peer's entry set and a count raised change the presence entries and that count. -/
theorem setPresence_counted {peer : Nat} (bounds : 1 ≤ peer ∧ peer ≤ 24) (p : Presence)
    (count : ExchangeCounts → ExchangeCounts) (s : State) : mapExchangeCounts count (setPresence peer p s) = { s with exchange := { s.exchange with
      presence := (setPresence peer p s).exchange.presence, counts := count s.exchange.counts } } := by
  simp only [setPresence, dif_pos bounds]
  rfl

/-- R165: while a PRESENCE is kept, the interval makes no second one. -/
theorem exec_presenceInterval_of_kept {old : Frame} (kept : old ∈ keptRequests s) (kind : old.kind = .presence)
    (joined : member s = true) (timer : s.exchange.intervalDue = some due) (late : 0 ≤ (s.tick - due).toInt) :
    exec .presenceInterval s = .next (s.mapExchange fun x => { x with intervalDue := none }) := by
  have own : (ownPresence s).isSome = true := by
    rw [Option.isSome_iff_ne_none, ne_eq, ownPresence_eq_none_iff, List.filter_eq_nil_iff]
    exact fun none => none old kept (by simp [isPresence, kind])
  rw [exec_presenceInterval joined timer late, if_pos own]

section NoneQueued

variable (none : ∀ f ∈ requestFrames s, f.kind ≠ .presence)
include none

/-- R165: the interval makes the ordinary PRESENCE. -/
theorem exec_presenceInterval_of_none (joined : member s = true) (timer : s.exchange.intervalDue = some due)
    (late : 0 ≤ (s.tick - due).toInt) : exec .presenceInterval s = .next (joinRequests
      (frameFrom s .presence 0 0 [if s.life.state = .leaving then 2 else 1, if (cfg s).airing then 1 else 0])
      (s.mapExchange fun x => { x with intervalDue := Option.none })) := by
  have own : ¬ (ownPresence s).isSome = true := by
    rw [Option.not_isSome_iff_eq_none, ownPresence, List.find?_eq_none]
    exact fun f kept => by simpa using none f (mem_requestFrames_of_kept kept)
  rw [exec_presenceInterval joined timer late, if_neg own, ordinaryPresence,
    makePresence_of_none (s := s.mapExchange _) none, presencePayload_ordinary]
  have state : ((if s.life.state == .leaving then 2 else 1) : Byte) = if s.life.state = .leaving then 2 else 1 := by
    cases s.life.state <;> rfl
  rw [← state]
  rfl

/-- R167: the listen timer makes the fresh PRESENCE. -/
theorem exec_listenTimer_of_none (state : s.life.state = .joining) (timer : s.exchange.listenDue = some due)
    (late : 0 ≤ (s.tick - due).toInt) : exec .listenTimer s = .next (joinRequests
      (frameFrom s .presence 0 0 [1, if (cfg s).airing then 3 else 2])
      (s.mapExchange fun x => { x with listenDue := Option.none })) := by
  rw [exec_listenTimer state timer late, makePresence_of_none (s := s.mapExchange _) none, presencePayload_fresh]
  rfl

/-- R168: the drain makes the leaving PRESENCE. -/
theorem exec_drain_of_none (state : s.life.state = .leaving) (first : s.exchange.leaveMade = false)
    (empty : drained s = true) : exec .drain s = .next (joinRequests
      (frameFrom s .presence 0 0 [2, if (cfg s).airing then 5 else 4]) (leaveMark true s)) := by
  rw [exec_drain state first empty]
  refine congrArg _ ((makePresence_of_none (s := leaveMark true s) none _).trans ?_)
  rw [presencePayload_leaving]
  rfl

end NoneQueued

end Timers

/-- Settles O52: with no PRESENCE queued each timer makes its own, which joins the request queue or waits; with one kept the
interval makes none, and the leaving one takes the place of the ordinary ones (`announces_announceLeaving`). -/
theorem presenceTimersAct : Obligations.PresenceTimersAct := by
  unfold Obligations.PresenceTimersAct
  refine ⟨fun peer due s low high present timer late => ?_, fun s made none h => ?_, fun s old kept kind => ?_⟩
  · exact ⟨_, exec_presenceTimeout present timer late, setPresence_counted ⟨low, high⟩ _ _ s,
      presenceAt_setPresence ⟨low, high⟩ _ s, fun n other => presenceAt_setPresence_ne other _ s⟩
  · have joined (st fl : Byte) (f : Exchange → Exchange) :
        joinRequests (frameFrom s .presence 0 0 [st, fl]) (s.mapExchange f) = made st fl (f s.exchange) := by
      have same : (s.mapExchange f).bus = s.bus := rfl
      rw [joinRequests_eq, same, h]
      by_cases room : s.bus.requests.length + s.bus.waiting.length < 32
      · simp only [if_pos room]
        rfl
      · simp only [if_neg room]
        rfl
    refine ⟨fun due joins timer late => ?_, fun due state timer late => ?_,
      fun state first slots regular priority table => ?_⟩
    · rw [exec_presenceInterval_of_none none joins timer late, joined]
    · rw [exec_listenTimer_of_none none state timer late, joined]
    · rw [exec_drain_of_none none state first ((drained_iff s).mpr ⟨slots, regular, priority, table⟩), leaveMark, joined]
  · refine ⟨fun due joins timer late => exec_presenceInterval_of_kept kept kind joins timer late,
      fun state first slots regular priority table payloads => ?_⟩
    have leaving := announces_announceLeaving payloads
    have same : (announceLeaving s).exchange.table = s.exchange.table := by
      have keys := leaving.keys
      rw [tableKeys, tableKeys] at keys
      change _ = s.exchange.table.map _ at keys
      rw [table, List.map_nil, List.map_eq_nil_iff] at keys
      rw [table, keys]
    refine ⟨announceLeaving s, _, exec_drain state first ((drained_iff s).mpr ⟨slots, regular, priority, table⟩), ?_,
      leaving.answers, ?_, rfl, leaving.others⟩
    · rw [leaving.rest, same]
      rfl
    · rintro sending rfl
      exact ⟨leaving.presences, fun cs removed x tx sent presence =>
        leaving.marked cs removed x tx sent (by simp [isPresence, presence])⟩

end Sys2Proof.Machine
end

section
/-! A PRESENCE sent whole (R165, R167, R168): with no other request queued, the end of a cycle (R89) leaves the request
queue empty and the counts of the Exchange Unit alone. -/

namespace Sys2Proof.Machine

/-! ## A station with no request -/

/-- No request is queued, waits or is in transmission, and the Exchange Unit has counted `c`. -/
structure NoRequests (c : ExchangeCounts) (s : State) : Prop where
  requests : s.bus.requests = []
  waiting : s.bus.waiting = []
  tx : s.bus.tx = .idle
  counts : s.exchange.counts = c

section Kept

variable {c : ExchangeCounts} {s t : State}

theorem NoRequests.of_busUnits (h : NoRequests c s) (units : busUnits t = busUnits s) : NoRequests c t := by
  obtain ⟨bus, exchange⟩ := Prod.mk.inj units
  obtain ⟨requests, waiting, tx, counts⟩ := h
  exact ⟨bus ▸ requests, bus ▸ waiting, bus ▸ tx, exchange ▸ counts⟩

theorem noRequests_foldl {α : Type} {f : State → α → State} (step : ∀ s a, NoRequests c s → NoRequests c (f s a))
    (xs : List α) (h : NoRequests c s) : NoRequests c (xs.foldl f s) := by
  induction xs generalizing s with
  | nil => exact h
  | cons a xs ih => exact ih (step s a h)

variable (h : NoRequests c s)
include h

theorem noRequests_answerTo (kind : FrameKind) (dest : Nat) (seq : Byte) (payload : List Byte) :
    NoRequests c (answerTo kind dest seq payload s) := by
  obtain ⟨requests, waiting, tx, counts⟩ := h
  unfold answerTo pushAnswer
  split <;> exact ⟨requests, waiting, tx, counts⟩

theorem noRequests_removeRequests (drop : Frame → Bool) : NoRequests c (removeRequests drop s) := by
  obtain ⟨requests, waiting, tx, counts⟩ := h
  have none : (dropRequests drop s.bus).requests = [] ∧ (dropRequests drop s.bus).waiting = []
      ∧ (dropRequests drop s.bus).tx = .idle := by
    simp [dropRequests, requests, waiting, tx]
  obtain ⟨requests, waiting, tx⟩ := none
  have same : removeRequests drop s = s.mapBus (dropRequests drop) :=
    refill_of_none_waiting (s := s.mapBus (dropRequests drop)) waiting
  rw [same]
  exact ⟨requests, waiting, tx, counts⟩

theorem noRequests_freeZoneEntry (k : Fin 256) (z : Nat) : NoRequests c (freeZoneEntry k z s) := by
  unfold freeZoneEntry
  split
  · obtain ⟨requests, waiting, tx, counts⟩ := h
    refine noRequests_removeRequests ?_ _
    exact ⟨requests, waiting, tx, counts⟩
  · exact h

/-- R53: a tag of the own zone taken. -/
theorem noRequests_takeAired (z : Nat) (g : Tag) : NoRequests c (takeAired z s g) := by
  have waits (k : Fin 256) (t : State) : busUnits (startAckWait k t) = busUnits t := by
    unfold startAckWait
    repeat' split
    all_goals rfl
  unfold takeAired
  split
  · have aired : NoRequests c (setZone (tagSlot g) z .aired s) := h.of_busUnits rfl
    refine (noRequests_freeZoneEntry aired (tagSlot g) z).of_busUnits ?_
    rw [busUnits_settleIfResolved, waits]
  · exact h

/-- R83: a report made. -/
theorem noRequests_reportHome (tags : List Tag) (home : Byte) : NoRequests c (reportHome tags s home) := by
  unfold reportHome
  dsimp only
  split
  · exact noRequests_foldl (fun _ g h => noRequests_takeAired h _ g) _ h
  · exact noRequests_foldl (fun _ _ h => noRequests_answerTo h _ _ _ _) _ h

/-- R85: a request of the own zone returned. -/
theorem noRequests_ownWithdrawn (g : Tag) : NoRequests c (ownWithdrawn g s) := by
  unfold ownWithdrawn resolveZone
  split
  · split
    · exact h.of_busUnits (busUnits_afterResolved _ _)
    · exact h
  · exact h

/-- R85: an owed answer made. -/
theorem noRequests_answerOwed (e : AirEntry) : NoRequests c (answerOwed s e) := by
  unfold answerOwed
  split
  · split
    · exact noRequests_ownWithdrawn h _
    · exact noRequests_answerTo h _ _ _ _
  · exact h

/-- R89: the cycle ended. -/
theorem noRequests_endAnyCycle : NoRequests c (endAnyCycle s) := by
  unfold endAnyCycle
  split
  · next y _ =>
    have reported : NoRequests c (makeReports y s) := noRequests_foldl (fun _ a h => noRequests_reportHome h _ a) _ h
    have answered : NoRequests c (makeOwed (makeReports y s)) :=
      noRequests_foldl (fun _ _ => noRequests_foldl (fun _ e h => noRequests_answerOwed h e) _) _ reported
    exact answered.of_busUnits rfl
  · exact h

/-- R168: CONFIGURED entered from LEAVING. -/
theorem noRequests_enterConfigured : NoRequests c (enterConfigured s) := by
  obtain ⟨requests, waiting, tx, counts⟩ := noRequests_endAnyCycle h
  exact ⟨requests, waiting, tx, counts⟩

end Kept

/-! ## The PRESENCE sent -/

/-- R145, R165: what every PRESENCE sent whole brings about. -/
def presenceCounted (s : State) : State := (requestLeft s).mapExchange fun x => { x with
  intervalDue := some (s.tick + BitVec.ofNat 32 (100 * (cfg s).presenceTimeout / 3))
  counts := { x.counts with presenceSent := min (x.counts.presenceSent + 1) 65535 } }

/-- R165, R167, R168: the station after a PRESENCE sent whole. -/
def presenceMoved (fresh leaving : Bool) (s : State) : State :=
  if fresh = true ∧ s.life.state = .joining then enterOnBus (presenceCounted s)
  else if leaving = true ∧ s.life.state = .leaving then enterConfigured (presenceCounted s)
  else presenceCounted s

section Sent

variable {s : State} {cs : List BusChar} {f : Frame} {st fl : Byte}

theorem readPresence_of_flags (state : st = 1 ∨ st = 2) (flags : fl.toNat ≤ 5) : readPresence [st, fl] =
    some { leavingState := st = 2, airing := fl.getLsbD 0, fresh := fl.getLsbD 1, leaving := fl.getLsbD 2 } := by
  have both : ∀ fl : Byte, fl.toNat ≤ 5 → ¬ (fl.getLsbD 1 = true ∧ fl.getLsbD 2 = true) := by decide
  exact if_pos ⟨state, by omega, both fl flags⟩

theorem noRequests_presenceCounted (queue : s.bus.requests = [f])
    (waits : s.bus.waiting = []) : NoRequests { s.exchange.counts with
      presenceSent := min (s.exchange.counts.presenceSent + 1) 65535 } (presenceCounted s) :=
  ⟨congrArg List.tail queue, waits, rfl, rfl⟩

theorem noRequests_presenceMoved {c : ExchangeCounts} (h : NoRequests c (presenceCounted s)) (fresh leaving : Bool) :
    NoRequests c (presenceMoved fresh leaving s) := by
  unfold presenceMoved
  split_ifs
  · obtain ⟨requests, waiting, tx, counts⟩ := h
    exact ⟨requests, waiting, tx, counts⟩
  · exact noRequests_enterConfigured h
  · exact h

/-- R145, R165: the only request, a PRESENCE, is sent whole. -/
theorem exec_frameSent_presence (runs : running s = true) (tx : s.bus.tx = .request cs false)
    (queue : s.bus.requests = [f]) (waits : s.bus.waiting = []) (kind : f.kind = .presence) (payload : f.payload = [st, fl])
    (state : st = 1 ∨ st = 2) (flags : fl.toNat ≤ 5) :
    exec .frameSent s = .next (presenceMoved (fl.getLsbD 1) (fl.getLsbD 2) s) := by
  have whole : presenceWhole f false (requestLeft s) = presenceMoved (fl.getLsbD 1) (fl.getLsbD 2) s := by
    simp only [presenceWhole, payload, readPresence_of_flags state flags, Bool.false_eq_true, if_false]
    rfl
  have none := noRequests_presenceMoved (noRequests_presenceCounted queue waits) (fl.getLsbD 1) (fl.getLsbD 2)
  have sent : requestSent f false s = presenceMoved (fl.getLsbD 1) (fl.getLsbD 2) s := by
    rw [← refill_of_none_waiting none.waiting, ← whole]
    exact congrArg refill (if_pos kind)
  change execFrameSent s = _
  rw [execFrameSent, if_neg (by simp [runs]), tx, queue, ← sent]

/-- R82, R89: with nothing to report and nothing owed the cycle ends within the Air Scheduler. -/
theorem endAnyCycle_of_silent (empty : airEmpty s = true) (silent : ∀ y, s.air.cycle = some y → y.report = []) :
    ∃ air, endAnyCycle s = { s with air := air } ∧ air.cycle = none
      ∧ ∀ y, s.air.cycle = some y → air = closeCycle y s.air := by
  obtain ⟨regular, priority⟩ : s.air.regular = [] ∧ s.air.priority = [] := by simpa [airEmpty] using empty
  cases cycle : s.air.cycle with
  | none => exact ⟨s.air, by simp [endAnyCycle, cycle], cycle, by simp⟩
  | some y =>
    have reported : makeReports y s = s := makeReports_none (by simp [reportedTags, silent y cycle])
    have ended : endCycle y s = s.mapAir (closeCycle y) := by
      rw [endCycle, reported, makeOwed_none (by simp [regular, priority])]
    refine ⟨closeCycle y s.air, ?_, rfl, by simp⟩
    simp only [endAnyCycle, cycle, ended]
    rfl

/-- R168: CONFIGURED entered from LEAVING, the cycle ended within the Air Scheduler. -/
theorem enterConfigured_of_ended {air : Air} (ended : endAnyCycle s = { s with air := air }) : enterConfigured s = { s with
    life := { s.life with state := .configured }
    air := { air with timer := none }
    matcher := { s.matcher with
      fifo := []
      counts := { s.matcher.counts with ignored := min (s.matcher.counts.ignored + s.matcher.fifo.length) 65535 } }
    bus := { s.bus with pendingMark := false }
    exchange := { s.exchange with intervalDue := none, leaveMade := false } } := by
  rw [enterConfigured, ended]
  rfl

end Sent

/-- Settles O40: by the state of the station; the leaving one, with the air queues empty and nothing to report, ends the cycle
within the Air Scheduler. -/
theorem presenceSentMovesStation : Obligations.PresenceSentMovesStation := by
  unfold Obligations.PresenceSentMovesStation
  intro cs f st fl s runs tx queue waits kind payload state flags
  have none := noRequests_presenceMoved (noRequests_presenceCounted queue waits) (fl.getLsbD 1) (fl.getLsbD 2)
  refine ⟨_, exec_frameSent_presence runs tx queue waits kind payload state flags, by rw [none.counts], none.requests,
    none.tx, fun member => ?onBus, fun joins fresh => ?joining, fun leaves leaving empty silent => ?leaving⟩
  case onBus =>
    have moved : presenceMoved (fl.getLsbD 1) (fl.getLsbD 2) s = presenceCounted s := by simp [presenceMoved, member]
    rw [moved]
    exact ⟨rfl, rfl⟩
  case joining =>
    have moved : presenceMoved (fl.getLsbD 1) (fl.getLsbD 2) s = enterOnBus (presenceCounted s) :=
      if_pos ⟨fresh, joins⟩
    rw [moved]
    exact ⟨rfl, rfl, rfl⟩
  case leaving =>
    obtain ⟨air, ended, stopped, closed⟩ := endAnyCycle_of_silent (s := presenceCounted s) empty silent
    have moved : presenceMoved (fl.getLsbD 1) (fl.getLsbD 2) s = enterConfigured (presenceCounted s) := by
      simp [presenceMoved, leaves, leaving]
    rw [moved, enterConfigured_of_ended ended]
    refine ⟨rfl, rfl, rfl, stopped, rfl, rfl, rfl, fun y cycle => ?_⟩
    rw [closed y cycle]
    exact ⟨rfl, rfl, rfl⟩

end Sys2Proof.Machine
end

section
/-! A FORWARD taken (R157, R10, R151): the parts of the station that a decision may change, and the answer. -/

namespace Sys2Proof.Machine

section Forward

variable {s : State} {f : Received}

/-- R10: a decision carried out leaves the air queues and the cycle alone. -/
theorem air_decideEntry (n : Nat) (c : MessageClass) (body : List Byte) (o : Option Origin) (s : State) :
    (decideEntry n c body o s).air = s.air := by
  unfold decideEntry
  split
  · rw [accept, acceptCharge, air_produceFor]
    rfl
  · rfl

/-- R10, R14: a decision carried out changes the directory, the Page Store, the billing queue and the port's mark alone. -/
theorem decideEntry_rest (n : Nat) (c : MessageClass) (body : List Byte) (o : Option Origin) (s : State) :
    ∃ directory store billing port, decideEntry n c body o s = { s with
      directory := directory, store := store, billing := billing, port := port } := by
  have outside := outsideStore_decideEntry n c body o s
  have units := busUnits_decideEntry n c body o s
  have air := air_decideEntry n c body o s
  generalize decideEntry n c body o s = t at *
  simp only [outsideStore, busUnits, Prod.mk.injEq] at outside units
  obtain ⟨tick, pins, life, plans, ranges, intake, matcher, pending⟩ := outside
  obtain ⟨bus, exchange⟩ := units
  refine ⟨t.directory, t.store, t.billing, t.port, ?_⟩
  rw [← tick, ← pins, ← life, ← plans, ← ranges, ← intake, ← matcher, ← pending, ← bus, ← exchange, ← air]

/-- R10: a decision other than ACCEPT changes nothing. -/
theorem decideEntry_of_ne_accept {n : Nat} {c : MessageClass} {body : List Byte} {o : Option Origin}
    (refused : decision n c o s ≠ .accept) : decideEntry n c body o s = s := by
  unfold decideEntry
  split
  · next accepts _ _ => exact absurd accepts refused
  · rfl

/-- R151: an answer that finds the queue full is dropped. -/
theorem answerTo_full (full : 24 ≤ s.bus.answers.length) (kind : FrameKind) (dest : Nat) (seq : Byte) (payload : List Byte) :
    (answerTo kind dest seq payload s).bus = { s.bus with counts := { s.bus.counts with
      answersDropped := min (s.bus.counts.answersDropped + 1) 65535 } } := by
  rw [answerTo, pushAnswer_full full]

end Forward

/-- Settles O24: the station that has noted the frame decides as it stood before; the decision reaches neither the bus nor the
Exchange Unit, and the answer the bus alone. -/
theorem forwardIsDecidedAndAnswered : Obligations.ForwardIsDecidedAndAnswered := by
  unfold Obligations.ForwardIsDecidedAndAnswered
  rintro offpeak heard f c d s own joined agrees known rfl
  obtain ⟨directory, store, billing, port, decided⟩ := decideEntry_rest (field f.payload 0 3) c (f.payload.drop 4)
    (some { station := f.src.toNat, seq := f.seq }) (withOffpeak offpeak (noted f s))
  refine ⟨_, exec_forward own joined agrees known, ?_, fun room => ?_, fun full => ?_, fun refused => ?_⟩
  · rw [takeForward, answerTo_bus, decided]
    rfl
  · rw [takeForward, decided]
    exact answerTo_noted room (by rfl) (by rfl) _ _
  · rw [takeForward, decided]
    exact answerTo_full (by exact full) _ _ _ _
  · have same : decideEntry (field f.payload 0 3) c (f.payload.drop 4) (some { station := f.src.toNat, seq := f.seq })
        (withOffpeak offpeak (noted f s)) = withOffpeak offpeak (noted f s) := decideEntry_of_ne_accept refused
    rw [takeForward, same, answerTo_bus]
    exact ⟨rfl, rfl, rfl, rfl⟩

end Sys2Proof.Machine
end

section
/-! The checks of a frame for this station (R156, R157, R161), in their order, each with the count that a frame it discards
raises; a payload is read exactly when it agrees with the layout of its kind (R189). -/

namespace Sys2Proof.Machine

/-! ## The payloads that agree -/

section Payloads

variable (p : List Byte)

theorem isSome_classOf : ∀ b : Byte, (classOf b).isSome = decide (b ∈ classChars) := by decide

theorem isSome_readForward : (readForward p).isSome = payloadAgrees .forward p := by
  unfold readForward payloadAgrees
  split
  · next fits => simp [fits, isSome_classOf]
  · next fits => simpa using fun low high => absurd ⟨low, high⟩ fits

theorem isSome_readAirRequest : (readAirRequest p).isSome = payloadAgrees .airRequest p := by
  unfold readAirRequest payloadAgrees
  split
  · next fits => simp [fits, isSome_classOf]
  · next fits => simpa using fun low high => absurd ⟨low, high⟩ fits

theorem isSome_readByte : (readByte p).isSome = (p.length == 1) := by
  match p with
  | [] => rfl
  | [_] => rfl
  | _ :: _ :: _ => simp [readByte]

theorem isSome_readTag : (readTag p).isSome = payloadAgrees .withdraw p := by
  match p with
  | [] => rfl
  | [_] => rfl
  | [_, _] => rfl
  | [_, _, _] => rfl
  | [_, _, _, _] => rfl
  | _ :: _ :: _ :: _ :: _ :: _ => simp [readTag, payloadAgrees]

theorem isSome_readHeard : (readHeard p).isSome = payloadAgrees .heard p := by
  match p with
  | [] => rfl
  | [_] => rfl
  | [_, _] => rfl
  | [_, _, _] => rfl
  | [_, _, _, _] => rfl
  | [_, _, _, _, _] => rfl
  | _ :: _ :: _ :: _ :: _ :: _ :: _ => simp [readHeard, payloadAgrees]

theorem isSome_readAired : (readAired p).isSome = payloadAgrees .aired p := by
  unfold readAired payloadAgrees
  split
  · next fits => simp [fits]
  · next fits => simpa using fun low high => fun whole => fits ⟨low, high, whole⟩

theorem isSome_readAirAnswer : (readAirAnswer p).isSome = payloadAgrees .airAnswer p := by
  have codes : ∀ b : Byte, (readAirAnswer [b]).isSome = decide (b.toNat ≤ 3) := by decide
  match p with
  | [] => rfl
  | [b] => simpa [payloadAgrees, byteAt] using codes b
  | _ :: _ :: _ => simp [readAirAnswer, payloadAgrees]

theorem isSome_readWithdrawn : (readWithdrawn p).isSome = payloadAgrees .withdrawn p := by
  have codes : ∀ b : Byte, (readWithdrawn [b]).isSome = decide (b.toNat ≤ 1) := by decide
  match p with
  | [] => rfl
  | [b] => simpa [payloadAgrees, byteAt] using codes b
  | _ :: _ :: _ => simp [readWithdrawn, payloadAgrees]

theorem isSome_readPresence : (readPresence p).isSome = payloadAgrees .presence p := by
  have flags : ∀ fl : Byte, decide (fl.toNat < 8 ∧ ¬ (fl.getLsbD 1 = true ∧ fl.getLsbD 2 = true)) =
      decide (fl.toNat ≤ 5) := by decide
  match p with
  | [] => rfl
  | [_] => rfl
  | [st, fl] =>
    have state : decide (st = 1 ∨ st = 2) = (st == 1 || st == 2) := Bool.decide_or _ _
    have read : (readPresence [st, fl]).isSome = decide ((st = 1 ∨ st = 2) ∧ fl.toNat < 8
        ∧ ¬ (fl.getLsbD 1 = true ∧ fl.getLsbD 2 = true)) :=
      Bool.eq_iff_iff.mpr (Option.isSome_ite.trans decide_eq_true_iff.symm)
    rw [read, Bool.decide_and, flags, state]
    rfl
  | _ :: _ :: _ :: _ => simp [readPresence, payloadAgrees]

end Payloads

/-! ## The checks -/

/-- R156, R157, R161: what an event does with a frame of a kind that a check discards. -/
structure Checks (k : FrameKind) (f : Received) (act : State → State) : Prop where
  misaddressed : f.dest = 0 → k ≠ .presence → ∀ s, act s = countMisaddressed s
  badPayload : f.dest ≠ 0 ∨ k = .presence → payloadAgrees k f.payload = false → ∀ s, act s = countBadPayload s
  notMember : f.dest ≠ 0 → payloadAgrees k f.payload = true → membersKind k = true →
    ∀ s, member s = false → act s = countNotMember s
  late : ∀ ek, f.dest ≠ 0 → payloadAgrees k f.payload = true → answersKind k = some ek → ∀ s,
    (∀ e ∈ s.exchange.table, e.key = { peer := f.src.toNat, seq := f.seq, kind := ek } → e.phase ≠ .sent) →
    act s = countLate s

section Checked

variable {k : FrameKind} {f : Received} {α : Type} {content : Option α}

theorem checked_broadcast (zero : f.dest = 0) (act : α → State → State) (s : State) :
    checked f content act s = countMisaddressed s := if_pos (by rw [zero]; rfl)

theorem checked_none (own : f.dest ≠ 0) (bad : content = none) (act : α → State → State) (s : State) :
    checked f content act s = countBadPayload s := by
  have byNumber : f.dest.toNat ≠ 0 := fun zero => own (BitVec.eq_of_toNat_eq zero)
  simp only [checked, byNumber, bad, if_false]

/-- R161: a reply that no SENT entry awaits. -/
theorem matched_late {kind : EntryKind} {s : State} (act : Outstanding → State → State)
    (none : ∀ e ∈ s.exchange.table, e.key = { peer := f.src.toNat, seq := f.seq, kind := kind } → e.phase ≠ .sent) :
    matched f kind act s = countLate s := by
  unfold matched
  split
  · next e found =>
    obtain ⟨mem, key⟩ := findEntry_some found
    rw [if_neg (none e mem key)]
  · rfl

/-- R156: the checks of address and payload, before that of the kind. -/
theorem checks_of_content (notPresence : k ≠ .presence) (reads : content.isSome = payloadAgrees k f.payload)
    {act : α → State → State}
    (notMember : membersKind k = true → ∀ x s, member s = false → act x s = countNotMember s)
    (late : ∀ ek, answersKind k = some ek → ∀ x s,
      (∀ e ∈ s.exchange.table, e.key = { peer := f.src.toNat, seq := f.seq, kind := ek } → e.phase ≠ .sent) →
      act x s = countLate s) : Checks k f (checked f content act) where
  misaddressed zero _ := checked_broadcast zero act
  badPayload own disagrees := by
    have bad : content = none := Option.isNone_iff_eq_none.mp (Option.isSome_eq_false_iff.mp (reads.trans disagrees))
    exact checked_none (own.resolve_right notPresence) bad act
  notMember own agrees members s outside := by
    obtain ⟨x, good⟩ := Option.isSome_iff_exists.mp (reads.trans agrees)
    rw [checked_some own good, notMember members x s outside]
  late ek own agrees answers s none := by
    obtain ⟨x, good⟩ := Option.isSome_iff_exists.mp (reads.trans agrees)
    rw [checked_some own good, late ek answers x s none]

/-- R157: a request or report. -/
theorem checks_membersOnly (notPresence : k ≠ .presence) (noReply : answersKind k = none)
    (reads : content.isSome = payloadAgrees k f.payload) (act : α → State → State) :
    Checks k f (checked f content fun x => membersOnly (act x)) :=
  checks_of_content notPresence reads (fun _ _ _ outside => if_neg (by simp [outside]))
    fun ek answers => by simp [noReply] at answers

/-- R161: a reply. -/
theorem checks_matched {ek : EntryKind} (notPresence : k ≠ .presence) (noMember : membersKind k = false)
    (reply : answersKind k = some ek) (reads : content.isSome = payloadAgrees k f.payload)
    (act : α → Outstanding → State → State) : Checks k f (checked f content fun x => matched f ek (act x)) :=
  checks_of_content notPresence reads (fun members => by simp [noMember] at members) fun ek' answers x s none => by
    obtain rfl : ek = ek' := by simpa [reply] using answers
    exact matched_late (act x) none

/-- R163, R156: a PRESENCE, for which address and membership do not matter. -/
theorem checks_presence (act : PresenceBody → State → State) : Checks .presence f fun s =>
    match readPresence f.payload with
    | some b => act b s
    | none => countBadPayload s where
  misaddressed _ notPresence := absurd rfl notPresence
  badPayload _ disagrees s := by
    have reads := (isSome_readPresence f.payload).trans disagrees
    rw [Option.isSome_eq_false_iff, Option.isNone_iff_eq_none] at reads
    rw [reads]
  notMember _ _ members := by simp [membersKind] at members
  late ek _ _ answers := by simp [answersKind] at answers

end Checked

/-- R156, R163: each command that brings a frame checks the frame in the station that has noted it. -/
theorem exec_busFrame {c : Instr} {k : FrameKind} {heard : List BusChar} {f : Received} {s : State}
    (brings : busFrame c = some (k, heard)) (frame : hears heard f s) (kind : f.kind = kindCode k) :
    ∃ pins act, Checks k f act ∧ exec c s = .next (act { noted f s with pins := pins }) := by
  have ofThis : ofKind k f.kind = true := by rw [kind]; exact ofKind_kindCode k
  have atLevel (level : Bool) (act : Received → State → State) : takeFrame (ofKind k) heard act (withOffpeak level s) =
      act f { noted f s with pins := { s.pins with offpeak := level } } :=
    takeFrame_of_hears (hears_withOffpeak level frame) ofThis act
  have asIs (act : Received → State → State) : takeFrame (ofKind k) heard act s =
      act f { noted f s with pins := s.pins } := takeFrame_of_hears frame ofThis act
  cases c <;> simp only [busFrame, Option.some.injEq, Prod.mk.injEq, reduceCtorEq] at brings
  all_goals obtain ⟨rfl, rfl⟩ := brings
  case forward level _ =>
    exact ⟨_, _, checks_membersOnly (by decide) rfl (isSome_readForward _) _, congrArg _ (atLevel level _)⟩
  case cancel level _ =>
    exact ⟨_, _, checks_membersOnly (by decide) rfl (isSome_readByte _) _, congrArg _ (atLevel level _)⟩
  case airRequest =>
    exact ⟨_, _, checks_membersOnly (by decide) rfl (isSome_readAirRequest _) _, congrArg _ (asIs _)⟩
  case withdraw =>
    exact ⟨_, _, checks_membersOnly (by decide) rfl (isSome_readTag _) _, congrArg _ (asIs _)⟩
  case presence level _ =>
    exact ⟨_, _, checks_presence _, congrArg _ (atLevel level _)⟩
  case taken =>
    exact ⟨_, _, checks_matched (by decide) rfl rfl (isSome_readByte _) _, congrArg _ (asIs _)⟩
  case cancelAnswer =>
    exact ⟨_, _, checks_matched (by decide) rfl rfl (isSome_readByte _) _, congrArg _ (asIs _)⟩
  case airAnswer level _ =>
    exact ⟨_, _, checks_matched (by decide) rfl rfl (isSome_readAirAnswer _) _, congrArg _ (atLevel level _)⟩
  case withdrawn level _ =>
    exact ⟨_, _, checks_matched (by decide) rfl rfl (isSome_readWithdrawn _) _, congrArg _ (atLevel level _)⟩
  case aired level _ =>
    exact ⟨_, _, checks_membersOnly (by decide) rfl (isSome_readAired _) _, congrArg _ (atLevel level _)⟩
  case heard level _ =>
    exact ⟨_, _, checks_membersOnly (by decide) rfl (isSome_readHeard _) _, congrArg _ (atLevel level _)⟩

/-- Settles O21: by the check that discards the frame, in the station that has noted it. -/
theorem discardedFramesAreCounted : Obligations.DiscardedFramesAreCounted := by
  unfold Obligations.DiscardedFramesAreCounted
  rintro c k heard f s brings frame kind counted rfl
  obtain ⟨pins, act, checks, effect⟩ := exec_busFrame brings frame kind
  refine ⟨fun zero notPresence => ⟨_, effect, ?_⟩, fun own disagrees => ⟨_, effect, ?_⟩,
    fun own agrees members state => ⟨_, effect, ?_⟩, fun ek own agrees answers none => ⟨_, effect, ?_⟩⟩
  · rw [checks.misaddressed zero notPresence]
    rfl
  · rw [checks.badPayload own disagrees]
    rfl
  · have outside : member s = false := by rcases state with state | state <;> simp [member, state]
    rw [checks.notMember own agrees members { noted f s with pins := pins } outside]
    rfl
  · rw [checks.late ek own agrees answers { noted f s with pins := pins } none]
    rfl

end Sys2Proof.Machine
end

section
/-! What the operations of the blocks leave of the station's life: all of it (R185, R186). -/

namespace Sys2Proof.Machine

/-! ## The parts of the state that an operation keeps -/

/-- What an operation of the bus keeps, it keeps of the station's life. -/
theorem life_of_outsideBus {s t : State} (h : outsideBus t = outsideBus s) : t.life = s.life := (eq_of_outsideBus h).2.1

/-- What an operation of the Page Store keeps, it keeps of the station's life. -/
theorem life_of_outsideStore {s t : State} (h : outsideStore t = outsideStore s) : t.life = s.life :=
  congrArg (fun x => x.2.2.1) h

/-- What an event that loads nothing keeps, it keeps of the station's life. -/
theorem life_of_loaded {s t : State} (h : loaded t = loaded s) : t.life = s.life := congrArg (fun x => x.2.2.1) h

/-- An operation under a condition keeps the life when it does so where the condition holds. -/
theorem life_ite {c : Prop} [Decidable c] {s t : State} (h : t.life = s.life) : (if c then t else s).life = s.life := by
  split
  · exact h
  · rfl

/-! ## Records, tables and counters -/

@[simp] theorem life_withOffpeak (level : Bool) (s : State) : (withOffpeak level s).life = s.life := rfl
@[simp] theorem life_modifyRecord (i : Nat) (f : Subscriber → Subscriber) (s : State) :
    (modifyRecord i f s).life = s.life := rfl
@[simp] theorem life_mapLine (k : Fin 8) (f : Line → Line) (s : State) : (mapLine k f s).life = s.life := rfl
@[simp] theorem life_mapIntakeCounts (f : IntakeCounts → IntakeCounts) (s : State) :
    (mapIntakeCounts f s).life = s.life := rfl
@[simp] theorem life_mapDelivery (k : Fin 256) (f : Delivery → Delivery) (s : State) :
    (mapDelivery k f s).life = s.life := rfl
@[simp] theorem life_mapAttempt (k : Fin 256) (f : Attempt → Attempt) (s : State) :
    (mapAttempt k f s).life = s.life := rfl
@[simp] theorem life_setZone (k : Fin 256) (z : Nat) (st : ZoneState) (s : State) : (setZone k z st s).life = s.life := rfl
@[simp] theorem life_mapExchangeCounts (f : ExchangeCounts → ExchangeCounts) (s : State) :
    (mapExchangeCounts f s).life = s.life := rfl
@[simp] theorem life_mapBusCounts (f : BusCounts → BusCounts) (s : State) : (mapBusCounts f s).life = s.life := rfl
@[simp] theorem life_mapAirCounts (f : AirCounts → AirCounts) (s : State) : (mapAirCounts f s).life = s.life := rfl
@[simp] theorem life_mapMatcherCounts (f : MatcherCounts → MatcherCounts) (s : State) :
    (mapMatcherCounts f s).life = s.life := rfl

@[simp] theorem life_setPresence (n : Nat) (p : Presence) (s : State) : (setPresence n p s).life = s.life := by
  unfold setPresence
  split <;> rfl

/-! ## The queues of the bus and the outstanding table -/

@[simp] theorem life_answerTo (k : FrameKind) (d : Nat) (q : Byte) (p : List Byte) (s : State) :
    (answerTo k d q p s).life = s.life := life_of_outsideBus (outsideBus_answerTo k d q p s)
@[simp] theorem life_removeAnswers (f : Frame → Bool) (s : State) : (removeAnswers f s).life = s.life := rfl
@[simp] theorem life_refill (s : State) : (refill s).life = s.life := rfl
@[simp] theorem life_mapEntry (key : EntryKey) (f : Outstanding → Outstanding) (s : State) :
    (mapEntry key f s).life = s.life := rfl
@[simp] theorem life_freeEntry (key : EntryKey) (s : State) : (freeEntry key s).life = s.life := rfl
@[simp] theorem life_claimEntry (p : Nat) (k : EntryKind) (o : Owner) (c : List Byte) (s : State) :
    (claimEntry p k o c s).life = s.life := rfl
@[simp] theorem life_convertEntry (key : EntryKey) (k : EntryKind) (c : List Byte) (s : State) :
    (convertEntry key k c s).life = s.life := life_of_outsideBus (outsideBus_convertEntry key k c s)
@[simp] theorem life_cancelForward (key : EntryKey) (s : State) : (cancelForward key s).life = s.life :=
  life_convertEntry key .cancel [key.seq] s
@[simp] theorem life_makePresence (b : PresenceBody) (s : State) : (makePresence b s).life = s.life :=
  life_of_outsideBus (outsideBus_makePresence b s)
@[simp] theorem life_ordinaryPresence (s : State) : (ordinaryPresence s).life = s.life := life_makePresence _ s
@[simp] theorem life_announceLeaving (s : State) : (announceLeaving s).life = s.life := life_makePresence _ _

/-! ## The Air Scheduler -/

@[simp] theorem life_clearMark (s : State) : (clearMark s).life = s.life := rfl
@[simp] theorem life_startCycle (s : State) : (startCycle s).life = s.life := rfl
@[simp] theorem life_startNextFree (s : State) : (startNextFree s).life = s.life := life_ite (life_startCycle s)

@[simp] theorem life_takeMark (s : State) : (takeMark s).life = s.life := by
  unfold takeMark
  split_ifs <;> rfl

@[simp] theorem life_withdrawAir (t : Tag) (w : PendingWithdraw) (s : State) : (withdrawAir t w s).life = s.life :=
  life_of_outsideStore (outsideStore_withdrawAir t w s)
@[simp] theorem life_admitAsk (ask : AirAsk) (s : State) : (admitAsk ask s).life = s.life :=
  life_of_outsideStore (outsideStore_admit ask s)

@[simp] theorem life_endCycle (y : Cycle) (s : State) : (endCycle y s).life = s.life := by
  rw [endCycle_eq]
  exact (reported_keeps y s).2.2

/-! ## The Billing Meter and the Page Store -/

@[simp] theorem life_produceFor (i : Nat) (f : Subscriber → BillingRecord) (s : State) : (produceFor i f s).life = s.life :=
  life_of_outsideStore (outsideStore_produceFor i f s)
@[simp] theorem life_walkStep (i : Nat) (s : State) : (walkStep i s).life = s.life := life_produceFor _ _ s
@[simp] theorem life_decideEntry (n : Nat) (c : MessageClass) (b : List Byte) (o : Option Origin) (s : State) :
    (decideEntry n c b o s).life = s.life := life_of_outsideStore (outsideStore_decideEntry n c b o s)
@[simp] theorem life_endDelivery (k : Fin 256) (o : Terminal) (s : State) : (endDelivery k o s).life = s.life :=
  life_of_outsideStore (outsideStore_endDelivery k o s)
@[simp] theorem life_closeAttempt (k : Fin 256) (o : AttemptOutcome) (s : State) : (closeAttempt k o s).life = s.life :=
  life_of_outsideStore (outsideStore_closeAttempt k o s)
@[simp] theorem life_resolveZone (k : Fin 256) (z : Nat) (st : ZoneState) (s : State) :
    (resolveZone k z st s).life = s.life := life_of_outsideStore (outsideStore_resolveZone k z st s)
@[simp] theorem life_loseZone (k : Fin 256) (z : Nat) (s : State) : (loseZone k z s).life = s.life :=
  life_of_outsideStore (outsideStore_loseZone k z s)
@[simp] theorem life_takeAired (z : Nat) (s : State) (t : Tag) : (takeAired z s t).life = s.life :=
  life_of_outsideStore (outsideStore_takeAired z s t)
@[simp] theorem life_issueHead (k : Fin 256) (d : Delivery) (s : State) : (issueHead k d s).life = s.life :=
  life_of_outsideStore (outsideStore_issueHead k d s)
@[simp] theorem life_issueHeads (fuel : Nat) (s : State) : (issueHeads fuel s).life = s.life :=
  life_of_outsideStore (outsideStore_issueHeads fuel s)
@[simp] theorem life_releaseRetry (s : State) (k : Fin 256) : (releaseRetry s k).life = s.life := rfl

@[simp] theorem life_expireLifetime (k : Fin 256) (d : Delivery) (s : State) : (expireLifetime k d s).life = s.life := by
  unfold expireLifetime
  split <;> simp

/-! ## The Matcher -/

@[simp] theorem life_matchReport (t : Tag) (s : State) : (matchReport t s).life = s.life :=
  life_of_loaded (loaded_matchReport t s)
@[simp] theorem life_dropHead (s : State) : (dropHead s).life = s.life := rfl

@[simp] theorem life_routeHead (r : Report) (s : State) : (routeHead r s).life = s.life := by
  unfold routeHead
  split_ifs <;> simp

@[simp] theorem life_takeHeard (r : Report) (s : State) : (takeHeard r s).life = s.life := by
  unfold takeHeard
  dsimp only
  split_ifs <;> simp

/-! ## The Intake Unit -/

@[simp] theorem life_produceVerdict (k : Fin 8) (v : Verdict) (s : State) : (produceVerdict k v s).life = s.life := rfl
@[simp] theorem life_forwardEntry (k : Fin 8) (p : Nat) (ask : ForwardAsk) (s : State) :
    (forwardEntry k p ask s).life = s.life := rfl
@[simp] theorem life_recogniseSeize (k : Fin 8) (s : State) : (recogniseSeize k s).life = s.life := rfl
@[simp] theorem life_fallBack (k : Fin 8) (s : State) : (fallBack k s).life = s.life := rfl

@[simp] theorem life_recogniseRelease (k : Fin 8) (s : State) : (recogniseRelease k s).life = s.life := by
  unfold recogniseRelease
  dsimp only
  rw [life_mapLine]
  split <;> simp

@[simp] theorem life_routeEntry (k : Fin 8) (ask : ForwardAsk) (s : State) : (routeEntry k ask s).life = s.life := by
  unfold routeEntry
  split
  · simp
  · split
    · simp
    · simp
    · split_ifs <;> simp

@[simp] theorem life_checkEntry (k : Fin 8) (e : EntryAssembly) (s : State) : (checkEntry k e s).life = s.life := by
  unfold checkEntry
  split <;> simp

@[simp] theorem life_assemble (k : Fin 8) (s : State) (c : RxChar) : (assemble k s c).life = s.life := by
  unfold assemble
  split
  · exact life_ite (life_mapLine ..)
  · split <;> simp
  · rfl

/-- R26: characters that the assembler takes in turn. -/
@[simp] theorem life_foldl_assemble (k : Fin 8) (cs : List RxChar) (s : State) :
    (cs.foldl (assemble k) s).life = s.life := foldl_keeps State.life _ (life_assemble k) cs s

@[simp] theorem life_drainFifo (k : Fin 8) (s : State) : (drainFifo k s).life = s.life := life_ite (by simp)
@[simp] theorem life_leaveLookup (k : Fin 8) (v : Verdict) (s : State) : (leaveLookup k v s).life = s.life :=
  life_drainFifo _ _

@[simp] theorem life_forwardTimedOut (e : Outstanding) (s : State) : (forwardTimedOut e s).life = s.life := by
  unfold forwardTimedOut
  dsimp only
  split
  · split_ifs <;> simp
  · simp

@[simp] theorem life_feedAssembler (k : Fin 8) (s : State) : (feedAssembler k s).life = s.life := by
  unfold feedAssembler
  split <;> simp

/-! ## The Exchange Unit -/

@[simp] theorem life_completeEntry (e : Outstanding) (s : State) : (completeEntry e s).life = s.life := by
  unfold completeEntry
  split
  · simp
  · simp
  all_goals split <;> simp

@[simp] theorem life_completeKey (s : State) (key : EntryKey) : (completeKey s key).life = s.life := by
  unfold completeKey
  split <;> simp

@[simp] theorem life_completeKeys (keys : List EntryKey) (s : State) : (completeKeys keys s).life = s.life := by
  have completed : (keys.foldl completeKey s).life = s.life := foldl_keeps State.life _ life_completeKey keys s
  unfold completeKeys
  dsimp only
  split_ifs <;> simp [completed]

@[simp] theorem life_purgeAir (n : Nat) (s : State) : (purgeAir n s).life = s.life := rfl
@[simp] theorem life_purgeReports (n : Nat) (s : State) : (purgeReports n s).life = s.life := rfl

@[simp] theorem life_freshJoin (n : Nat) (s : State) : (freshJoin n s).life = s.life := by
  unfold freshJoin
  dsimp only
  split_ifs <;> simp

@[simp] theorem life_takePresence (n : Nat) (b : PresenceBody) (s : State) : (takePresence n b s).life = s.life := by
  unfold takePresence
  dsimp only
  split_ifs <;> simp

/-! ## Frames taken from the bus -/

/-- R140: characters heard leave the station's life alone. -/
theorem life_listen {heard : List BusChar} {s t : State} {e : RxEvent} (h : listen heard s = some (t, e)) :
    t.life = s.life := life_of_loaded (loaded_listen h)

@[simp] theorem life_listenOn (heard : List BusChar) (s : State) : (listenOn heard s).life = s.life := by
  unfold listenOn
  split
  · next heard => exact life_listen heard
  · rfl

@[simp] theorem life_measureRun (bits : Nat) (s : State) : (measureRun bits s).life = s.life := life_ite rfl
@[simp] theorem life_atReading (seen : LineSeen) (s : State) : (atReading seen s).life = s.life := by simp [atReading]
@[simp] theorem life_countDiscards (causes : List DiscardCause) (s : State) : (countDiscards causes s).life = s.life := rfl

@[simp] theorem life_dropFrame (j : SourceJudgement) (s : State) : (dropFrame j s).life = s.life := by
  cases j <;> rfl

/-- R140, R142, R163: taking a frame leaves the life alone when what is done with it does. -/
theorem life_takeFrame (kind : Byte → Bool) (heard : List BusChar) {act : Received → State → State}
    (h : ∀ f s, (act f s).life = s.life) (s : State) : (takeFrame kind heard act s).life = s.life := by
  unfold takeFrame
  split
  · next t bytes complete =>
    refine life_ite ?_
    rw [h, ← life_listen complete]
    exact life_setPresence ..
  · rfl

theorem life_checked {α : Type} (f : Received) (content : Option α) {act : α → State → State}
    (h : ∀ x s, (act x s).life = s.life) (s : State) : (checked f content act s).life = s.life := by
  unfold checked
  split
  · rfl
  · split
    · exact h _ s
    · rfl

theorem life_membersOnly {act : State → State} (h : ∀ s, (act s).life = s.life) (s : State) :
    (membersOnly act s).life = s.life := by
  unfold membersOnly
  split
  · exact h s
  · rfl

theorem life_matched (f : Received) (kind : EntryKind) {act : Outstanding → State → State}
    (h : ∀ e s, (act e s).life = s.life) (s : State) : (matched f kind act s).life = s.life := by
  unfold matched
  split
  · split
    · exact h _ s
    · rfl
  · rfl

/-- R156, R157: a frame of a kind that only a member acts on. -/
theorem life_memberFrame {α : Type} (kind : Byte → Bool) (heard : List BusChar) (content : Received → Option α)
    {act : Received → α → State → State} (h : ∀ f x s, (act f x s).life = s.life) (s : State) :
    (takeFrame kind heard (fun f => checked f (content f) fun x => membersOnly (act f x)) s).life = s.life :=
  life_takeFrame kind heard (fun f s => life_checked f _ (fun x s => life_membersOnly (h f x) s) s) s

/-- R156, R161: a frame that answers an outstanding entry. -/
theorem life_replyFrame {α : Type} (kind : Byte → Bool) (heard : List BusChar) (content : Received → Option α)
    (entry : EntryKind) {act : α → Outstanding → State → State} (h : ∀ x e s, (act x e s).life = s.life) (s : State) :
    (takeFrame kind heard (fun f => checked f (content f) fun x => matched f entry (act x)) s).life = s.life :=
  life_takeFrame kind heard (fun f s => life_checked f _ (fun x s => life_matched f entry (h x) s) s) s

@[simp] theorem life_takeForward (f : Received) (ask : ForwardAsk) (s : State) : (takeForward f ask s).life = s.life := by
  simp [takeForward]

@[simp] theorem life_takeCancel (f : Received) (q : Byte) (s : State) : (takeCancel f q s).life = s.life := by
  unfold takeCancel cancelOrigin
  dsimp only
  split <;> simp

@[simp] theorem life_takeAirRequest (f : Received) (ask : AirAsk) (s : State) :
    (takeAirRequest f ask s).life = s.life := by simp [takeAirRequest]

@[simp] theorem life_takeWithdraw (f : Received) (t : Tag) (s : State) : (takeWithdraw f t s).life = s.life := by
  unfold takeWithdraw
  dsimp only
  split <;> simp

@[simp] theorem life_takeTaken (code : Byte) (e : Outstanding) (s : State) : (takeTaken code e s).life = s.life := by
  unfold takeTaken
  dsimp only
  split
  · split_ifs <;> simp
  · simp

@[simp] theorem life_takeAirAnswer (code : AirCode) (e : Outstanding) (s : State) :
    (takeAirAnswer code e s).life = s.life := by
  unfold takeAirAnswer
  split
  · rfl
  · split
    · rfl
    · split_ifs <;> simp

@[simp] theorem life_takeWithdrawn (e : Outstanding) (s : State) : (takeWithdrawn e s).life = s.life := by
  unfold takeWithdrawn
  split
  · rfl
  · exact life_ite (by simp)

/-! ## The bus line -/

@[simp] theorem life_cutFrame (s : State) : (cutFrame s).life = s.life := life_ite rfl
@[simp] theorem life_endRun (s : State) : (endRun s).life = s.life := life_cutFrame s
@[simp] theorem life_endOwnRun (s : State) : (endOwnRun s).life = s.life := rfl

@[simp] theorem life_giveUp (s : State) : (giveUp s).life = s.life := by
  unfold giveUp
  split <;> rfl

@[simp] theorem life_stopBus (s : State) : (stopBus s).life = s.life := (life_giveUp _).trans (life_cutFrame s)
@[simp] theorem life_absentAll (s : State) : (absentAll s).life = s.life := rfl
@[simp] theorem life_setTx (t : Transmission) (s : State) : (setTx t s).life = s.life := rfl
@[simp] theorem life_countSent (s : State) : (countSent s).life = s.life := rfl

end Sys2Proof.Machine
end

section
/-! The transitions of the station state (R185), by the commands that make one, and the commands that leave the station's
life alone. -/

namespace Sys2Proof.Machine

/-! ## What a command does with the station's life -/

/-- A command answers with a state whose life is the one before. -/
def LeavesLife (s : State) (o : Host.Outcome State Fault Refusal) : Prop := ∃ t, o = .next t ∧ t.life = s.life

theorem leavesLife_next {s t : State} (h : t.life = s.life) : LeavesLife s (.next t) := ⟨t, rfl, h⟩

/-- A command that acts on a condition, and otherwise leaves the state as it is. -/
theorem leavesLife_ite {c : Prop} [Decidable c] {s t : State} (h : t.life = s.life) :
    LeavesLife s (.next (if c then t else s)) := leavesLife_next (life_ite h)

/-- R185, R186: a command keeps a sound life and changes the station state only at a transition of its own. -/
def MovesLife (c : Instr) (s t : State) : Prop :=
  LifeSound s.life → LifeSound t.life ∧ (t.life.state ≠ s.life.state → Transition c s.life.state t.life.state)

/-- A command that leaves the life alone moves it nowhere. -/
theorem movesLife_of_eq {c : Instr} {s t : State} (h : t.life = s.life) : MovesLife c s t := by
  intro sound
  rw [h]
  exact ⟨sound, fun moved => absurd rfl moved⟩

/-- A command that changes the state alone keeps a sound life between two states with a configuration. -/
theorem movesLife_state {c : Instr} {s t : State} {a : StationState} (h : t.life = { s.life with state := a })
    (before : s.life.state ≠ .unconfigured) (after : a ≠ .unconfigured) (move : Transition c s.life.state a) :
    MovesLife c s t := by
  rintro ⟨config, hold⟩
  rw [h]
  have held : s.life.config ≠ none := mt config.mpr before
  exact ⟨⟨⟨fun none => absurd none after, fun none => absurd none held⟩, hold⟩, fun _ => move⟩

/-! ## The supervisory port -/

section Port

variable {s : State}

/-- R172, R186: a frame ends with nothing done to the life when what it carries does nothing to it. -/
theorem life_frameEnds {act : State → State} (h : (act s).life = s.life) : (frameEnds act s).life = s.life := by
  unfold frameEnds
  split_ifs
  · rfl
  · rfl
  · exact h

/-- R173, R186: a host's command leaves the life as it was, or as the effect of its ruling does. -/
theorem life_supervise_cases (code : Byte) (accepted : Bool) (count : Nat) (params : List Byte) (rule : State → Ruling)
    (s : State) : (supervise code accepted count params rule s).life = s.life
      ∨ (accepted = true ∧ ∃ data after, rule s = .done data after
        ∧ (supervise code accepted count params rule s).life = after.life) := by
  obtain ⟨u, f, eq, rfl | ⟨accepts, data, ruling⟩⟩ := supervise_cases code accepted count params rule s
  · exact .inl (by rw [eq]; rfl)
  · exact .inr ⟨accepts, data, u, ruling, by rw [eq]; rfl⟩

/-- R173: a host's command whose ruling leaves the life alone leaves it alone. -/
theorem life_supervise {code : Byte} {accepted : Bool} {count : Nat} {params : List Byte} {rule : State → Ruling}
    (h : ∀ data after, rule s = .done data after → after.life = s.life) :
    (supervise code accepted count params rule s).life = s.life := by
  rcases life_supervise_cases code accepted count params rule s with same | ⟨-, data, after, ruling, eq⟩
  · exact same
  · exact eq.trans (h data after ruling)

/-- R173, R185: a host's command whose ruling moves the life by its transition. -/
theorem movesLife_supervise {c : Instr} {code : Byte} {accepted : Bool} {count : Nat} {params : List Byte}
    {rule : State → Ruling} (h : accepted = true → ∀ data after, rule s = .done data after → MovesLife c s after) :
    MovesLife c s (supervise code accepted count params rule s) := by
  rcases life_supervise_cases code accepted count params rule s with same | ⟨accepts, data, after, ruling, eq⟩
  · exact movesLife_of_eq same
  · simpa only [MovesLife, eq] using h accepts data after ruling

variable {p data : List Byte} {after : State}

theorem life_rulePlan (ruling : rulePlan p s = .done data after) : after.life = s.life := by
  unfold rulePlan at ruling
  split at ruling
  · obtain ⟨-, rfl⟩ := Ruling.done.inj ruling
    rfl
  · simp at ruling

theorem life_ruleRange (ruling : ruleRange p s = .done data after) : after.life = s.life := by
  unfold ruleRange at ruling
  split at ruling
  · obtain ⟨-, rfl⟩ := Ruling.done.inj ruling
    rfl
  · simp at ruling

theorem life_ruleSubscriber (ruling : ruleSubscriber p s = .done data after) : after.life = s.life := by
  unfold ruleSubscriber at ruling
  split at ruling
  · simp at ruling
  · split at ruling
    · obtain ⟨-, rfl⟩ := Ruling.done.inj ruling
      rfl
    · split_ifs at ruling
      obtain ⟨-, rfl⟩ := Ruling.done.inj ruling
      rfl

theorem life_ruleState (ruling : ruleState p s = .done data after) : after.life = s.life := by
  unfold ruleState at ruling
  dsimp only at ruling
  split at ruling
  · split_ifs at ruling
    obtain ⟨-, rfl⟩ := Ruling.done.inj ruling
    rfl
  · simp at ruling

theorem life_ruleTake (ruling : ruleTake p s = .done data after) : after.life = s.life := by
  unfold ruleTake at ruling
  dsimp only at ruling
  split_ifs at ruling
  obtain ⟨-, rfl⟩ := Ruling.done.inj ruling
  rfl

theorem life_ruleClose (ruling : ruleClose s = .done data after) : after.life = s.life := by
  unfold ruleClose at ruling
  split at ruling
  · simp at ruling
  · obtain ⟨-, rfl⟩ := Ruling.done.inj ruling
    rfl

theorem life_ruleClear (ruling : ruleClear p s = .done data after) : after.life = s.life := by
  unfold ruleClear at ruling
  dsimp only at ruling
  split_ifs at ruling
  obtain ⟨-, rfl⟩ := Ruling.done.inj ruling
  rfl

end Port

/-! ## The transitions by a host's command (R185) -/

section Transitions

variable {s : State}

theorem movesLife_execLoadConfig {p : List Byte} {t : State} (h : execLoadConfig p s = .next t) :
    MovesLife (.loadConfig p) s t := by
  obtain rfl := Host.Outcome.next.inj h
  refine movesLife_supervise fun may data after ruling => ?_
  split at ruling
  · next c record =>
    obtain ⟨-, rfl⟩ := Ruling.done.inj ruling
    rintro ⟨-, hold⟩
    refine ⟨⟨by simp [loadConfig], hold⟩, fun moved => ?_⟩
    have state : s.life.state = .unconfigured := by
      have : s.life.state = .unconfigured ∨ s.life.state = .configured := by simpa [loadable] using may
      exact this.resolve_right fun configured => moved configured.symm
    rw [state]
    exact .configured p
  · simp at ruling

theorem movesLife_execJoin {p : List Byte} {t : State} (h : execJoin p s = .next t) : MovesLife (.join p) s t := by
  obtain rfl := Host.Outcome.next.inj h
  refine movesLife_supervise fun may data after ruling => ?_
  obtain ⟨-, rfl⟩ := Ruling.done.inj ruling
  have state : s.life.state = .configured := by simpa using may
  exact movesLife_state rfl (by simp [state]) (by simp) (state ▸ .join p)

/-- R168: LEAVING is entered, and the life is not changed beyond that. -/
theorem life_startLeaving (s : State) : (startLeaving s).life = { s.life with state := .leaving } := by
  unfold startLeaving
  dsimp only
  split_ifs <;> simp

theorem movesLife_execLeave {p : List Byte} {t : State} (h : execLeave p s = .next t) : MovesLife (.leave p) s t := by
  obtain rfl := Host.Outcome.next.inj h
  refine movesLife_supervise fun may data after ruling => ?_
  obtain ⟨-, rfl⟩ := Ruling.done.inj ruling
  have state : s.life.state = .onBus := by simpa using may
  exact movesLife_state (life_startLeaving s) (by simp [state]) (by simp) (state ▸ .leave p)

/-- R187: a warm reset of a station with a sound life leaves the state UNCONFIGURED or makes it CONFIGURED. -/
theorem stateAfterReset_of_sound {l : Life} (h : LifeSound l) :
    stateAfterReset l = if l.state = .unconfigured then .unconfigured else .configured := by
  rw [stateAfterReset_eq]
  simp only [h.1]

theorem movesLife_execRestart {p : List Byte} {t : State} (h : execRestart p s = .next t) :
    MovesLife (.restart p) s t := by
  obtain rfl := Host.Outcome.next.inj h
  refine movesLife_supervise fun may data after ruling sound => ?_
  obtain ⟨-, rfl⟩ := Ruling.done.inj ruling
  have state : s.life.state ≠ .unconfigured := by simpa [configured] using may
  have after : (warmReset .command s).life.state = .configured := by
    simp [warmReset, stateAfterReset_of_sound sound, state]
  refine ⟨⟨?_, sound.2⟩, fun _ => after ▸ .restart p _ state⟩
  rw [after]
  exact ⟨by simp, fun none => absurd (sound.1.mpr none) state⟩

/-! ## The transitions by RESET_N and by power (R186 to R188) -/

/-- R185, R186: samples of RESET_N keep a sound life, and a warm reset among them leads from every state but UNCONFIGURED
to CONFIGURED. -/
def PinMoves (s t : State) : Prop :=
  LifeSound s.life → LifeSound t.life
    ∧ (t.life.state = s.life.state ∨ (s.life.state ≠ .unconfigured ∧ t.life.state = .configured))

theorem PinMoves.refl (s : State) : PinMoves s s := fun sound => ⟨sound, .inl rfl⟩

theorem PinMoves.trans {s t u : State} (first : PinMoves s t) (second : PinMoves t u) : PinMoves s u := by
  intro sound
  obtain ⟨middle, moved⟩ := first sound
  obtain ⟨last, again⟩ := second middle
  refine ⟨last, ?_⟩
  rcases again with same | ⟨joined, configured⟩
  · rwa [same]
  · rcases moved with same | ⟨before, -⟩
    · exact .inr ⟨same ▸ joined, configured⟩
    · exact .inr ⟨before, configured⟩

/-- R186: a sample that is only taken. -/
theorem pinMoves_takeSample (high : Bool) (s : State) : PinMoves s (takeSample high s) := fun sound => ⟨sound, .inl rfl⟩

/-- R186: a high level ends the hold. -/
theorem pinMoves_recogniseHigh (s : State) : PinMoves s (recogniseHigh s) := fun sound =>
  ⟨⟨sound.1, fun _ level => by cases level; rfl⟩, .inl rfl⟩

/-- R186, R187: a low level holds the station, with a warm reset or without. -/
theorem pinMoves_recogniseLow (s : State) : PinMoves s (recogniseLow s) := by
  intro sound
  have life : (recogniseLow s).life = { (pinReset s).life with recognised := some false, held := true } := rfl
  have config : (pinReset s).life.config = s.life.config := by
    unfold pinReset
    split <;> rfl
  have state : (pinReset s).life.state = s.life.state
      ∨ (s.life.state ≠ .unconfigured ∧ (pinReset s).life.state = .configured) := by
    by_cases high : s.life.recognised = some true
    · have reset : (pinReset s).life.state = stateAfterReset s.life := by rw [pinReset_of_high high]; rfl
      by_cases unconfigured : s.life.state = .unconfigured
      · exact .inl (by simp [reset, stateAfterReset_of_sound sound, unconfigured])
      · exact .inr ⟨unconfigured, by simp [reset, stateAfterReset_of_sound sound, unconfigured]⟩
    · exact .inl (by rw [pinReset_of_not_high high])
  rw [life]
  refine ⟨⟨?_, fun _ level => by cases level; rfl⟩, state⟩
  change (pinReset s).life.state = .unconfigured ↔ (pinReset s).life.config = none
  rw [config, ← sound.1]
  rcases state with same | ⟨before, after⟩
  · rw [same]
  · simp [before, after]

theorem pinMoves_sampleReset (s : State) (high : Bool) : PinMoves s (sampleReset s high) := by
  unfold sampleReset
  dsimp only
  split_ifs
  · exact (pinMoves_takeSample _ s).trans (pinMoves_recogniseHigh _)
  · exact (pinMoves_takeSample _ s).trans (pinMoves_recogniseLow _)
  · exact pinMoves_takeSample _ s

/-- R186: the samples of a level in turn. -/
theorem pinMoves_foldl (samples : List Bool) (s : State) : PinMoves s (samples.foldl sampleReset s) := by
  induction samples generalizing s with
  | nil => exact .refl s
  | cons high rest ih => exact (pinMoves_sampleReset s high).trans (ih _)

theorem pinMoves_levelComes (high : Bool) (s : State) : PinMoves s (levelComes high s) :=
  fun sound => pinMoves_foldl (samplesToCome high s) (s.mapPins fun p => { p with resetN := high }) sound

theorem movesLife_resetNFall (s : State) : MovesLife .resetNFall s (levelComes false s) := by
  intro sound
  obtain ⟨after, same | ⟨before, configured⟩⟩ := pinMoves_levelComes false s sound
  · exact ⟨after, fun moved => absurd same moved⟩
  · exact ⟨after, fun _ => configured ▸ .pin _ before⟩

/-- R186: high samples change no state. -/
theorem state_sampleReset_high (s : State) : (sampleReset s true).life.state = s.life.state := by
  cases second : recognises true s with
  | false => rw [sampleReset_steady second]; rfl
  | true => rw [sampleReset_high second]; rfl

/-- R186: RESET_N coming to the high level changes no state. -/
theorem state_levelComes_high (s : State) : (levelComes true s).life.state = s.life.state := by
  obtain ⟨n, -, samples⟩ := samplesToCome_eq true s
  unfold levelComes
  rw [samples]
  generalize pinned : s.mapPins (fun p => { p with resetN := true }) = t
  have start : t.life.state = s.life.state := by rw [← pinned]; rfl
  rw [← start]
  clear samples start pinned
  induction n generalizing t with
  | zero => rfl
  | succ n ih => exact (ih (sampleReset t true)).trans (state_sampleReset_high t)

theorem movesLife_resetNRise (s : State) : MovesLife .resetNRise s (levelComes true s) := fun sound =>
  ⟨(pinMoves_levelComes true s sound).1, fun moved => absurd (state_levelComes_high s) moved⟩

theorem movesLife_execPowerOn {low : Bool} {t : State} (h : execPowerOn low s = .next t) :
    MovesLife (.powerOn low) s t := by
  obtain rfl := Host.Outcome.next.inj h
  exact fun _ => ⟨⟨⟨fun _ => rfl, fun _ => rfl⟩, fun _ level => by cases level⟩, fun _ => .powerOn low _⟩

/-! ## The transitions by a PRESENCE sent whole (R167, R168) -/

@[simp] theorem life_enterOnBus (s : State) : (enterOnBus s).life = { s.life with state := .onBus } := rfl

@[simp] theorem life_endAnyCycle (s : State) : (endAnyCycle s).life = s.life := by
  unfold endAnyCycle
  split <;> simp

@[simp] theorem life_enterConfigured (s : State) : (enterConfigured s).life = { s.life with state := .configured } := by
  simp [enterConfigured, ignoreReports]

theorem movesLife_presenceWhole (f : Frame) (removed : Bool) (s : State) :
    MovesLife .frameSent s (presenceWhole f removed s) := by
  unfold presenceWhole
  dsimp only
  split
  · split_ifs with _ fresh leaving
    · exact movesLife_of_eq rfl
    · exact movesLife_state (life_enterOnBus _) (by simp [fresh.2]) (by simp) (fresh.2 ▸ .onBus)
    · exact movesLife_state (life_enterConfigured _) (by simp [leaving.2]) (by simp) (leaving.2 ▸ .left)
    · exact movesLife_of_eq rfl
  · exact movesLife_of_eq rfl

theorem movesLife_requestSent (f : Frame) (removed : Bool) (s : State) :
    MovesLife .frameSent s (requestSent f removed s) := by
  unfold requestSent
  generalize left : countSent (s.mapBus fun b => { b with tx := .idle, requests := b.requests.tail }) = t
  have same : t.life = s.life := by rw [← left]; rfl
  dsimp only
  split_ifs
  · simpa only [MovesLife, life_refill, same] using movesLife_presenceWhole f removed t
  · exact movesLife_of_eq same
  · exact movesLife_of_eq same

theorem movesLife_execFrameSent {t : State} (h : execFrameSent s = .next t) : MovesLife .frameSent s t := by
  obtain rfl := Host.Outcome.next.inj h
  split_ifs
  · exact movesLife_of_eq rfl
  · split
    · exact movesLife_of_eq rfl
    · exact movesLife_requestSent _ _ s
    · exact movesLife_of_eq rfl

end Transitions

end Sys2Proof.Machine
end

section
/-! The commands that leave the station's life alone, and the station state at every step (O58). -/

namespace Sys2Proof.Machine

theorem LeavesLife.moves {c : Instr} {s t : State} {o : Host.Outcome State Fault Refusal} (h : LeavesLife s o)
    (answer : o = .next t) : MovesLife c s t := by
  obtain ⟨u, rfl, same⟩ := h
  obtain rfl := Host.Outcome.next.inj answer
  exact movesLife_of_eq same

variable {s : State}

/-! ## The supervisory port and the period close -/

theorem leavesLife_execFrameStart : LeavesLife s (execFrameStart s) := by
  refine leavesLife_next ?_
  split <;> rfl

theorem leavesLife_execTransferFaultFrame {bits : List Bool} : LeavesLife s (execTransferFaultFrame bits s) := by
  refine leavesLife_next ?_
  split
  · exact life_frameEnds rfl
  · rfl

theorem leavesLife_execUnknownCommand {code : Byte} {p : List Byte} : LeavesLife s (execUnknownCommand code p s) := by
  refine leavesLife_next ?_
  split
  · rfl
  · exact life_frameEnds rfl

theorem leavesLife_execPoll {p : List Byte} : LeavesLife s (execPoll p s) :=
  leavesLife_next <| life_supervise fun _ _ ruling => by rw [← (Ruling.done.inj ruling).2]

theorem leavesLife_execLoadPlan {p : List Byte} : LeavesLife s (execLoadPlan p s) :=
  leavesLife_next <| life_supervise (rule := rulePlan p) fun _ _ => life_rulePlan

theorem leavesLife_execLoadRange {p : List Byte} : LeavesLife s (execLoadRange p s) :=
  leavesLife_next <| life_supervise fun _ _ => life_ruleRange

theorem leavesLife_execLoadSubscriber {p : List Byte} : LeavesLife s (execLoadSubscriber p s) :=
  leavesLife_next <| life_supervise fun _ _ => life_ruleSubscriber

theorem leavesLife_execSetState {p : List Byte} : LeavesLife s (execSetState p s) :=
  leavesLife_next <| life_supervise fun _ _ => life_ruleState

theorem leavesLife_execReadSubscriber {p : List Byte} : LeavesLife s (execReadSubscriber p s) :=
  leavesLife_next <| life_supervise fun _ _ ruling => by rw [eq_of_ruleRead ruling]

theorem leavesLife_execTakeRecords {p : List Byte} : LeavesLife s (execTakeRecords p s) :=
  leavesLife_next <| life_supervise fun _ _ => life_ruleTake

theorem leavesLife_execClosePeriod {p : List Byte} : LeavesLife s (execClosePeriod p s) :=
  leavesLife_next <| life_supervise fun _ _ => life_ruleClose

theorem leavesLife_execReadCounts {p : List Byte} {seen : LineSeen} : LeavesLife s (execReadCounts p seen s) :=
  leavesLife_next <| (life_supervise fun _ _ ruling => by rw [eq_of_ruleCounts ruling]).trans (life_atReading seen s)

theorem leavesLife_execClearFaults {p : List Byte} : LeavesLife s (execClearFaults p s) :=
  leavesLife_next <| life_supervise fun _ _ => life_ruleClear

theorem leavesLife_execPeriodCloseStep {offpeak : Bool} : LeavesLife s (execPeriodCloseStep offpeak s) := by
  refine leavesLife_next ?_
  split
  · rfl
  · exact life_ite (by simp)

/-! ## The intake lines -/

variable {k : Fin 8}

theorem leavesLife_execSeizeRecognised : LeavesLife s (execSeizeRecognised k s) := leavesLife_ite (by simp)

theorem leavesLife_execReleaseRecognised : LeavesLife s (execReleaseRecognised k s) := leavesLife_ite (by simp)

theorem leavesLife_execSeizeSample {high : Bool} : LeavesLife s (execSeizeSample k high s) := by
  refine leavesLife_next ?_
  split_ifs <;> simp

theorem leavesLife_execCalibrationFirstEdge : LeavesLife s (execCalibrationFirstEdge k s) := leavesLife_ite (by simp)

theorem leavesLife_execRateChosen {micros : Nat} : LeavesLife s (execRateChosen k micros s) := leavesLife_ite (by simp)

theorem leavesLife_execMeasurementOverflow : LeavesLife s (execMeasurementOverflow k s) := leavesLife_ite (by simp)

theorem leavesLife_execCalibrationTimeout : LeavesLife s (execCalibrationTimeout k s) := leavesLife_ite (by simp)

theorem leavesLife_execCharacterReceived {offpeak : Bool} {char : Byte} {framing : Bool} :
    LeavesLife s (execCharacterReceived offpeak k char framing s) := leavesLife_ite (by simp)

theorem leavesLife_execEntryTimeout : LeavesLife s (execEntryTimeout k s) := leavesLife_ite (by simp)

theorem leavesLife_execVerdictTransmission : LeavesLife s (execVerdictTransmission k s) := leavesLife_ite (by simp)

/-! ## Frames taken from the bus -/

variable {offpeak : Bool} {chars : List BusChar}

theorem leavesLife_execForward : LeavesLife s (execForward offpeak chars s) :=
  leavesLife_next <| life_memberFrame _ chars _ life_takeForward _

theorem leavesLife_execCancel : LeavesLife s (execCancel offpeak chars s) :=
  leavesLife_next <| life_memberFrame _ chars _ life_takeCancel _

theorem leavesLife_execAirRequest : LeavesLife s (execAirRequest chars s) :=
  leavesLife_next <| life_memberFrame _ chars _ life_takeAirRequest _

theorem leavesLife_execWithdraw : LeavesLife s (execWithdraw chars s) :=
  leavesLife_next <| life_memberFrame _ chars _ life_takeWithdraw _

theorem leavesLife_execAired : LeavesLife s (execAired offpeak chars s) :=
  leavesLife_next <| life_memberFrame _ chars _
    (fun f tags => foldl_keeps State.life _ (life_takeAired f.src.toNat) tags) _

theorem leavesLife_execHeard : LeavesLife s (execHeard offpeak chars s) :=
  leavesLife_next <| life_memberFrame _ chars _ (fun _ => life_takeHeard) _

theorem leavesLife_execTaken : LeavesLife s (execTaken chars s) :=
  leavesLife_next <| life_replyFrame _ chars _ _ life_takeTaken _

theorem leavesLife_execCancelAnswer : LeavesLife s (execCancelAnswer chars s) :=
  leavesLife_next <| life_replyFrame _ chars (fun f => readByte f.payload) .cancel
    (act := fun code e u => mapIntakeCounts (countCancel (cancelCodeOf code)) (freeEntry e.key u)) (by simp) s

theorem leavesLife_execAirAnswer : LeavesLife s (execAirAnswer offpeak chars s) :=
  leavesLife_next <| life_replyFrame _ chars _ _ life_takeAirAnswer _

theorem leavesLife_execWithdrawn : LeavesLife s (execWithdrawn offpeak chars s) :=
  leavesLife_next <| life_replyFrame _ chars _ _ (fun _ => life_takeWithdrawn) _

theorem leavesLife_execPresence : LeavesLife s (execPresence offpeak chars s) := by
  refine leavesLife_next <| life_takeFrame _ chars (fun f u => ?_) _
  split
  · simp
  · rfl

theorem leavesLife_execBadKindFrame {kind : Byte} : LeavesLife s (execBadKindFrame kind chars s) :=
  leavesLife_next <| life_takeFrame _ chars (fun _ => life_mapExchangeCounts _) s

theorem leavesLife_execFrameDroppedBySource {src : Byte} : LeavesLife s (execFrameDroppedBySource src chars s) := by
  refine leavesLife_next ?_
  split
  · next complete => exact life_ite ((life_dropFrame _ _).trans (life_listen complete))
  · rfl

theorem leavesLife_execFrameDiscard : LeavesLife s (execFrameDiscard chars s) := by
  refine leavesLife_next ?_
  split
  · next t causes discarded =>
    split
    · rfl
    · exact (life_countDiscards causes t).trans (life_listen discarded)
  · rfl

/-! ## The bus line and its transmitter -/

theorem leavesLife_execBreakHeard {bits : Nat} : LeavesLife s (execBreakHeard bits s) := by
  refine leavesLife_ite ?_
  split <;> simp

theorem leavesLife_execShortBreak {bits : Nat} : LeavesLife s (execShortBreak bits s) := leavesLife_ite (by simp)

theorem leavesLife_execStuckLine : LeavesLife s (execStuckLine s) := leavesLife_ite (by simp)

theorem leavesLife_execStoppedConditionEnd {quiet : Nat} : LeavesLife s (execStoppedConditionEnd quiet s) :=
  leavesLife_ite rfl

theorem leavesLife_execBreakStart {gap : Nat} : LeavesLife s (execBreakStart gap s) :=
  leavesLife_ite (by simp [driveBreak])

theorem leavesLife_execTransmissionStart {gap : Nat} : LeavesLife s (execTransmissionStart gap s) := by
  refine leavesLife_ite ?_
  split
  · exact life_ite (life_setTx _ s)
  · exact life_ite (life_setTx _ s)
  · rfl

theorem leavesLife_execLostArbitration {txFault : Bool} : LeavesLife s (execLostArbitration txFault s) :=
  leavesLife_ite (by simp)

/-! ## The Page Store, its timers and the outstanding table -/

variable {slot : Fin 256}

theorem leavesLife_execIssue : LeavesLife s (execIssue offpeak s) := by
  refine leavesLife_next ?_
  split <;> simp

theorem leavesLife_execLifetimeExpiry : LeavesLife s (execLifetimeExpiry offpeak slot s) := by
  refine leavesLife_next ?_
  split
  · rfl
  · exact life_ite (by simp)

theorem leavesLife_execAckWaitExpiry : LeavesLife s (execAckWaitExpiry offpeak slot s) := by
  refine leavesLife_next ?_
  split
  · rfl
  · exact life_ite (by simp)

theorem leavesLife_execReplyTimeout {key : EntryKey} : LeavesLife s (execReplyTimeout offpeak key s) := by
  refine leavesLife_next ?_
  split
  · rfl
  · exact life_ite (by simp)

theorem leavesLife_execRetryRelease : LeavesLife s (execRetryRelease s) :=
  leavesLife_ite (foldl_keeps State.life _ life_releaseRetry _ s)

/-! ## The Air Scheduler -/

theorem leavesLife_execFreeCycleStart : LeavesLife s (execFreeCycleStart s) := leavesLife_next (by simp)

theorem leavesLife_execCycleTimerExpiry : LeavesLife s (execCycleTimerExpiry s) := by
  refine leavesLife_ite ?_
  unfold cycleTimerEffect
  split_ifs <;> simp

theorem leavesLife_execSlotStart {ready : Bool} : LeavesLife s (execSlotStart ready s) := by
  refine leavesLife_next ?_
  split <;> rfl

theorem leavesLife_execCellHanded : LeavesLife s (execCellHanded s) := by
  refine leavesLife_next ?_
  split
  · rfl
  · split
    · rfl
    · exact life_ite rfl

theorem leavesLife_execCycleEnd : LeavesLife s (execCycleEnd offpeak s) := by
  refine leavesLife_next ?_
  split
  · rfl
  · exact life_ite (by simp)

/-! ## The reverse port and the Matcher -/

variable {char : Byte} {framing : Bool}

theorem leavesLife_execReverseReport : LeavesLife s (execReverseReport char framing s) := by
  refine leavesLife_next ?_
  split
  · rfl
  · split
    · exact life_ite rfl
    · rfl

theorem leavesLife_execShortReport : LeavesLife s (execShortReport s) := by
  refine leavesLife_next ?_
  split
  · rfl
  · split <;> rfl

theorem leavesLife_execExtraReportCharacter : LeavesLife s (execExtraReportCharacter s) := by
  refine leavesLife_next ?_
  split
  · rfl
  · split <;> rfl

theorem leavesLife_execReportCharacterReceived : LeavesLife s (execReportCharacterReceived char framing s) := by
  refine leavesLife_next ?_
  split
  · rfl
  · split
    · exact life_ite rfl
    · rfl

theorem leavesLife_execMatcherTakeHead : LeavesLife s (execMatcherTakeHead offpeak s) := by
  refine leavesLife_next ?_
  split
  · rfl
  · split <;> simp

/-! ## Presence, joining and leaving -/

theorem leavesLife_execPresenceTimeout {peer : Nat} : LeavesLife s (execPresenceTimeout peer s) :=
  leavesLife_ite (by simp)

theorem leavesLife_execPresenceInterval : LeavesLife s (execPresenceInterval s) := by
  refine leavesLife_ite ?_
  dsimp only
  split <;> simp

theorem leavesLife_execListenTimer : LeavesLife s (execListenTimer s) := leavesLife_ite (by simp)

theorem leavesLife_execDrain : LeavesLife s (execDrain s) := leavesLife_ite (by simp)

/-! ## Every command -/

/-- R185, R186: every command moves the station's life by its own transition, or leaves it alone. -/
theorem movesLife_exec {c : Instr} {t : State} (h : exec c s = .next t) : MovesLife c s t := by
  cases c with
  | powerOn => exact movesLife_execPowerOn h
  | resetNFall => exact Host.Outcome.next.inj h ▸ movesLife_resetNFall s
  | resetNRise => exact Host.Outcome.next.inj h ▸ movesLife_resetNRise s
  | loadConfig => exact movesLife_execLoadConfig h
  | join => exact movesLife_execJoin h
  | leave => exact movesLife_execLeave h
  | restart => exact movesLife_execRestart h
  | frameSent => exact movesLife_execFrameSent h
  | frameStart => exact leavesLife_execFrameStart.moves h
  | transferFaultFrame => exact leavesLife_execTransferFaultFrame.moves h
  | unknownCommand _ p => exact (leavesLife_execUnknownCommand (p := p)).moves h
  | poll => exact leavesLife_execPoll.moves h
  | loadPlan => exact leavesLife_execLoadPlan.moves h
  | loadRange => exact leavesLife_execLoadRange.moves h
  | loadSubscriber => exact leavesLife_execLoadSubscriber.moves h
  | setState => exact leavesLife_execSetState.moves h
  | readSubscriber => exact leavesLife_execReadSubscriber.moves h
  | takeRecords => exact leavesLife_execTakeRecords.moves h
  | closePeriod => exact leavesLife_execClosePeriod.moves h
  | readCounts => exact leavesLife_execReadCounts.moves h
  | clearFaults => exact leavesLife_execClearFaults.moves h
  | seizeRecognised => exact leavesLife_execSeizeRecognised.moves h
  | releaseRecognised => exact leavesLife_execReleaseRecognised.moves h
  | rateChosen => exact leavesLife_execRateChosen.moves h
  | measurementOverflow => exact leavesLife_execMeasurementOverflow.moves h
  | calibrationTimeout => exact leavesLife_execCalibrationTimeout.moves h
  | characterReceived => exact leavesLife_execCharacterReceived.moves h
  | entryTimeout => exact leavesLife_execEntryTimeout.moves h
  | verdictTransmission => exact leavesLife_execVerdictTransmission.moves h
  | forward => exact leavesLife_execForward.moves h
  | cancel => exact leavesLife_execCancel.moves h
  | airRequest => exact leavesLife_execAirRequest.moves h
  | withdraw => exact leavesLife_execWithdraw.moves h
  | aired => exact leavesLife_execAired.moves h
  | heard => exact leavesLife_execHeard.moves h
  | taken => exact leavesLife_execTaken.moves h
  | cancelAnswer => exact leavesLife_execCancelAnswer.moves h
  | airAnswer => exact leavesLife_execAirAnswer.moves h
  | withdrawn => exact leavesLife_execWithdrawn.moves h
  | presence => exact leavesLife_execPresence.moves h
  | badKindFrame => exact leavesLife_execBadKindFrame.moves h
  | frameDroppedBySource => exact leavesLife_execFrameDroppedBySource.moves h
  | frameDiscard => exact leavesLife_execFrameDiscard.moves h
  | breakHeard => exact leavesLife_execBreakHeard.moves h
  | shortBreak => exact leavesLife_execShortBreak.moves h
  | stuckLine => exact leavesLife_execStuckLine.moves h
  | stoppedConditionEnd => exact leavesLife_execStoppedConditionEnd.moves h
  | breakStart => exact leavesLife_execBreakStart.moves h
  | transmissionStart => exact leavesLife_execTransmissionStart.moves h
  | lostArbitration => exact leavesLife_execLostArbitration.moves h
  | issue => exact leavesLife_execIssue.moves h
  | lifetimeExpiry => exact leavesLife_execLifetimeExpiry.moves h
  | ackWaitExpiry => exact leavesLife_execAckWaitExpiry.moves h
  | replyTimeout => exact leavesLife_execReplyTimeout.moves h
  | retryRelease => exact leavesLife_execRetryRelease.moves h
  | freeCycleStart => exact leavesLife_execFreeCycleStart.moves h
  | cycleTimerExpiry => exact leavesLife_execCycleTimerExpiry.moves h
  | slotStart => exact leavesLife_execSlotStart.moves h
  | cellHanded => exact leavesLife_execCellHanded.moves h
  | cycleEnd => exact leavesLife_execCycleEnd.moves h
  | reverseReport => exact leavesLife_execReverseReport.moves h
  | shortReport => exact leavesLife_execShortReport.moves h
  | extraReportCharacter => exact leavesLife_execExtraReportCharacter.moves h
  | matcherTakeHead => exact leavesLife_execMatcherTakeHead.moves h
  | presenceTimeout => exact leavesLife_execPresenceTimeout.moves h
  | presenceInterval => exact leavesLife_execPresenceInterval.moves h
  | listenTimer => exact leavesLife_execListenTimer.moves h
  | drain => exact leavesLife_execDrain.moves h
  | periodCloseStep => exact leavesLife_execPeriodCloseStep.moves h
  | seizeSample => exact leavesLife_execSeizeSample.moves h
  | calibrationFirstEdge => exact leavesLife_execCalibrationFirstEdge.moves h
  | reportCharacterReceived => exact leavesLife_execReportCharacterReceived.moves h

/-- R186: a tick keeps a sound life. -/
theorem lifeSound_passTick (sound : LifeSound s.life) : LifeSound (passTick s).life :=
  (pinMoves_sampleReset (countTick s) s.pins.resetN sound).1

/-- Settles O58: a command by the transition it makes, a step by its command or its tick. -/
theorem stateChangesOnlyAtTransitions : Obligations.StateChangesOnlyAtTransitions := by
  refine ⟨fun c s t sound answer => movesLife_exec answer sound, fun s t sound stepped => ?_⟩
  cases waiting : s.pending with
  | nil =>
    rw [step_of_nil waiting] at stepped
    exact Host.Outcome.next.inj stepped ▸ lifeSound_passTick sound
  | cons c rest =>
    rw [step_of_cons waiting] at stepped
    exact (movesLife_exec stepped sound).1

end Sys2Proof.Machine
end

section
/-! The host's commands as the supervisory port finds them (R172, R173, R178): the refused, ill-formed and unknown ones
(O6), and CLEAR-FAULTS (O15). -/

namespace Sys2Proof.Machine

/-! ## The bus as READ-COUNTS finds it -/

section Reading

variable {heard : List BusChar} {s t : State} {e : RxEvent}

/-- R140: characters heard change the frame under reception and the run, and nothing else. -/
theorem listen_bus (h : listen heard s = some (t, e)) :
    t = { s with bus := { s.bus with rx := t.bus.rx, run := t.bus.run } } := by
  induction heard generalizing s with
  | nil =>
    obtain ⟨rfl, -⟩ := Prod.mk.inj (Option.some.inj h)
    rfl
  | cons c rest ih =>
    have one := hearChar_state c s
    have change : (hearChar c s).1 = { s with bus := { s.bus with
        rx := (hearChar c s).1.bus.rx, run := (hearChar c s).1.bus.run } } := by
      rw [one]
      split <;> rfl
    unfold listen at h
    split_ifs at h
    · rw [← (Prod.mk.inj (Option.some.inj h)).1]
      exact change
    · have last := ih h
      rw [change] at last
      exact last

/-- R136, R150: a station whose receiver takes no characters is left as it is. -/
theorem listen_deaf (deaf : receives s = false) (h : listen heard s = some (t, e)) : t = s := by
  induction heard with
  | nil => exact (Prod.mk.inj (Option.some.inj h)).1.symm
  | cons c rest ih =>
    have same : (hearChar c s).1 = s := by rw [hearChar_state, deaf]; rfl
    unfold listen at h
    split_ifs at h
    · rw [← same, Option.some.inj h]
    · rw [same] at h
      exact ih h

/-- R137, R154: what has been heard by a READ-COUNTS changes the frame under reception, the run and BUS_TX alone. -/
theorem atReading_bus (seen : LineSeen) (s : State) : atReading seen s = { s with bus := { s.bus with
    rx := (atReading seen s).bus.rx, run := (atReading seen s).bus.run, tx := (atReading seen s).bus.tx } } := by
  have on : listenOn seen.heard s = { s with bus := { s.bus with
      rx := (listenOn seen.heard s).bus.rx, run := (listenOn seen.heard s).bus.run } } := by
    unfold listenOn
    split
    · next quiet => exact listen_bus quiet
    · rfl
  unfold atReading
  rw [on]
  unfold measureRun
  split <;> rfl

/-- R186: a station that is held has heard nothing. -/
theorem atReading_held (held : s.life.held = true) (seen : LineSeen) : atReading seen s = s := by
  have still : running s = false := by simp [running, held]
  have on : listenOn seen.heard s = s := by
    unfold listenOn
    split
    · next quiet => exact listen_deaf (by simp [receives, still]) quiet
    · rfl
  rw [atReading, on]
  simp [measureRun, still]

@[simp] theorem port_atReading (seen : LineSeen) (s : State) : (atReading seen s).port = s.port := by
  rw [atReading_bus]

/-- R137: what the bus has brought leaves the port and the station's life alone. -/
theorem foundBy_keeps (c : Instr) (s : State) : (foundBy c s).port = s.port ∧ (foundBy c s).life = s.life := by
  cases c with
  | readCounts _ seen => exact ⟨port_atReading seen s, life_atReading seen s⟩
  | _ => exact ⟨rfl, rfl⟩

theorem portActs_foundBy (c : Instr) (acts : portActs s) : portActs (foundBy c s) := by
  obtain ⟨port, life⟩ := foundBy_keeps c s
  rwa [portActs, port, life]

theorem foundBy_held (c : Instr) (held : s.life.held = true) : foundBy c s = s := by
  cases c with
  | readCounts _ seen => exact atReading_held held seen
  | _ => rfl

end Reading

/-! ## A host's command -/

section Commands

variable {c : Instr} {code : Byte} {n : Nat} {p : List Byte} {s : State}

/-- R172, R178: a host's command is executed by its code, in the states that accept it and with its count of parameters. -/
theorem exec_hostCommand (command : hostCommand c = some (code, n, p)) (s : State) : ∃ rule,
    exec c s = .next (supervise code (acceptedIn code s.life.state) n p rule (foundBy c s)) := by
  cases c with
  | poll | loadConfig | loadPlan | loadRange | loadSubscriber | join | leave | restart | setState | readSubscriber
  | takeRecords | closePeriod | readCounts | clearFaults =>
    cases command
    exact ⟨_, rfl⟩
  | _ => cases command

/-- R173 check 2, R178. -/
theorem exec_refused (command : hostCommand c = some (code, n, p)) (acts : portActs s)
    (refused : acceptedIn code s.life.state = false) :
    exec c s = .next (answered (.code code) .refusedState [] (foundBy c s)) := by
  obtain ⟨rule, eq⟩ := exec_hostCommand command s
  rw [eq, supervise_eq _ _ _ _ _ _ (portActs_foundBy c acts), if_pos refused]

/-- R173 check 2: the count of parameters. -/
theorem exec_wrongCount (command : hostCommand c = some (code, n, p)) (acts : portActs s)
    (accepted : acceptedIn code s.life.state = true) (wrong : p.length ≠ n) :
    exec c s = .next (answered (.code code) .badParam [] (foundBy c s)) := by
  obtain ⟨rule, eq⟩ := exec_hostCommand command s
  rw [eq, supervise_eq _ _ _ _ _ _ (portActs_foundBy c acts), if_neg (by simp [accepted]), if_pos wrong]

/-- R173 check 1: a command byte that names no command. -/
theorem exec_unknownCommand (acts : portActs s) (unknown : 0x0E ≤ code.toNat) :
    exec (.unknownCommand code p) s = .next (answered .noCommand .badParam [] s) := by
  obtain ⟨running, frame⟩ := acts
  change execUnknownCommand code p s = _
  rw [execUnknownCommand, if_neg (Nat.not_lt.mpr unknown), frameEnds, if_neg frame, running]
  rfl

theorem exec_poll (acts : portActs s) : exec (.poll []) s = .next (answered (.code 0x00) .done [] s) :=
  congrArg Host.Outcome.next (supervise_done (rule := fun x => .done [] x) acts rfl rfl)

/-- Settles O6, by the first check that fails. -/
theorem refusedCommandChangesNothing : Obligations.RefusedCommandChangesNothing :=
  ⟨fun _ _ _ _ _ command acts => ⟨exec_refused command acts, exec_wrongCount command acts⟩,
    fun _ _ _ acts unknown => exec_unknownCommand acts unknown, fun _ acts => exec_poll acts⟩

/-! ## CLEAR-FAULTS -/

variable {b : Byte}

theorem exec_clearFaults (p : List Byte) (s : State) :
    exec (.clearFaults p) s = .next (supervise 0x0D true 1 p (ruleClear p) s) := rfl

/-- R179: the two latches, each as its bit selects. -/
theorem ruleClear_selected (low : b.toNat < 4) (s : State) : ruleClear [b] s = .done [] { s with port := { s.port with
    recordLost := s.port.recordLost && !b.getLsbD 0, busStuck := s.port.busStuck && !b.getLsbD 1 } } := if_pos low

theorem ruleClear_badParam (high : 4 ≤ b.toNat) (s : State) : ruleClear [b] s = .badParam :=
  if_neg (Nat.not_lt.mpr high)

/-- R177: ATTN_N is low exactly while a record is queued or a fault latched. -/
theorem attention_iff (s : State) : attention s = true ↔
    s.billing.queue ≠ [] ∨ s.port.recordLost = true ∨ s.port.busStuck = true := by
  simp [attention, or_assoc]

/-- Settles O15, by the ruling on the selection. -/
theorem clearFaultsClearsSelected : Obligations.ClearFaultsClearsSelected := by
  refine fun b s acts => ⟨fun low => ⟨_, ?_, rfl, ?_⟩, fun high => ?_⟩
  · rw [exec_clearFaults, supervise_done acts List.length_singleton (ruleClear_selected low s)]
    rfl
  · rw [attention_iff]
    simp
  · rw [exec_clearFaults, supervise_badParam acts List.length_singleton (ruleClear_badParam high s)]

end Commands

end Sys2Proof.Machine
end

section
/-! Power, resets and the hold of RESET_N: the power-on state (R188; O2, O55), the fall of RESET_N and RESTART (R186, R187;
O4), the rise and the frames that a hold meets (R186; O3). -/

namespace Sys2Proof.Machine

/-! ## RESET_N comes to a level that is not the recognised one -/

section Level

variable {high : Bool} {s : State}

/-- R186: the last sample at the level before the one that recognises it. -/
theorem takeSample_of_sampled (sampled : s.life.sample = some high) : takeSample high s = s := by
  have life : { s.life with sample := some high } = s.life := by rw [← sampled]
  change { s with life := { s.life with sample := some high } } = s
  rw [life]

/-- R186: the level is recognised at the last of its samples, whether one or two are still to come. -/
theorem levelComes_new (new : s.life.recognised ≠ some high) :
    levelComes high s = sampleReset (takeSample high (s.mapPins fun p => { p with resetN := high })) high := by
  unfold levelComes
  generalize pinned : s.mapPins (fun p => { p with resetN := high }) = t
  have life : t.life = s.life := by rw [← pinned]; rfl
  by_cases sampled : s.life.sample = some high
  · have samples : samplesToCome high s = [high] := by rw [samplesToCome, if_neg new, if_pos sampled]
    rw [samples, takeSample_of_sampled (life ▸ sampled)]
    rfl
  · have samples : samplesToCome high s = [high, high] := by rw [samplesToCome, if_neg new, if_neg sampled]
    have first : recognises high t = false := by simp [recognises, life, sampled]
    rw [samples, List.foldl_cons, sampleReset_steady first]
    rfl

/-- R186: the sample that follows is the second. -/
theorem recognises_takeSample (new : s.life.recognised ≠ some high) : recognises high (takeSample high s) = true :=
  (recognises_iff high _).mpr ⟨rfl, new⟩

theorem levelComes_low (new : s.life.recognised ≠ some false) :
    levelComes false s = recogniseLow (takeSample false (s.mapPins fun p => { p with resetN := false })) := by
  rw [levelComes_new new, sampleReset_low (recognises_takeSample (s := s.mapPins _) new)]
  rfl

theorem levelComes_high (new : s.life.recognised ≠ some true) :
    levelComes true s = recogniseHigh (takeSample true (s.mapPins fun p => { p with resetN := true })) := by
  rw [levelComes_new new, sampleReset_high (recognises_takeSample (s := s.mapPins _) new)]
  rfl

end Level

/-! ## The fall of RESET_N and RESTART -/

/-- R187: a warm reset after RESET_N has come to a level leaves what one before it does. -/
theorem WarmResetLeaves.of_mapPins {kind : ResetKind} {s t : State} {f : Pins → Pins}
    (h : WarmResetLeaves kind (s.mapPins f) t) : WarmResetLeaves kind s t := { h with }

/-- R186, R187: the fall after a recognised high level. -/
theorem exec_resetNFall_high {s : State} (recognised : s.life.recognised = some true) :
    ∃ t, exec .resetNFall s = .next t ∧ WarmResetLeaves .pin s t
      ∧ t.life.held = true ∧ t.life.sample = some false ∧ t.life.recognised = some false
      ∧ t.port.response = { previous := .none, result := .done, crcFault := false, lengthFault := false, data := [] }
      ∧ t.port.frame = (if s.port.frame = .closed then .closed else .ignored)
      ∧ t.pins = { s.pins with resetN := false } ∧ t.pending = s.pending := by
  have new : s.life.recognised ≠ some false := by simp [recognised]
  have sample : (levelComes false s).life.sample = some false := by rw [levelComes_new new, sample_sampleReset]
  refine ⟨levelComes false s, rfl, ?_, ?_, sample, recognised_levelComes false s, ?_⟩
  all_goals
    rw [levelComes_low new]
    generalize sampled : takeSample false (s.mapPins fun p => { p with resetN := false }) = u
    have level : u.life.recognised = some true := by rw [← sampled]; exact recognised
    obtain ⟨held, response, frame⟩ := recogniseLow_of_high level
    obtain ⟨pins, -, pending⟩ := recogniseLow_keeps u
  · have leaves := recogniseLow_leaves level
    rw [← sampled] at leaves ⊢
    exact leaves.of_takeSample.of_mapPins
  · exact held
  · rw [abandonFrame_eq] at frame
    rw [pins, pending, frame]
    subst sampled
    exact ⟨response, rfl, rfl, rfl⟩

/-- R186: the fall with no level recognised before it. -/
theorem exec_resetNFall_first {s : State} (recognised : s.life.recognised = none) : exec .resetNFall s = .next { s with
    pins := { s.pins with resetN := false },
    life := { s.life with held := true, sample := some false, recognised := some false },
    port := { s.port with frame := if s.port.frame = .closed then .closed else .ignored } } := by
  change Host.Outcome.next (levelComes false s) = _
  rw [levelComes_low (by simp [recognised]),
    recogniseLow_of_not_high (s := takeSample false (s.mapPins _)) (by simp [takeSample, recognised]), abandonFrame_eq]
  rfl

/-- R187: RESTART, where the station state accepts it. -/
theorem exec_restart {s : State} (acts : portActs s) (state : s.life.state ≠ .unconfigured) :
    exec (.restart []) s = .next (answered (.code 0x07) .done [] (warmReset .command s)) := by
  change Host.Outcome.next (supervise 0x07 (configured s) 0 [] (fun x => .done [] (warmReset .command x)) s) = _
  rw [configured_eq_true state]
  exact congrArg Host.Outcome.next (supervise_done acts rfl rfl)

/-- Settles O4: the fall after a high level, the fall at power-on, and RESTART. -/
theorem warmResetsKeepAndClear : Obligations.WarmResetsKeepAndClear := by
  refine ⟨fun s => exec_resetNFall_high, fun s => exec_resetNFall_first, fun s acts state => ?_⟩
  exact ⟨_, exec_restart acts state, (warmReset_leaves .command s).mapPort (f := fun p => { p with
      response := { previous := .code 0x07, result := .done, crcFault := false, lengthFault := false, data := [] }
      frame := .closed }) rfl rfl,
    acts.1, rfl, rfl, rfl, rfl, rfl, rfl⟩

/-! ## Power-on -/

/-- Settles O2: every block of the reset state by its power-on value. -/
theorem resetIsPowerOnState : Obligations.ResetIsPowerOnState := by
  refine ⟨⟨rfl, rfl, rfl⟩, fun k => ?_, ⟨fun k => ?_, rfl, rfl⟩, fun k => ?_, ⟨rfl, rfl, rfl, rfl, rfl⟩, ⟨rfl, rfl⟩, rfl, rfl,
    ⟨rfl, rfl, rfl, rfl, fun k => ?_⟩, ⟨rfl, rfl, rfl, rfl, rfl, rfl, rfl⟩, rfl, ⟨rfl, rfl⟩, ⟨rfl, rfl⟩, rfl, rfl⟩
  · exact Vector.getElem_replicate k.isLt
  · exact Vector.getElem_replicate k.isLt
  · exact Vector.getElem_replicate k.isLt
  · exact Vector.getElem_replicate k.isLt

/-- Settles O55: the invariants of every step hold of the reset state. -/
theorem resetFits : Obligations.ResetFits := by
  obtain ⟨fits, store, retry⟩ := (sound_iff True State.reset).mp (sound_reset True)
  obtain ⟨directory, ranges, plans⟩ := dataSound_reset
  exact ⟨fits, store, (retry trivial).order, (retry trivial).near, directory, ranges, ⟨Nat.zero_le _, List.nodup_nil⟩,
    ⟨⟨fun _ => rfl, fun _ => rfl⟩, fun _ level => by cases level⟩, plans⟩

/-! ## The end of the hold, and the frames that a hold meets -/

section Hold

variable {s : State} {c : Instr} {code : Byte} {n : Nat} {p : List Byte}

/-- R186: the rise after another recognised level, or none. -/
theorem exec_resetNRise_new (new : s.life.recognised ≠ some true) : exec .resetNRise s = .next { s with
    pins := { s.pins with resetN := true },
    life := { s.life with held := false, sample := some true, recognised := some true } } :=
  congrArg Host.Outcome.next (levelComes_high new)

/-- R186: RESET_N coming to the level that is the recognised one. -/
theorem exec_level_recognised {level : Bool} (comes : (c = .resetNFall ∧ level = false) ∨ (c = .resetNRise ∧ level = true))
    (recognised : s.life.recognised = some level) :
    exec c s = .next { s with pins := { s.pins with resetN := level } } := by
  rcases comes with ⟨rfl, rfl⟩ | ⟨rfl, rfl⟩
  · exact congrArg Host.Outcome.next (levelComes_recognised recognised)
  · exact congrArg Host.Outcome.next (levelComes_recognised recognised)

/-- R174: select falls on a port with no frame. -/
theorem exec_frameStart (closed : s.port.frame = .closed) : exec .frameStart s = .next { s with port := { s.port with
    frame := if s.life.held then .ignored else .shifting (responseBytes s) } } := by
  change Host.Outcome.next _ = _
  rw [if_neg (not_not.mpr closed)]
  rfl

/-- R186: a station that is held executes no frame. -/
theorem exec_held (command : hostCommand c = some (code, n, p)) (held : s.life.held = true)
    (frame : s.port.frame ≠ .ignored) : exec c s = .next s := by
  obtain ⟨rule, eq⟩ := exec_hostCommand command s
  rw [eq, foundBy_held c held, supervise, frameEnds, if_neg frame, if_pos held]

/-- R186: a frame that a hold met is executed at no time. -/
theorem exec_ignored (command : hostCommand c = some (code, n, p)) (frame : s.port.frame = .ignored) :
    exec c s = .next { foundBy c s with port := { s.port with frame := .closed } } := by
  obtain ⟨rule, eq⟩ := exec_hostCommand command s
  obtain ⟨port, -⟩ := foundBy_keeps c s
  rw [eq, supervise_ignored _ _ _ _ _ _ (port ▸ frame), endFrame, State.mapPort, port]

/-- R171: fewer than 32 bits make fewer than four bytes. -/
theorem length_wholeBytes (bits : List Bool) : 8 * (wholeBytes bits).length ≤ bits.length := by
  induction bits using wholeBytes.induct with
  | case1 b7 b6 b5 b4 b3 b2 b1 b0 rest ih =>
    rw [wholeBytes]
    simp only [List.length_cons]
    omega
  | case2 bits short =>
    have none : wholeBytes bits = [] := by
      unfold wholeBytes
      split
      · exact absurd rfl (short _ _ _ _ _ _ _ _ _)
      · rfl
    simp [none]

/-- R172: fewer than four bytes are a LENGTH fault. -/
theorem transferFault_short {bytes : List Byte} (short : bytes.length < 4) : transferFault bytes = some .length := by
  simp [transferFault, short]

/-- R186: a faulty frame that a hold met makes no fault. -/
theorem exec_transferFault_ignored {bits : List Bool} (frame : s.port.frame = .ignored) (short : bits.length < 32) :
    exec (.transferFaultFrame bits) s = .next { s with port := { s.port with frame := .closed } } := by
  have fault : transferFault (wholeBytes bits) = some .length :=
    transferFault_short (by have := length_wholeBytes bits; omega)
  change execTransferFaultFrame bits s = _
  simp only [execTransferFaultFrame, fault, frameEnds, frame, if_true]
  rfl

/-- Settles O3: POWER-ON, the rise, a level that is no new one, and each way for a frame to meet a hold. -/
theorem powerOnAndEndOfHold : Obligations.PowerOnAndEndOfHold := by
  refine ⟨fun low s => rfl, fun s => exec_resetNRise_new, fun c level s => exec_level_recognised, fun s held closed => ?_,
    fun c code n p s command => ⟨exec_held command, exec_ignored command⟩, fun bits s => exec_transferFault_ignored⟩
  rw [exec_frameStart closed, if_pos held]

end Hold

end Sys2Proof.Machine
end

section
/-! The response that the supervisory port shifts out and the transfer faults of the bits it takes (R171, R172, R174 to
R176; O5). -/

namespace Sys2Proof.Machine

/-! ## The response -/

/-- R176: a flag of a status byte, by its weight. -/
theorem mul_flag (weight : Nat) (b : Bool) : weight * flag b = if b then weight else 0 := by cases b <;> simp [flag]

/-- R174, R176: the response as it stands, each flag by its weight. -/
theorem responseBytes_eq (s : State) : responseBytes s = withCrc (
    [ BitVec.ofNat 8 (stateCode s.life.state + 8 * resetCode s.life.lastReset
        + (if s.port.recordLost then 32 else 0) + (if s.port.busStuck then 64 else 0)
        + (if s.billing.walk = none then 0 else 128)),
      BitVec.ofNat 8 s.billing.queue.length,
      BitVec.ofNat 8 ((if s.port.response.crcFault then 1 else 0) + (if s.port.response.lengthFault then 2 else 0)
        + 16 * resultCode s.port.response.result),
      previousCode s.port.response.previous,
      BitVec.ofNat 8 s.port.response.data.length ] ++ s.port.response.data) := by
  have walking : (if s.billing.walk.isSome = true then 128 else 0) = if s.billing.walk = none then 0 else 128 := by
    cases s.billing.walk <;> rfl
  simp only [responseBytes, statusWord, mul_flag, walking, List.cons_append, List.nil_append]
  rfl

/-! ## The data output -/

section Output

variable {out : List Byte} {i j : Nat} {s : State}

/-- R171, R174: eight bits of the data output show the byte at their place, 0 past the CRC. -/
theorem dataOut_shifting (frame : s.port.frame = .shifting out) (small : j < 8) :
    dataOut s (8 * i + j) = some ((byteAt out i).getMsbD j) := by
  have place : (8 * i + j) / 8 = i ∧ (8 * i + j) % 8 = j := by omega
  simp only [dataOut, byteOut, frame, place.1, place.2, Option.map_some]

/-- R171: the most significant bit of a byte goes first. -/
theorem dataOut_byte (frame : s.port.frame = .shifting out) {b : Byte} (byte : out[i]? = some b) (small : j < 8) :
    dataOut s (8 * i + j) = some (b.getLsbD (7 - j)) := by
  have shown : byteAt out i = b := by rw [byteAt, List.getD_eq_getElem?_getD, byte, Option.getD_some]
  rw [dataOut_shifting frame small, shown, BitVec.getMsbD]
  simp [small]

/-- R174: past the CRC the bits are 0. -/
theorem dataOut_past (frame : s.port.frame = .shifting out) (past : out.length ≤ i) (small : j < 8) :
    dataOut s (8 * i + j) = some false := by
  have none : byteAt out i = 0 := by
    rw [byteAt, List.getD_eq_getElem?_getD, List.getElem?_eq_none past, Option.getD_none]
  rw [dataOut_shifting frame small, none]
  simp

/-- R171, R186: with select high, or in a frame that a hold met, the data output is released. -/
theorem dataOut_released (frame : s.port.frame = .closed ∨ s.port.frame = .ignored) (edges : Nat) :
    dataOut s edges = none := by
  rcases frame with closed | ignored
  · simp only [dataOut, byteOut, closed, Option.map_none]
  · simp only [dataOut, byteOut, ignored, Option.map_none]

end Output

/-! ## Transfer faults -/

section Faults

variable {bits part : List Bool} {bytes : List Byte} {s : State}

/-- R171: the eight bits of a byte, the most significant first. -/
theorem portBits_eq (bytes : List Byte) : portBits bytes = bytes.flatMap fun b =>
    [b.getLsbD 7, b.getLsbD 6, b.getLsbD 5, b.getLsbD 4, b.getLsbD 3, b.getLsbD 2, b.getLsbD 1, b.getLsbD 0] := rfl

/-- R171: the bits taken make the bytes they are of, and a partial byte at the end counts for none. -/
theorem wholeBytes_bits (short : part.length < 8) (taken : bits = portBits bytes ++ part) : wholeBytes bits = bytes := by
  rw [taken, wholeBytes_portBits, wholeBytes_partial short, List.append_nil]

/-- R172: LENGTH is judged first. -/
theorem transferFault_length (fault : bytes.length < 4 ∨ 32 < (byteAt bytes 1).toNat
    ∨ bytes.length < 4 + (byteAt bytes 1).toNat) : transferFault bytes = some .length := if_pos fault

/-- R172: then the two bytes after the parameters are judged as the CRC of those before. -/
theorem transferFault_crc {n : Nat} (length : n = (byteAt bytes 1).toNat) (fits : n ≤ 32) (whole : 4 + n ≤ bytes.length) :
    transferFault bytes =
      if (bytes.drop (2 + n)).take 2 = be2 (crc (bytes.take (2 + n))).toNat then none else some .crc := by
  subst length
  exact if_neg (by omega)

/-- R175: a frame with a transfer fault leaves a response of its flags. -/
theorem exec_transferFault {f : TransferFault} (acts : portActs s) (fault : transferFault (wholeBytes bits) = some f) :
    exec (.transferFaultFrame bits) s = .next { s with port := { s.port with
      response := { s.port.response with crcFault := f == .crc, lengthFault := f == .length }, frame := .closed } } := by
  obtain ⟨free, frame⟩ := acts
  change execTransferFaultFrame bits s = _
  simp only [execTransferFaultFrame, fault, frameEnds, frame, free, if_false, Bool.false_eq_true]
  rfl

/-- R172: a frame without one is its own command's. -/
theorem exec_transferFault_none (whole : transferFault (wholeBytes bits) = none) :
    exec (.transferFaultFrame bits) s = .next s := by
  change execTransferFaultFrame bits s = _
  simp only [execTransferFaultFrame, whole]

end Faults

/-- Settles O5: the response put together, the bits it shows, and the faults of the bytes taken. -/
theorem portFramesAreAnswered : Obligations.PortFramesAreAnswered := by
  refine ⟨fun s free closed body response => ?_, fun out i s frame => ⟨fun b byte j => dataOut_byte frame byte,
    fun past j => dataOut_past frame past⟩, fun edges s frame => dataOut_released frame edges,
    fun bits part bytes s acts short taken => ?_⟩
  · rw [exec_frameStart closed, responseBytes_eq, ← response, if_neg (by simp [free])]
    rfl
  · have made : wholeBytes bits = bytes := wholeBytes_bits short (by rw [taken, portBits_eq])
    refine ⟨fun fault => ?_, fun n length fits whole => ⟨fun differs => ?_, fun agrees => ?_⟩⟩
    · rw [exec_transferFault acts (by rw [made, transferFault_length fault])]
      rfl
    · rw [exec_transferFault acts (by rw [made, transferFault_crc length fits whole, if_neg differs])]
      rfl
    · exact exec_transferFault_none (by rw [made, transferFault_crc length fits whole, if_pos agrees])

end Sys2Proof.Machine
end

section
/-! LOAD-CONFIG (R180, R181, R190): the record that its 19 parameters give after the clamps, and the blocks that restart
(O7). -/

namespace Sys2Proof.Machine

/-! ## The fields of the record -/

section Fields

variable {p : List Byte}

/-- The bytes of a field, most significant first. -/
theorem field_two {n : Nat} (length : n + 2 ≤ p.length) :
    field p n 2 = 256 * (byteAt p n).toNat + (byteAt p (n + 1)).toNat := by
  have first : n < p.length := by omega
  have second : n + 1 < p.length := by omega
  rw [field, List.drop_eq_getElem_cons first, List.drop_eq_getElem_cons second, byteAt, byteAt,
    List.getD_eq_getElem _ _ first, List.getD_eq_getElem _ _ second]
  simp only [List.take_succ_cons, List.take_zero, numberOf, List.foldl_cons, List.foldl_nil]
  omega

/-- A number of two bytes as its bits. -/
theorem ofNat_two (a b : Byte) : BitVec.ofNat 16 (256 * a.toNat + b.toNat) = (a ++ b : BitVec 16) := by
  apply BitVec.eq_of_toNat_eq
  have high := a.isLt
  have low := b.isLt
  rw [BitVec.toNat_ofNat, BitVec.toNat_append, ← Nat.shiftLeft_add_eq_or_of_lt low, Nat.shiftLeft_eq]
  omega

/-- The low and the high byte of sixteen bits. -/
theorem getLsbD_two (a b : Byte) {k : Nat} (small : k < 8) :
    (a ++ b : BitVec 16).getLsbD k = b.getLsbD k ∧ (a ++ b : BitVec 16).getLsbD (k + 8) = a.getLsbD k := by
  refine ⟨BitVec.getLsbD_append.trans (if_pos small), BitVec.getLsbD_append.trans ?_⟩
  rw [if_neg (by omega), Nat.add_sub_cancel]

/-- R180: the mode byte. -/
theorem modeOf_byte {b : Byte} (small : b.toNat ≤ 1) : modeOf b.toNat = some (if b = 1 then .aligned else .free) := by
  have code : b.toNat = 0 ∨ b.toNat = 1 := by omega
  rcases code with zero | one
  · have value : b = 0 := BitVec.eq_of_toNat_eq zero
    rw [value]
    rfl
  · have value : b = 1 := BitVec.eq_of_toNat_eq one
    rw [value]
    rfl

theorem modeOf_none {n : Nat} (large : 1 < n) : modeOf n = none := by
  obtain ⟨m, rfl⟩ : ∃ m, n = m + 2 := ⟨n - 2, by omega⟩
  rfl

/-- R136: the bus rate byte. -/
theorem busRateOf_byte {b : Byte} (small : b.toNat ≤ 3) : busRateOf b.toNat =
    some (if b = 0 then .b62500 else if b = 1 then .b125000 else if b = 2 then .b250000 else .b500000) := by
  have code : b.toNat = 0 ∨ b.toNat = 1 ∨ b.toNat = 2 ∨ b.toNat = 3 := by omega
  have value (k : Byte) (eq : b.toNat = k.toNat) : b = k := BitVec.eq_of_toNat_eq eq
  rcases code with eq | eq | eq | eq
  · rw [value 0 eq]; rfl
  · rw [value 1 eq]; rfl
  · rw [value 2 eq]; rfl
  · rw [value 3 eq]; rfl

theorem busRateOf_none {n : Nat} (large : 3 < n) : busRateOf n = none := by
  obtain ⟨m, rfl⟩ : ∃ m, n = m + 4 := ⟨n - 4, by omega⟩
  rfl

/-- R180: the settings that a line byte gives. -/
def lineRead (b : Byte) : LineConfig :=
  { defaultRate := (lineRateOf (b.toNat % 4)).getD .r300, activeHigh := b.getLsbD 7 }

/-- R19: the codes 0 to 3 name the line rates. -/
theorem lineRateOf_mod (n : Nat) : ∃ r, lineRateOf (n % 4) = some r ∧ lineRateCode r = n % 4 := by
  have code : n % 4 = 0 ∨ n % 4 = 1 ∨ n % 4 = 2 ∨ n % 4 = 3 := by omega
  rcases code with eq | eq | eq | eq
  · rw [eq]; exact ⟨.r300, rfl, rfl⟩
  · rw [eq]; exact ⟨.r1200, rfl, rfl⟩
  · rw [eq]; exact ⟨.r2400, rfl, rfl⟩
  · rw [eq]; exact ⟨.r9600, rfl, rfl⟩

theorem lineRateCode_lineRead (b : Byte) : lineRateCode (lineRead b).defaultRate = b.toNat % 4 := by
  obtain ⟨r, rate, code⟩ := lineRateOf_mod b.toNat
  rw [lineRead, rate, Option.getD_some, code]

/-- R190: a line byte with bits 6-2 clear. -/
theorem lineConfigOf_good {b : Byte} (good : b.toNat / 4 % 32 = 0) : lineConfigOf b = some (lineRead b) := by
  obtain ⟨r, rate, -⟩ := lineRateOf_mod b.toNat
  rw [lineConfigOf, if_pos good, lineRead, rate]
  rfl

/-- R190: one with any of them set. -/
theorem lineConfigOf_bad {b : Byte} (bad : b.toNat / 4 % 32 ≠ 0) : lineConfigOf b = none := if_neg bad

/-- The eight line bytes stand from byte 10 on. -/
theorem lineBytes_eq (length : p.length = 19) :
    (p.drop 10).take 8 = List.ofFn fun k : Fin 8 => byteAt p (10 + k.val) := by
  refine List.ext_getElem (by simp [length]) fun i left right => ?_
  have small : i < 8 := by simpa using right
  have within : 10 + i < p.length := by omega
  rw [List.getElem_take, List.getElem_drop, List.getElem_ofFn, byteAt, List.getD_eq_getElem _ _ within]

theorem lineConfigsOf_good {bytes : Fin 8 → Byte} (good : ∀ k, (bytes k).toNat / 4 % 32 = 0) :
    lineConfigsOf (List.ofFn bytes) = some (Vector.ofFn fun k => lineRead (bytes k)) := by
  have each : (List.ofFn bytes).map lineConfigOf = List.ofFn fun k => some (lineRead (bytes k)) := by
    rw [List.map_ofFn]
    exact congrArg List.ofFn (funext fun k => lineConfigOf_good (good k))
  rw [lineConfigsOf, each]
  rfl

/-- R190: one bad line byte spoils all eight. -/
theorem lineConfigsOf_bad {bytes : List Byte} {b : Byte} (mem : b ∈ bytes) (bad : b.toNat / 4 % 32 ≠ 0) :
    lineConfigsOf bytes = none := by
  have spoiled : none ∈ bytes.map lineConfigOf := lineConfigOf_bad bad ▸ List.mem_map_of_mem mem
  unfold lineConfigsOf
  split
  · next eight =>
    rw [eight] at spoiled
    simp at spoiled
  · rfl

end Fields

/-! ## The record -/

section Record

variable {p : List Byte} {s : State}

/-- R180, R181: the record that the parameters give after the clamps, where every byte is within its values. -/
def configRead (p : List Byte) : StationConfig :=
  { station := (byteAt p 0).toNat
    airing := byteAt p 1 ≠ 0
    mode := if byteAt p 2 = 1 then .aligned else .free
    slotMask := byteAt p 3 ++ byteAt p 4
    slotTime := (byteAt p 5).toNat
    busRate := if byteAt p 6 = 0 then .b62500 else if byteAt p 6 = 1 then .b125000
      else if byteAt p 6 = 2 then .b250000 else .b500000
    presenceTimeout := max 1 (min 60 (byteAt p 7).toNat)
    replyTimeout := max 5 (byteAt p 8).toNat
    entryTimeout := max 1 (min 60 (byteAt p 9).toNat)
    lines := Vector.ofFn fun k : Fin 8 => lineRead (byteAt p (10 + k.val))
    minQuality := min 15 (byteAt p 18).toNat }

theorem readConfig_good (length : p.length = 19) (low : 1 ≤ (byteAt p 0).toNat) (high : (byteAt p 0).toNat ≤ 24)
    (mode : (byteAt p 2).toNat ≤ 1) (slotTime : 1 ≤ (byteAt p 5).toNat) (rate : (byteAt p 6).toNat ≤ 3)
    (lines : ∀ k : Fin 8, (byteAt p (10 + k.val)).toNat / 4 % 32 = 0) : readConfig p = some (configRead p) := by
  have mask : BitVec.ofNat 16 (field p 3 2) = (byteAt p 3 ++ byteAt p 4 : BitVec 16) := by
    rw [field_two (by omega), ofNat_two]
  unfold readConfig
  dsimp only
  simp only [field_one, mask]
  rw [if_pos ⟨low, high, by omega⟩, modeOf_byte mode, busRateOf_byte rate, lineBytes_eq length, lineConfigsOf_good lines]
  rfl

/-- R190: a byte outside its values. -/
theorem readConfig_bad (length : p.length = 19) (bad : (byteAt p 0).toNat = 0 ∨ 24 < (byteAt p 0).toNat
    ∨ 1 < (byteAt p 2).toNat ∨ (byteAt p 5).toNat = 0 ∨ 3 < (byteAt p 6).toNat
    ∨ ∃ k : Fin 8, (byteAt p (10 + k.val)).toNat / 4 % 32 ≠ 0) : readConfig p = none := by
  unfold readConfig
  dsimp only
  simp only [field_one]
  split
  · next numbers =>
    obtain ⟨low, high, slotTime⟩ := numbers
    rcases bad with bad | bad | mode | bad | rate | ⟨k, line⟩
    · omega
    · omega
    · rw [modeOf_none mode]
    · omega
    · rw [busRateOf_none rate]
      cases modeOf (byteAt p 2).toNat <;> rfl
    · have spoiled : lineConfigsOf ((p.drop 10).take 8) = none :=
        lineConfigsOf_bad (by rw [lineBytes_eq length]; exact List.mem_ofFn.mpr ⟨k, rfl⟩) line
      rw [spoiled]
      cases modeOf (byteAt p 2).toNat <;> cases busRateOf (byteAt p 6).toNat <;> rfl
  · rfl

/-! ## The command -/

/-- R180, R181: the ruling on the record. -/
def ruleConfig (p : List Byte) (s : State) : Ruling :=
  match readConfig p with
  | some c => .done [] (loadConfig c s)
  | none => .badParam

theorem exec_loadConfig (accepted : acceptedIn 0x01 s.life.state = true) (p : List Byte) :
    exec (.loadConfig p) s = .next (supervise 0x01 true 19 p (ruleConfig p) s) := by
  rw [← accepted]
  rfl

/-- R20: a line as LOAD-CONFIG leaves it. -/
theorem loadConfig_line (c : StationConfig) (s : State) (k : Fin 8) :
    (loadConfig c s).intake.lines[k.val] = restartLine s.intake.lines[k.val] := by
  simp [loadConfig]

/-- Settles O7: a record within its values is held after the clamps and the blocks restart, one outside them changes
nothing. -/
theorem loadConfigHoldsRecord : Obligations.LoadConfigHoldsRecord := by
  refine ⟨fun p s acts accepted length low high mode slotTime rate lines => ?_,
    fun p s acts accepted length bad => ?_⟩
  · have read := readConfig_good length low high mode slotTime rate lines
    have ruling : ruleConfig p s = .done [] (loadConfig (configRead p) s) := by rw [ruleConfig, read]
    refine ⟨configRead p, loadConfig (configRead p) s, ?_, rfl, rfl, by simp [configRead], by simp [configRead],
      fun k => getLsbD_two _ _ k.isLt, rfl, rfl, rfl, rfl, rfl, fun k => ?_, rfl, rfl, fun k => loadConfig_line _ s k, rfl⟩
    · rw [exec_loadConfig accepted, supervise_done acts length ruling]
    · have line : (configRead p).lines[k.val] = lineRead (byteAt p (10 + k.val)) := by simp [configRead]
      rw [line]
      exact ⟨lineRateCode_lineRead _, rfl⟩
  · have ruling : ruleConfig p s = .badParam := by rw [ruleConfig, readConfig_bad length bad]
    rw [exec_loadConfig accepted, supervise_badParam acts length ruling]

end Record

end Sys2Proof.Machine
end

section
/-! LOAD-RANGE (R5, R182; O9): a range inserted, changed or removed, and the cases of BAD-PARAM. -/

namespace Sys2Proof.Machine

section Ranges

variable {r x : Range} {after : List Range} {s : State}

/-! ## The held ranges beside the loaded one -/

theorem sameBounds_iff {a b : Range} : sameBounds a b = true ↔ a.first = b.first ∧ a.last = b.last := by
  simp [sameBounds]

theorem overlaps_iff {a b : Range} : overlaps a b = true ↔ a.first ≤ b.last ∧ b.first ≤ a.last := by
  simp [overlaps]

theorem any_sameBounds (r : Range) (m : List Range) :
    m.any (sameBounds r) = true ↔ ∃ x ∈ m, x.first = r.first ∧ x.last = r.last := by
  simp only [List.any_eq_true, sameBounds_iff, eq_comm (a := r.first), eq_comm (a := r.last)]

theorem any_overlaps (r : Range) (m : List Range) :
    m.any (overlaps r) = true ↔ ∃ x ∈ m, r.first ≤ x.last ∧ x.first ≤ r.last := by
  simp only [List.any_eq_true, overlaps_iff]

/-- R5: no two held ranges begin with one number. -/
theorem range_unique {m : List Range} (sound : MapSound m) {x y : Range} (mx : x ∈ m) (my : y ∈ m)
    (first : y.first = x.first) : y = x := by
  obtain ⟨i, hi, rfl⟩ := List.mem_iff_getElem.mp mx
  obtain ⟨j, hj, rfl⟩ := List.mem_iff_getElem.mp my
  have apart := List.pairwise_iff_getElem.mp sound.1
  have proper (k : Nat) (hk : k < m.length) := (sound.2 m[k] (List.getElem_mem hk)).1
  rcases Nat.lt_trichotomy j i with below | rfl | above
  · have before := apart j i hj hi below
    have := proper j hj
    omega
  · rfl
  · have before := apart i j hi hj above
    have := proper i hi
    omega

/-- R5: among the held ranges, the bounds of one are told by its first number. -/
theorem sameBounds_held {m : List Range} (sound : MapSound m) (held : x ∈ m) (first : x.first = r.first)
    (last : x.last = r.last) {y : Range} (mem : y ∈ m) : sameBounds r y = true ↔ y.first = x.first := by
  rw [sameBounds_iff, ← first, ← last]
  constructor
  · exact fun same => same.1.symm
  · intro begins
    rw [range_unique sound held mem begins]
    exact ⟨rfl, rfl⟩

/-- R5: a range takes its place among the others. -/
theorem perm_insertRange (r : Range) (m : List Range) : (insertRange r m).Perm (r :: m) := by
  induction m with
  | nil => exact .refl _
  | cons x rest ih =>
    unfold insertRange
    split
    · exact .refl _
    · exact (ih.cons x).trans (.swap r x rest)

/-! ## The map that a LOAD-RANGE leaves -/

/-- R182: bounds in the wrong order, or values out of range. -/
theorem newRanges_outside (outside : r.last < r.first ∨ 9999999 < r.last ∨ 24 < r.station) : newRanges r s = none :=
  if_pos outside

/-- R182: a range under bounds that no held one has. -/
theorem newRanges_new (within : ¬ (r.last < r.first ∨ 9999999 < r.last ∨ 24 < r.station))
    (new : ∀ x ∈ s.ranges, ¬ (x.first = r.first ∧ x.last = r.last)) : newRanges r s =
      if r.station = 0 then none else if s.ranges.any (overlaps r) = true then none
      else if Config.homeMapSize ≤ s.ranges.length then none else some (insertRange r s.ranges) := by
  have bounds : ¬ s.ranges.any (sameBounds r) = true := by
    rw [any_sameBounds]
    rintro ⟨x, mem, same⟩
    exact new x mem same
  unfold newRanges
  rw [if_neg within, if_neg bounds]

/-- R182: a new range is inserted while the map has room. -/
theorem newRanges_inserts (proper : r.first ≤ r.last) (last : r.last ≤ 9999999) (low : 1 ≤ r.station)
    (high : r.station ≤ 24) (apart : ∀ x ∈ s.ranges, r.last < x.first ∨ x.last < r.first) (room : s.ranges.length < 16) :
    newRanges r s = some (insertRange r s.ranges) := by
  have new : ∀ x ∈ s.ranges, ¬ (x.first = r.first ∧ x.last = r.last) := by
    intro x mem
    have := apart x mem
    omega
  have shares : ¬ s.ranges.any (overlaps r) = true := by
    rw [any_overlaps]
    rintro ⟨x, mem, before, after⟩
    have := apart x mem
    omega
  rw [newRanges_new (by omega) new, if_neg (by omega), if_neg shares]
  exact if_neg (Nat.not_le.mpr room)

/-- R182: a new range is not inserted at station 0, in a full map, or beside a held one that shares a number. -/
theorem newRanges_new_none (within : ¬ (r.last < r.first ∨ 9999999 < r.last ∨ 24 < r.station))
    (new : ∀ x ∈ s.ranges, ¬ (x.first = r.first ∧ x.last = r.last))
    (bad : r.station = 0 ∨ 16 ≤ s.ranges.length ∨ ∃ x ∈ s.ranges, r.first ≤ x.last ∧ x.first ≤ r.last) :
    newRanges r s = none := by
  rw [← any_overlaps] at bad
  rw [newRanges_new within new]
  split
  · rfl
  · next present =>
    split
    · rfl
    · next shares => exact if_pos ((bad.resolve_left present).resolve_right shares)

/-- R182: the map with a held range changed, or removed. -/
def changedRanges (x : Range) (station : Nat) (m : List Range) : List Range :=
  if station = 0 then m.filter fun y => y.first != x.first
  else m.map fun y => if y.first = x.first then { y with station := station } else y

/-- R182: a range loaded again under its own bounds. -/
theorem newRanges_again (sound : MapSound s.ranges) (held : x ∈ s.ranges) (first : x.first = r.first)
    (last : x.last = r.last) (station : r.station ≤ 24) : newRanges r s =
      if changeAllowed s (changedRanges x r.station s.ranges) = true then some (changedRanges x r.station s.ranges)
      else none := by
  obtain ⟨proper, within, -⟩ := sound.2 x held
  have bounds : s.ranges.any (sameBounds r) = true := (any_sameBounds r _).mpr ⟨x, held, first, last⟩
  have map : (if r.station = 0 then s.ranges.filter fun y => !sameBounds r y
      else s.ranges.map fun y => if sameBounds r y = true then { y with station := r.station } else y) =
      changedRanges x r.station s.ranges := by
    have same {y : Range} (mem : y ∈ s.ranges) := sameBounds_held sound held first last mem
    unfold changedRanges
    split
    · refine List.filter_congr fun y mem => ?_
      rw [Bool.eq_iff_iff, Bool.not_eq_true', Bool.eq_false_iff, Ne, same mem, bne_iff_ne]
    · refine List.map_congr_left fun y mem => ?_
      simp only [same mem]
  unfold newRanges
  rw [if_neg (by omega), if_pos bounds]
  dsimp only
  rw [map]

/-- R182: the change check. -/
theorem changeAllowed_iff (s : State) (after : List Range) : changeAllowed s after = true ↔
    ∀ r ∈ s.directory, inOwnRange s r.number = true → inOwnRange { s with ranges := after } r.number = true := by
  simp only [changeAllowed, List.all_eq_true, Bool.or_eq_true, displaced, Bool.not_eq_true', State.mapRanges]
  refine forall₂_congr fun r _ => ?_
  rw [← Bool.not_eq_true, imp_iff_not_or]

/-- R182: the change check forbids a change that would displace a record. -/
theorem changeAllowed_eq_false {after : List Range} (displaces : ∃ r ∈ s.directory, inOwnRange s r.number = true
    ∧ inOwnRange { s with ranges := after } r.number = false) : ¬ changeAllowed s after = true := by
  rw [changeAllowed_iff]
  obtain ⟨r, mem, own, lost⟩ := displaces
  exact fun allowed => by simp [allowed r mem own] at lost

/-! ## The command -/

variable {p : List Byte}

theorem exec_loadRange (accepted : acceptedIn 0x03 s.life.state = true) (p : List Byte) :
    exec (.loadRange p) s = .next (supervise 0x03 true 7 p (ruleRange p) s) := by
  rw [← accepted]
  rfl

/-- R182: a LOAD-RANGE that leaves a map. -/
theorem exec_loadRange_done (acts : portActs s) (accepted : acceptedIn 0x03 s.life.state = true) (length : p.length = 7)
    (carried : r = { first := field p 0 3, last := field p 3 3, station := (byteAt p 6).toNat })
    (map : newRanges r s = some after) :
    exec (.loadRange p) s = .next (answered (.code 0x03) .done [] { s with ranges := after }) := by
  have ruling : ruleRange p s = .done [] { s with ranges := after } := by
    simp only [ruleRange, field_one, ← carried, map]
    rfl
  rw [exec_loadRange accepted, supervise_done acts length ruling]

/-- R182: a LOAD-RANGE that leaves none. -/
theorem exec_loadRange_badParam (acts : portActs s) (accepted : acceptedIn 0x03 s.life.state = true)
    (length : p.length = 7) (carried : r = { first := field p 0 3, last := field p 3 3, station := (byteAt p 6).toNat })
    (none : newRanges r s = none) : exec (.loadRange p) s = .next (answered (.code 0x03) .badParam [] s) := by
  have ruling : ruleRange p s = .badParam := by simp only [ruleRange, field_one, ← carried, none]
  rw [exec_loadRange accepted, supervise_badParam acts length ruling]

/-- Settles O9: a new range, a range loaded again, and the cases that leave no map. -/
theorem loadRangeInsertsOrChanges : Obligations.LoadRangeInsertsOrChanges := by
  refine ⟨?_, ?_, ?_⟩
  · intro p r s acts accepted length carried proper last low high apart sound room
    have map := newRanges_inserts proper last low high apart room
    exact ⟨_, exec_loadRange_done acts accepted length carried map, perm_insertRange _ _, (newRanges_sound map).1 sound⟩
  · intro p x after s acts accepted length sound held first last station change
    obtain ⟨r, carried⟩ : ∃ r : Range, r = { first := field p 0 3, last := field p 3 3, station := (byteAt p 6).toNat } :=
      ⟨_, rfl⟩
    have map := newRanges_again (r := r) sound held (by rw [carried, first]) (by rw [carried, last])
      (by rw [carried]; exact station)
    have same : changedRanges x r.station s.ranges = after := by
      have zero : (byteAt p 6).toNat = 0 ↔ byteAt p 6 = 0 := BitVec.toNat_inj (y := 0)
      rw [change, carried]
      simp only [changedRanges, zero]
    rw [same] at map
    refine ⟨fun keeps => ?_, fun displaces => ?_⟩
    · exact exec_loadRange_done acts accepted length carried (map.trans (if_pos ((changeAllowed_iff s _).mpr keeps)))
    · exact exec_loadRange_badParam acts accepted length carried (map.trans (if_neg (changeAllowed_eq_false displaces)))
  · intro p r s acts accepted length carried bad
    refine exec_loadRange_badParam acts accepted length carried ?_
    by_cases outside : r.last < r.first ∨ 9999999 < r.last ∨ 24 < r.station
    · exact newRanges_outside outside
    · rcases bad with bad | bad | bad | bad | ⟨new, bad⟩
      · exact absurd (.inl bad) outside
      · omega
      · exact absurd (.inr (.inl bad)) outside
      · exact absurd (.inr (.inr bad)) outside
      · exact newRanges_new_none outside new bad

end Ranges

end Sys2Proof.Machine
end

section
/-! LOAD-SUBSCRIBER (R2 to R4, R183; O10): the static fields of a record replaced, a record inserted, NOT-NOW and the cases
of BAD-PARAM. -/

namespace Sys2Proof.Machine

section Load

variable {p : List Byte} {s : State}

/-! ## The parameters -/

/-- A number of so many bytes is less than their power of 256. -/
theorem numberOf_lt (bytes : List Byte) : numberOf bytes < 256 ^ bytes.length := by
  induction bytes using List.reverseRecOn with
  | nil => simp [numberOf]
  | append_singleton front b ih =>
    have small := b.isLt
    rw [numberOf] at ih ⊢
    rw [List.foldl_append, List.foldl_cons, List.foldl_nil, List.length_append, List.length_singleton, pow_succ]
    omega

theorem field_three_lt (p : List Byte) (n : Nat) : field p n 3 < 2 ^ 24 := by
  have length : ((p.drop n).take 3).length ≤ 3 := List.length_take_le _ _
  calc field p n 3 < 256 ^ ((p.drop n).take 3).length := numberOf_lt _
    _ ≤ 256 ^ 3 := Nat.pow_le_pow_right (by decide) length
    _ = 2 ^ 24 := by decide

/-- R3: a home zone set is empty when its three bytes are. -/
theorem zones_ne_zero : BitVec.ofNat 24 (field p 8 3) ≠ 0 ↔ field p 8 3 ≠ 0 := by
  have small := field_three_lt p 8
  rw [Ne, ← BitVec.toNat_inj, BitVec.toNat_ofNat, Nat.mod_eq_of_lt small]
  rfl

theorem subscriberStateOf_byte {b : Byte} {st : SubscriberState} (state : b = if st = .active then 0 else 1) :
    subscriberStateOf b.toNat = some st := by
  rw [state]
  cases st <;> rfl

theorem subscriberStateOf_none {n : Nat} (large : 2 ≤ n) : subscriberStateOf n = none := by
  obtain ⟨m, rfl⟩ : ∃ m, n = m + 2 := ⟨n - 2, by omega⟩
  rfl

/-- R183: the static fields that the parameters carry. -/
def subscriberRead (p : List Byte) (plan : Fin 16) (st : SubscriberState) : SubscriberLoad :=
  { number := field p 0 3, address := field p 3 3, plan := plan, state := st,
    homeZones := BitVec.ofNat 24 (field p 8 3), wideZones := BitVec.ofNat 24 (field p 11 3) }

/-- R183 check 1: every field within its values. -/
theorem readSubscriberLoad_good {st : SubscriberState} (number : field p 0 3 ≤ 9999999) (address : field p 3 3 ≤ 2097151)
    (plan : (byteAt p 6).toNat < 16) (zones : field p 8 3 ≠ 0) (state : byteAt p 7 = if st = .active then 0 else 1) :
    readSubscriberLoad p = some (subscriberRead p ⟨(byteAt p 6).toNat, plan⟩ st) := by
  unfold readSubscriberLoad
  dsimp only
  rw [if_pos ⟨number, address, zones_ne_zero.mpr zones⟩, field_one, subscriberStateOf_byte state]
  exact dif_pos plan

/-- R183 check 1: a field outside its values. -/
theorem readSubscriberLoad_bad (bad : 9999999 < field p 0 3 ∨ 2097151 < field p 3 3 ∨ 16 ≤ (byteAt p 6).toNat
    ∨ 2 ≤ (byteAt p 7).toNat ∨ field p 8 3 = 0) : readSubscriberLoad p = none := by
  unfold readSubscriberLoad
  dsimp only
  split
  · next within =>
    obtain ⟨number, address, zones⟩ := within
    rcases bad with bad | bad | plan | state | bad
    · omega
    · omega
    · split
      · exact dif_neg (Nat.not_lt.mpr plan)
      · rfl
    · rw [field_one, subscriberStateOf_none state]
    · exact absurd bad (zones_ne_zero.mp zones)
  · rfl

/-- R183: what is loaded is loaded for the number carried. -/
theorem readSubscriberLoad_number {l : SubscriberLoad} (load : readSubscriberLoad p = some l) :
    l.number = field p 0 3 := by
  unfold readSubscriberLoad at load
  dsimp only at load
  split at load
  · split at load
    · split at load
      · rw [← Option.some.inj load]
      · cases load
    · cases load
  · cases load

/-! ## The ruling -/

/-- R2: a record takes its place among the others. -/
theorem perm_insertRecord (r : Subscriber) (d : List Subscriber) : (insertRecord r d).Perm (r :: d) := by
  induction d with
  | nil => exact .refl _
  | cons x rest ih =>
    unfold insertRecord
    split
    · exact .refl _
    · exact (ih.cons x).trans (.swap r x rest)

variable {l : SubscriberLoad}

/-- R183: a number with a record. -/
theorem ruleSubscriber_held (sound : DirectorySound s.directory) (load : readSubscriberLoad p = some l)
    (held : ∃ r ∈ s.directory, r.number = l.number) : ruleSubscriber p s = .done [] { s with
      directory := s.directory.map fun r => if r.number ≠ l.number then r else reloadSubscriber l r } := by
  obtain ⟨r, mem, number⟩ := held
  obtain ⟨i, record⟩ := List.getElem?_of_mem mem
  have found : findRecord s l.number = some i := number ▸ findRecord_some sound record
  simp only [ruleSubscriber, load, found, modifyRecord, State.mapDirectory, modify_eq_map sound record, number, ite_not]

/-- R183: a new number that cannot be held. -/
theorem ruleSubscriber_homeless (load : readSubscriberLoad p = some l) (absent : ∀ r ∈ s.directory, r.number ≠ l.number)
    (homeless : inOwnRange s l.number = false ∨ 1024 ≤ s.directory.length) : ruleSubscriber p s = .badParam := by
  simp only [ruleSubscriber, load, findRecord_none absent]
  split
  · rfl
  · next own => exact if_pos (homeless.resolve_left own)

/-- R183: a new number that can be held. -/
theorem ruleSubscriber_new (load : readSubscriberLoad p = some l) (absent : ∀ r ∈ s.directory, r.number ≠ l.number)
    (own : inOwnRange s l.number = true) (room : s.directory.length < 1024) : ruleSubscriber p s =
      if s.billing.walk = none then .done [] { s with directory := insertRecord (newSubscriber l) s.directory }
      else .notNow := by
  have space : ¬ Config.directorySize ≤ s.directory.length := Nat.not_le.mpr room
  simp only [ruleSubscriber, load, findRecord_none absent, own, space, if_false, Bool.true_eq_false]
  cases s.billing.walk <;> rfl

/-! ## The command -/

/-- R173: a command accepted in every state, with its count of parameters, whose ruling is NOT-NOW. -/
theorem supervise_notNow {code : Byte} {count : Nat} {rule : State → Ruling} (acts : portActs s) (length : p.length = count)
    (ruling : rule s = .notNow) : supervise code true count p rule s = answered (.code code) .notNow [] s := by
  rw [supervise_eq _ _ _ _ _ _ acts, if_neg (by simp), if_neg (by simpa using length), ruling]

theorem exec_loadSubscriber (accepted : acceptedIn 0x04 s.life.state = true) (p : List Byte) :
    exec (.loadSubscriber p) s = .next (supervise 0x04 true 14 p (ruleSubscriber p) s) := by
  rw [← accepted]
  rfl

/-- Settles O10: a number with a record, a new one, and the cases that load none. -/
theorem loadSubscriberReplacesOrInserts : Obligations.LoadSubscriberReplacesOrInserts := by
  refine ⟨?_, ?_⟩
  · rintro p n plan st s acts accepted length sound rfl number address zones state
    have load := readSubscriberLoad_good number address plan zones state
    refine ⟨fun held => ?_, fun absent own room => ?_⟩
    · rw [exec_loadSubscriber accepted, supervise_done acts length (ruleSubscriber_held sound load held)]
      rfl
    · have ruling := ruleSubscriber_new load absent own room
      refine ⟨fun idle => ⟨_, ?_, ?_, perm_insertRecord _ _⟩, fun walking => ?_⟩
      · rw [if_pos idle] at ruling
        rw [exec_loadSubscriber accepted, supervise_done acts length ruling]
        rfl
      · exact pairwise_insertRecord sound.1 absent
      · rw [if_neg walking] at ruling
        rw [exec_loadSubscriber accepted, supervise_notNow acts length ruling]
  · rintro p n s acts accepted length sound rfl bad
    have ruling : ruleSubscriber p s = .badParam := by
      cases load : readSubscriberLoad p with
      | none => simp only [ruleSubscriber, load]
      | some l =>
        have fields : ¬ (9999999 < field p 0 3 ∨ 2097151 < field p 3 3 ∨ 16 ≤ (byteAt p 6).toNat ∨ 2 ≤ (byteAt p 7).toNat
            ∨ field p 8 3 = 0) := fun outside => by simp [readSubscriberLoad_bad outside] at load
        obtain ⟨absent, homeless⟩ : (∀ r ∈ s.directory, r.number ≠ field p 0 3)
            ∧ (inOwnRange s (field p 0 3) = false ∨ 1024 ≤ s.directory.length) := by tauto
        rw [← readSubscriberLoad_number load] at absent homeless
        exact ruleSubscriber_homeless load absent homeless
    rw [exec_loadSubscriber accepted, supervise_badParam acts length ruling]

end Load

end Sys2Proof.Machine
end

section
/-! READ-COUNTS (R184; O14): the six groups of figures in their layouts (R39, R86, R87, R102, R110, R130, R154, R169), and
that nothing but what the bus has brought by then is changed. -/

namespace Sys2Proof.Machine

section Groups

variable (s : State)

/-! ## The layout of each group (11_formats.md) -/

/-- R39: group INTAKE. -/
theorem intakeFigures_eq : intakeFigures s =
    (s.intake.lines.toList.flatMap fun l =>
      be2 l.counts.seizures ++ be2 l.counts.fallbacks ++ be2 l.counts.overruns ++ be2 l.counts.abandoned
        ++ be2 l.counts.badTaken ++ be1 (lineStateCode l.state) ++ be1 ((l.rate.map lineRateCode).getD 0xFF)
        ++ be1 (flag l.rateFallback) ++ be1 (flag l.overrun))
    ++ be2 s.intake.counts.accept ++ be2 s.intake.counts.unknown ++ be2 s.intake.counts.suspended
    ++ be2 s.intake.counts.quota ++ be2 s.intake.counts.noPriority ++ be2 s.intake.counts.busy
    ++ be2 s.intake.counts.unreachable ++ be2 s.intake.counts.badEntry ++ be2 s.intake.counts.timeout
    ++ be2 s.intake.counts.cancelDone ++ be2 s.intake.counts.cancelTooLate ++ be2 s.intake.counts.cancelUnknown
    ++ be2 s.intake.counts.cancelUnanswered := by
  simp only [List.append_assoc]
  rfl

/-- R86, R87: group AIR. -/
theorem airFigures_eq : airFigures s =
    be4 s.air.cycleCounts.cycles.toNat ++ be4 s.air.cycleCounts.pagesAired.toNat
    ++ be4 s.air.cycleCounts.cellsAired.toNat ++ be4 s.air.cycleCounts.idleCells.toNat
    ++ be4 s.air.cycleCounts.slotsSkipped.toNat ++ be4 s.air.cycleCounts.priorityPages.toNat
    ++ be2 s.air.counts.requestsAccepted ++ be2 s.air.counts.requestsMerged ++ be2 s.air.counts.refusedLeaving
    ++ be2 s.air.counts.refusedNotZone ++ be2 s.air.counts.refusedFull ++ be2 s.air.counts.withdrawnAtOnce
    ++ be2 s.air.counts.withdrawDeferred ++ be2 s.air.counts.withdrawUnknown ++ be2 s.air.counts.purged
    ++ be2 s.air.counts.marksSent ++ be2 s.air.counts.marksIgnored ++ be2 s.air.counts.unmarkedCycles
    ++ be1 s.air.regular.length ++ be1 s.air.priority.length ++ be1 (flag s.air.cycle.isSome) := by
  simp only [airFigures, counters, List.flatMap_cons, List.flatMap_nil, List.append_nil, List.append_assoc]

/-- R102, R110: group ACK-RETRY. -/
theorem ackFigures_eq : ackFigures s =
    be2 s.matcher.counts.reportsTaken ++ be2 s.matcher.counts.badReport ++ be2 s.matcher.counts.lowQuality
    ++ be2 s.matcher.counts.ignored ++ be2 s.matcher.counts.fifoFull ++ be2 s.matcher.counts.relayed
    ++ be2 s.matcher.counts.homeAbsent ++ be2 s.matcher.counts.purgedReports ++ be2 s.matcher.counts.heardTaken
    ++ be2 s.matcher.counts.misrouted ++ be2 s.matcher.counts.stale ++ be2 s.matcher.counts.ackClosed
    ++ be2 s.matcher.counts.ackTurned ++ be2 s.matcher.counts.ackDuplicate ++ be2 s.matcher.counts.ackDirect
    ++ be1 s.matcher.fifo.length ++ be2 s.store.scheduled ++ be2 s.store.released ++ be2 s.store.retry.length := by
  simp only [ackFigures, counters, List.flatMap_cons, List.flatMap_nil, List.append_nil, List.append_assoc]

/-- R154: the condition of the line. -/
theorem lineCondition_eq : lineCondition s = if s.bus.stopped = true then 3 else if s.bus.tx ≠ .idle then 4
    else if 11 < s.bus.run then 2 else if s.bus.rx ≠ none then 1 else 0 := by
  simp only [lineCondition, Option.isSome_iff_ne_none]

/-- R154: group BUS. -/
theorem busFigures_eq : busFigures s =
    be2 s.bus.counts.framesTaken ++ be2 s.bus.counts.framesSent ++ be2 s.bus.counts.lostArbitration
    ++ be2 s.bus.counts.txFaults ++ be2 s.bus.counts.framingErrors ++ be2 s.bus.counts.lengthErrors
    ++ be2 s.bus.counts.interrupted ++ be2 s.bus.counts.crcErrors ++ be2 s.bus.counts.badSource
    ++ be2 s.bus.counts.duplicateSource ++ be2 s.bus.counts.shortBreaks ++ be2 s.bus.counts.marksHeard
    ++ be2 s.bus.counts.stuckEvents ++ be2 s.bus.counts.answersDropped ++ be1 s.bus.answers.length
    ++ be1 s.bus.requests.length ++ be1 s.bus.waiting.length ++ be1 (flag s.bus.pendingMark)
    ++ be1 (if s.bus.stopped = true then 3 else if s.bus.tx ≠ .idle then 4 else if 11 < s.bus.run then 2
      else if s.bus.rx ≠ none then 1 else 0) := by
  rw [← lineCondition_eq]
  rfl

/-- R169: the entries held of a kind. -/
theorem heldOf_eq (k : EntryKind) : heldOf s k = s.exchange.table.countP fun e => e.key.kind == k :=
  List.countP_eq_length_filter.symm

/-- R169: group EXCHANGE. -/
theorem exchangeFigures_eq : exchangeFigures s =
    be2 s.exchange.counts.badKind ++ be2 s.exchange.counts.misaddressed ++ be2 s.exchange.counts.badPayload
    ++ be2 s.exchange.counts.notMember ++ be2 s.exchange.counts.late ++ be2 s.exchange.counts.replyTimeouts
    ++ be2 s.exchange.counts.sequenceSkips ++ be2 s.exchange.counts.peersTimedOut ++ be2 s.exchange.counts.leavesHeard
    ++ be2 s.exchange.counts.freshJoinsHeard ++ be2 s.exchange.counts.presenceSent
    ++ be1 (heldOf s .forward) ++ be1 (heldOf s .cancel) ++ be1 (heldOf s .airRequest) ++ be1 (heldOf s .withdraw)
    ++ [s.exchange.seq]
    ++ (s.exchange.presence.toList.flatMap fun p =>
      be1 (flag p.present) ++ be1 (flag p.airing) ++ be1 (reportedCode p.reported) ++ be4 p.lastHeard.toNat)
    ++ be1 (presenceWaiting s) ++ be1 (cfg s).presenceTimeout ++ be1 (cfg s).replyTimeout := rfl

/-! ## The length of each group -/

/-- Figures of one length, one after another. -/
theorem length_flatMap_const {α : Type} {f : α → List Byte} {n : Nat} (each : ∀ x, (f x).length = n) (xs : List α) :
    (xs.flatMap f).length = n * xs.length := by
  simp [List.length_flatMap, each, Nat.mul_comm]

theorem length_intakeFigures : (intakeFigures s).length = 138 := by
  have lines : (s.intake.lines.toList.flatMap lineFigures).length = 14 * 8 := by
    rw [length_flatMap_const (f := lineFigures) (n := 14) fun _ => rfl, Vector.length_toList]
  rw [intakeFigures, List.length_append, lines]
  rfl

theorem length_exchangeFigures : (exchangeFigures s).length = 198 := by
  have peers : (s.exchange.presence.toList.flatMap presenceFigures).length = 7 * 24 := by
    rw [length_flatMap_const (f := presenceFigures) (n := 7) fun _ => rfl, Vector.length_toList]
  simp only [exchangeFigures, List.length_append, peers]
  rfl

/-- R184: the group codes 0 to 5 have figures, each group of its length. -/
theorem figures_some {g : Nat} (known : g ≤ 5) :
    ∃ data, figures s g = some data ∧ [138, 51, 37, 8, 33, 198][g]? = some data.length := by
  have code : g = 0 ∨ g = 1 ∨ g = 2 ∨ g = 3 ∨ g = 4 ∨ g = 5 := by omega
  rcases code with rfl | rfl | rfl | rfl | rfl | rfl
  · exact ⟨_, rfl, congrArg some (length_intakeFigures s).symm⟩
  · exact ⟨_, rfl, rfl⟩
  · exact ⟨_, rfl, rfl⟩
  · exact ⟨_, rfl, rfl⟩
  · exact ⟨_, rfl, rfl⟩
  · exact ⟨_, rfl, congrArg some (length_exchangeFigures s).symm⟩

/-- R184: a group code outside the six. -/
theorem figures_none {g : Nat} (unknown : 5 < g) : figures s g = none := by
  obtain ⟨m, rfl⟩ : ∃ m, g = m + 6 := ⟨g - 6, by omega⟩
  rfl

end Groups

/-! ## The command -/

section Command

variable {g : Byte} {s : State}

theorem exec_readCounts (p : List Byte) (seen : LineSeen) (s : State) : exec (.readCounts p seen) s =
    .next (supervise 0x0C true 1 p (ruleCounts p) (atReading seen s)) := rfl

theorem ruleCounts_known {data : List Byte} (figured : figures s g.toNat = some data) :
    ruleCounts [g] s = .done data s := by
  have code : field [g] 0 1 = g.toNat := field_one _ _
  simp only [ruleCounts, code, figured]

theorem ruleCounts_unknown (unknown : figures s g.toNat = none) : ruleCounts [g] s = .badParam := by
  have code : field [g] 0 1 = g.toNat := field_one _ _
  simp only [ruleCounts, code, unknown]

/-- Settles O14: the ruling on the group code, and each group's layout. -/
theorem readCountsChangesNothing : Obligations.ReadCountsChangesNothing := by
  rintro g seen s t acts reading
  have bus : t = { s with bus := { s.bus with rx := t.bus.rx, run := t.bus.run, tx := t.bus.tx } } := by
    rw [reading]
    exact atReading_bus seen s
  have found : portActs t := reading ▸ portActs_foundBy (.readCounts [g] seen) acts
  refine ⟨bus, fun unknown => ?_, fun known => ?_⟩
  · rw [exec_readCounts, ← reading, supervise_badParam found List.length_singleton (ruleCounts_unknown (figures_none t unknown))]
  · obtain ⟨data, figured, length⟩ := figures_some t known
    refine ⟨data, ?_, length, fun code rate reported bit isCode isRate isReported isBit => ?_⟩
    · rw [exec_readCounts, ← reading, supervise_done found List.length_singleton (ruleCounts_known figured)]
    · obtain rfl : code = lineStateCode := isCode.trans (funext fun x => by cases x <;> rfl)
      obtain rfl : rate = lineRateCode := isRate.trans (funext fun x => by cases x <;> rfl)
      obtain rfl : reported = reportedCode := isReported.trans (funext fun x => by cases x <;> rfl)
      obtain rfl : bit = flag := isBit
      have group {k : Byte} {x : List Byte} (eq : g = k) (figures_ : figures t k.toNat = some x) : data = x := by
        subst eq
        exact Option.some.inj (figured.symm.trans figures_)
      clear isCode isRate isReported figured length found reading
      generalize t.bus.rx = rx, t.bus.run = run, t.bus.tx = tx at bus
      subst bus
      refine ⟨?_, ?_, ?_, ?_, ?_, ?_⟩
      · rintro eq n rfl
        exact (group eq rfl).trans (intakeFigures_eq _)
      · rintro eq n m rfl rfl
        exact (group eq rfl).trans (airFigures_eq _)
      · rintro eq n rfl
        exact (group eq rfl).trans (ackFigures_eq _)
      · intro eq
        refine ⟨s.billing.walk.getD (Config.idleWalkPosition s.tick).toNat, fun i walk => by rw [walk]; rfl, ?_⟩
        exact group eq rfl
      · rintro eq n rfl
        exact (group eq rfl).trans (busFigures_eq _)
      · rintro eq n own held rfl rfl rfl
        refine (group eq rfl).trans ((exchangeFigures_eq _).trans ?_)
        simp only [heldOf_eq]
        rfl

end Command

end Sys2Proof.Machine
end

section
/-! What the operations of the blocks leave of the queue of waiting commands: all of it. -/

namespace Sys2Proof.Machine

/-! ## The parts of the state that an operation keeps -/

section Parts

variable {s t : State}

/-- What an operation of the Page Store keeps, it keeps of the queue of commands. -/
theorem pending_of_outsideStore (h : outsideStore t = outsideStore s) : t.pending = s.pending :=
  congrArg (fun x => x.2.2.2.2.2.2.2) h

/-- What an operation of the bus keeps, it keeps of the queue of commands. -/
theorem pending_of_outsideBus (h : outsideBus t = outsideBus s) : t.pending = s.pending :=
  pending_of_outsideStore (outsideStore_of_outsideBus h)

/-- What an event that loads nothing keeps, it keeps of the queue of commands. -/
theorem pending_of_loaded (h : loaded t = loaded s) : t.pending = s.pending := congrArg (fun x => x.2.2.2.2.2) h

/-- A step on the bus keeps the queue of commands. -/
theorem BusStep.pending (h : BusStep s t) : t.pending = s.pending := pending_of_outsideBus h.outside

/-- An operation under a condition keeps the queue when it does so where the condition holds. -/
theorem pending_ite {c : Prop} [Decidable c] (h : t.pending = s.pending) :
    (if c then t else s).pending = s.pending := by
  split
  · exact h
  · rfl

end Parts

variable (s : State)

/-! ## Records, tables and counters -/

@[simp] theorem pending_withOffpeak (level : Bool) : (withOffpeak level s).pending = s.pending := rfl
@[simp] theorem pending_mapLine (k : Fin 8) (f : Line → Line) : (mapLine k f s).pending = s.pending := rfl
@[simp] theorem pending_mapIntakeCounts (f : IntakeCounts → IntakeCounts) :
    (mapIntakeCounts f s).pending = s.pending := rfl
@[simp] theorem pending_mapDelivery (k : Fin 256) (f : Delivery → Delivery) :
    (mapDelivery k f s).pending = s.pending := rfl
@[simp] theorem pending_setZone (k : Fin 256) (z : Nat) (st : ZoneState) : (setZone k z st s).pending = s.pending := rfl
@[simp] theorem pending_mapExchangeCounts (f : ExchangeCounts → ExchangeCounts) :
    (mapExchangeCounts f s).pending = s.pending := rfl
@[simp] theorem pending_mapBusCounts (f : BusCounts → BusCounts) : (mapBusCounts f s).pending = s.pending := rfl
@[simp] theorem pending_mapAirCounts (f : AirCounts → AirCounts) : (mapAirCounts f s).pending = s.pending := rfl
@[simp] theorem pending_mapMatcherCounts (f : MatcherCounts → MatcherCounts) :
    (mapMatcherCounts f s).pending = s.pending := rfl
@[simp] theorem pending_setPresence (n : Nat) (p : Presence) : (setPresence n p s).pending = s.pending :=
  (busStep_setPresence n p s).pending

/-! ## The queues of the bus and the outstanding table -/

@[simp] theorem pending_answerTo (k : FrameKind) (d : Nat) (q : Byte) (p : List Byte) :
    (answerTo k d q p s).pending = s.pending := (busStep_answerTo k d q p s).pending
@[simp] theorem pending_removeAnswers (f : Frame → Bool) : (removeAnswers f s).pending = s.pending := rfl
@[simp] theorem pending_refill : (refill s).pending = s.pending := rfl
@[simp] theorem pending_mapEntry (key : EntryKey) (f : Outstanding → Outstanding) :
    (mapEntry key f s).pending = s.pending := rfl
@[simp] theorem pending_freeEntry (key : EntryKey) : (freeEntry key s).pending = s.pending := rfl
@[simp] theorem pending_convertEntry (key : EntryKey) (k : EntryKind) (c : List Byte) :
    (convertEntry key k c s).pending = s.pending := (busStep_convertEntry key k c s).pending
@[simp] theorem pending_cancelForward (key : EntryKey) : (cancelForward key s).pending = s.pending :=
  pending_convertEntry s key .cancel [key.seq]
@[simp] theorem pending_makePresence (b : PresenceBody) : (makePresence b s).pending = s.pending :=
  pending_of_outsideBus (outsideBus_makePresence b s)
@[simp] theorem pending_ordinaryPresence : (ordinaryPresence s).pending = s.pending := pending_makePresence s _
@[simp] theorem pending_announceLeaving : (announceLeaving s).pending = s.pending := pending_makePresence _ _

/-! ## The Air Scheduler -/

@[simp] theorem pending_clearMark : (clearMark s).pending = s.pending := rfl
@[simp] theorem pending_startCycle : (startCycle s).pending = s.pending := rfl
@[simp] theorem pending_startNextFree : (startNextFree s).pending = s.pending := pending_ite (pending_startCycle s)

@[simp] theorem pending_takeMark : (takeMark s).pending = s.pending := by
  unfold takeMark
  split_ifs <;> rfl

@[simp] theorem pending_withdrawAir (t : Tag) (w : PendingWithdraw) : (withdrawAir t w s).pending = s.pending :=
  pending_of_outsideStore (outsideStore_withdrawAir t w s)
@[simp] theorem pending_admitAsk (ask : AirAsk) : (admitAsk ask s).pending = s.pending :=
  pending_of_outsideStore (outsideStore_admit ask s)

/-- R82: the reports and owed answers of a cycle, and its close. -/
@[simp] theorem pending_endCycle (y : Cycle) : (endCycle y s).pending = s.pending :=
  pending_of_outsideStore <| congrArg Prod.snd <|
    (besidesReports_makeOwed (makeReports y s)).trans (besidesReports_makeReports y s)

/-! ## The Page Store -/

@[simp] theorem pending_walkStep (i : Nat) : (walkStep i s).pending = s.pending :=
  pending_of_outsideStore (outsideStore_produceFor _ _ s)
@[simp] theorem pending_decideEntry (n : Nat) (c : MessageClass) (b : List Byte) (o : Option Origin) :
    (decideEntry n c b o s).pending = s.pending := pending_of_outsideStore (outsideStore_decideEntry n c b o s)
@[simp] theorem pending_endDelivery (k : Fin 256) (o : Terminal) : (endDelivery k o s).pending = s.pending :=
  pending_of_outsideStore (outsideStore_endDelivery k o s)
@[simp] theorem pending_closeAttempt (k : Fin 256) (o : AttemptOutcome) : (closeAttempt k o s).pending = s.pending :=
  pending_of_outsideStore (outsideStore_closeAttempt k o s)
@[simp] theorem pending_resolveZone (k : Fin 256) (z : Nat) (st : ZoneState) :
    (resolveZone k z st s).pending = s.pending :=
  pending_of_outsideStore (outsideStore_resolveZone k z st s)
@[simp] theorem pending_loseZone (k : Fin 256) (z : Nat) : (loseZone k z s).pending = s.pending :=
  pending_of_outsideStore (outsideStore_loseZone k z s)
@[simp] theorem pending_issueHead (k : Fin 256) (d : Delivery) : (issueHead k d s).pending = s.pending :=
  pending_of_outsideStore (outsideStore_issueHead k d s)
@[simp] theorem pending_issueHeads (fuel : Nat) : (issueHeads fuel s).pending = s.pending :=
  pending_of_outsideStore (outsideStore_issueHeads fuel s)

@[simp] theorem pending_expireLifetime (k : Fin 256) (d : Delivery) : (expireLifetime k d s).pending = s.pending := by
  unfold expireLifetime
  split <;> simp

/-! ## The Matcher -/

@[simp] theorem pending_matchReport (t : Tag) : (matchReport t s).pending = s.pending :=
  pending_of_loaded (loaded_matchReport t s)
@[simp] theorem pending_dropHead : (dropHead s).pending = s.pending := rfl

@[simp] theorem pending_routeHead (r : Report) : (routeHead r s).pending = s.pending := by
  unfold routeHead
  split_ifs <;> simp

@[simp] theorem pending_takeHeard (r : Report) : (takeHeard r s).pending = s.pending := by
  unfold takeHeard
  dsimp only
  split_ifs <;> simp

/-! ## The Intake Unit -/

@[simp] theorem pending_produceVerdict (k : Fin 8) (v : Verdict) : (produceVerdict k v s).pending = s.pending := rfl
@[simp] theorem pending_forwardEntry (k : Fin 8) (p : Nat) (ask : ForwardAsk) :
    (forwardEntry k p ask s).pending = s.pending := rfl
@[simp] theorem pending_recogniseSeize (k : Fin 8) : (recogniseSeize k s).pending = s.pending := rfl
@[simp] theorem pending_fallBack (k : Fin 8) : (fallBack k s).pending = s.pending := rfl

@[simp] theorem pending_recogniseRelease (k : Fin 8) : (recogniseRelease k s).pending = s.pending := by
  unfold recogniseRelease
  dsimp only
  rw [pending_mapLine]
  split <;> simp

@[simp] theorem pending_routeEntry (k : Fin 8) (ask : ForwardAsk) : (routeEntry k ask s).pending = s.pending := by
  unfold routeEntry
  split
  · simp
  · split
    · simp
    · simp
    · split_ifs <;> simp

@[simp] theorem pending_checkEntry (k : Fin 8) (e : EntryAssembly) : (checkEntry k e s).pending = s.pending := by
  unfold checkEntry
  split <;> simp

@[simp] theorem pending_assemble (k : Fin 8) (c : RxChar) : (assemble k s c).pending = s.pending := by
  unfold assemble
  split
  · exact pending_ite rfl
  · split <;> simp
  · rfl

/-- R26: characters that the assembler takes in turn. -/
@[simp] theorem pending_foldl_assemble (k : Fin 8) (cs : List RxChar) : (cs.foldl (assemble k) s).pending = s.pending :=
  foldl_keeps State.pending _ (fun u => pending_assemble u k) cs s

@[simp] theorem pending_leaveLookup (k : Fin 8) (v : Verdict) : (leaveLookup k v s).pending = s.pending :=
  (pending_ite (by simp)).trans (pending_produceVerdict s k v)

@[simp] theorem pending_forwardTimedOut (e : Outstanding) : (forwardTimedOut e s).pending = s.pending := by
  unfold forwardTimedOut
  dsimp only
  split
  · split_ifs <;> simp
  · simp

@[simp] theorem pending_feedAssembler (k : Fin 8) : (feedAssembler k s).pending = s.pending := by
  unfold feedAssembler
  split <;> simp

/-! ## The Exchange Unit -/

@[simp] theorem pending_completeEntry (e : Outstanding) : (completeEntry e s).pending = s.pending := by
  unfold completeEntry
  split
  · simp
  · simp
  all_goals split <;> simp

@[simp] theorem pending_completeKey (key : EntryKey) : (completeKey s key).pending = s.pending := by
  unfold completeKey
  split <;> simp

@[simp] theorem pending_completeKeys (keys : List EntryKey) : (completeKeys keys s).pending = s.pending := by
  have completed : (keys.foldl completeKey s).pending = s.pending :=
    foldl_keeps State.pending _ pending_completeKey keys s
  unfold completeKeys
  dsimp only
  split_ifs <;> simp [completed]

@[simp] theorem pending_freshJoin (n : Nat) : (freshJoin n s).pending = s.pending := by
  have purged : (purgeReports n (purgeAir n s)).pending = s.pending := rfl
  unfold freshJoin
  dsimp only
  split_ifs <;> simp [purged]

@[simp] theorem pending_takePresence (n : Nat) (b : PresenceBody) : (takePresence n b s).pending = s.pending := by
  unfold takePresence
  dsimp only
  split_ifs <;> simp

/-! ## Frames taken from the bus -/

/-- R140, R142, R163: taking a frame keeps the queue of commands when what is done with it does. -/
theorem pending_takeFrame (kind : Byte → Bool) (heard : List BusChar) {act : Received → State → State}
    (h : ∀ f s, (act f s).pending = s.pending) : (takeFrame kind heard act s).pending = s.pending := by
  unfold takeFrame
  split
  · next complete =>
    refine pending_ite ?_
    rw [h, ← (busStep_listen complete).pending]
    exact pending_setPresence ..
  · rfl

theorem pending_checked {α : Type} (f : Received) (content : Option α) {act : α → State → State}
    (h : ∀ x s, (act x s).pending = s.pending) : (checked f content act s).pending = s.pending := by
  unfold checked
  split
  · rfl
  · split
    · exact h _ s
    · rfl

theorem pending_membersOnly {act : State → State} (h : ∀ s, (act s).pending = s.pending) :
    (membersOnly act s).pending = s.pending := by
  unfold membersOnly
  split
  · exact h s
  · rfl

theorem pending_matched (f : Received) (kind : EntryKind) {act : Outstanding → State → State}
    (h : ∀ e s, (act e s).pending = s.pending) : (matched f kind act s).pending = s.pending := by
  unfold matched
  split
  · split
    · exact h _ s
    · rfl
  · rfl

@[simp] theorem pending_takeCancel (f : Received) (q : Byte) : (takeCancel f q s).pending = s.pending := by
  unfold takeCancel cancelOrigin
  dsimp only
  split <;> simp

@[simp] theorem pending_takeWithdraw (f : Received) (t : Tag) : (takeWithdraw f t s).pending = s.pending := by
  unfold takeWithdraw
  dsimp only
  split <;> simp

@[simp] theorem pending_takeTaken (code : Byte) (e : Outstanding) : (takeTaken code e s).pending = s.pending := by
  unfold takeTaken
  dsimp only
  split
  · split_ifs <;> simp
  · simp

@[simp] theorem pending_takeAirAnswer (code : AirCode) (e : Outstanding) :
    (takeAirAnswer code e s).pending = s.pending := by
  unfold takeAirAnswer
  split
  · rfl
  · split
    · rfl
    · split_ifs <;> simp

@[simp] theorem pending_takeWithdrawn (e : Outstanding) : (takeWithdrawn e s).pending = s.pending := by
  unfold takeWithdrawn
  split
  · rfl
  · exact pending_ite (by simp)

/-! ## The bus line -/

@[simp] theorem pending_endRun : (endRun s).pending = s.pending := (busStep_endRun s).pending
@[simp] theorem pending_giveUp : (giveUp s).pending = s.pending := (busStep_giveUp s).pending

@[simp] theorem pending_presenceWhole (f : Frame) (removed : Bool) :
    (presenceWhole f removed s).pending = s.pending := by
  have ended (u : State) : (endAnyCycle u).pending = u.pending := by
    unfold endAnyCycle
    split <;> simp
  unfold presenceWhole
  dsimp only
  split
  · split_ifs
    · rfl
    · rfl
    · exact ended _
    · rfl
  · rfl

@[simp] theorem pending_requestSent (f : Frame) (removed : Bool) : (requestSent f removed s).pending = s.pending := by
  unfold requestSent
  dsimp only
  rw [pending_refill]
  split_ifs
  · exact pending_presenceWhole ..
  · rfl
  · rfl

/-! ## The Supervisory Port -/

/-- R172, R186: a frame ends with the queue as it was when what it carries does nothing to it. -/
theorem pending_frameEnds {act : State → State} (h : (act s).pending = s.pending) :
    (frameEnds act s).pending = s.pending := by
  unfold frameEnds
  split_ifs
  · rfl
  · rfl
  · exact h

/-- A ruling of the checks 3 to 5 of R173 refuses, or its effect keeps the queue of commands. -/
def Ruling.KeepsQueue (s : State) : Ruling → Prop
  | .done _ after => after.pending = s.pending
  | .badParam | .notNow => True

/-- R173: a host's command whose ruling keeps the queue keeps it. -/
theorem pending_supervise {code : Byte} {accepted : Bool} {count : Nat} {params : List Byte} {rule : State → Ruling}
    (h : (rule s).KeepsQueue s) : (supervise code accepted count params rule s).pending = s.pending := by
  obtain ⟨u, f, eq, same | ⟨-, data, ruling⟩⟩ := supervise_cases code accepted count params rule s
  · rw [eq, same]
    rfl
  · rw [eq]
    rwa [ruling] at h

variable (p : List Byte)

theorem ruleRange_keepsQueue : (ruleRange p s).KeepsQueue s := by
  unfold ruleRange
  split
  · rfl
  · trivial

theorem ruleSubscriber_keepsQueue : (ruleSubscriber p s).KeepsQueue s := by
  unfold ruleSubscriber
  split
  · trivial
  · split
    · rfl
    · split_ifs
      · trivial
      · trivial
      · trivial
      · rfl

theorem ruleState_keepsQueue : (ruleState p s).KeepsQueue s := by
  unfold ruleState
  dsimp only
  split
  · split
    · rfl
    · trivial
  · trivial

theorem ruleRead_keepsQueue : (ruleRead p s).KeepsQueue s := by
  cases ruling : ruleRead p s with
  | done data after => exact congrArg State.pending (eq_of_ruleRead ruling)
  | badParam => trivial
  | notNow => trivial

theorem ruleTake_keepsQueue : (ruleTake p s).KeepsQueue s := by
  unfold ruleTake
  dsimp only
  split
  · rfl
  · trivial

theorem ruleClose_keepsQueue : (ruleClose s).KeepsQueue s := by
  unfold ruleClose
  split
  · trivial
  · rfl

theorem ruleCounts_keepsQueue : (ruleCounts p s).KeepsQueue s := by
  unfold ruleCounts
  split
  · rfl
  · trivial

theorem ruleClear_keepsQueue : (ruleClear p s).KeepsQueue s := by
  unfold ruleClear
  dsimp only
  split
  · rfl
  · trivial

/-- R168: LEAVING is entered. -/
theorem pending_startLeaving : (startLeaving s).pending = s.pending := by
  unfold startLeaving
  dsimp only
  split <;> simp

/-! ## RESET_N -/

/-- R186: the samples of a level of RESET_N. -/
theorem pending_levelComes (high : Bool) : (levelComes high s).pending = s.pending :=
  foldl_keeps State.pending _ (fun u level => (sampleReset_keeps u level).2.2) _ _

end Sys2Proof.Machine
end

section
/-! Every command answers with a next state and leaves the queue of waiting commands alone (O60). -/

namespace Sys2Proof.Machine

/-- A command answers with a next state that has the queue of waiting commands as it was. -/
def KeepsQueue (s : State) (o : Host.Outcome State Fault Refusal) : Prop := ∃ t, o = .next t ∧ t.pending = s.pending

theorem keepsQueue_next {s t : State} (h : t.pending = s.pending) : KeepsQueue s (.next t) := ⟨t, rfl, h⟩

/-- A command that acts on a condition, and otherwise leaves the state as it is. -/
theorem keepsQueue_ite {c : Prop} [Decidable c] {s t : State} (h : t.pending = s.pending) :
    KeepsQueue s (.next (if c then t else s)) := keepsQueue_next (pending_ite h)

/-- R173: a host's command. -/
theorem keepsQueue_supervise {code : Byte} {accepted : Bool} {count : Nat} {params : List Byte} {rule : State → Ruling}
    {s : State} (h : (rule s).KeepsQueue s) : KeepsQueue s (.next (supervise code accepted count params rule s)) :=
  keepsQueue_next (pending_supervise s h)

/-- R156, R157: a frame of a kind that only a member acts on. -/
theorem keepsQueue_memberFrame {α : Type} {kind : Byte → Bool} {heard : List BusChar} {content : Received → Option α}
    {act : Received → α → State → State} {s t : State} (same : t.pending = s.pending)
    (h : ∀ f x u, (act f x u).pending = u.pending) :
    KeepsQueue s (.next (takeFrame kind heard (fun f => checked f (content f) fun x => membersOnly (act f x)) t)) :=
  keepsQueue_next <| .trans
    (pending_takeFrame t kind heard fun f u => pending_checked u f _ fun x v => pending_membersOnly v (h f x)) same

/-- R156, R161: a frame that answers an outstanding entry. -/
theorem keepsQueue_replyFrame {α : Type} {kind : Byte → Bool} {heard : List BusChar} {content : Received → Option α}
    {entry : EntryKind} {act : α → Outstanding → State → State} {s t : State} (same : t.pending = s.pending)
    (h : ∀ x e u, (act x e u).pending = u.pending) :
    KeepsQueue s (.next (takeFrame kind heard (fun f => checked f (content f) fun x => matched f entry (act x)) t)) :=
  keepsQueue_next <| .trans
    (pending_takeFrame t kind heard fun f u => pending_checked u f _ fun x v => pending_matched v f entry (h x)) same

variable {s : State}

/-! ## The supervisory port and the period close -/

theorem keepsQueue_execFrameStart : KeepsQueue s (execFrameStart s) := by
  refine keepsQueue_next ?_
  split <;> rfl

theorem keepsQueue_execTransferFaultFrame {bits : List Bool} : KeepsQueue s (execTransferFaultFrame bits s) := by
  refine keepsQueue_next ?_
  split
  · exact pending_frameEnds s rfl
  · rfl

theorem keepsQueue_execUnknownCommand {code : Byte} {p : List Byte} : KeepsQueue s (execUnknownCommand code p s) := by
  refine keepsQueue_next ?_
  split
  · rfl
  · exact pending_frameEnds s rfl

theorem keepsQueue_execLoadConfig {p : List Byte} : KeepsQueue s (execLoadConfig p s) := by
  refine keepsQueue_supervise ?_
  split
  · rfl
  · trivial

theorem keepsQueue_execLoadPlan {p : List Byte} : KeepsQueue s (execLoadPlan p s) := by
  refine keepsQueue_supervise ?_
  split
  · rfl
  · trivial

theorem keepsQueue_execReadCounts {p : List Byte} {seen : LineSeen} : KeepsQueue s (execReadCounts p seen s) :=
  keepsQueue_next <| (pending_supervise _ (ruleCounts_keepsQueue _ p)).trans <|
    ((busStep_listenOn seen.heard s).trans (busStep_measureRun seen.run _)).pending

theorem keepsQueue_execPeriodCloseStep {offpeak : Bool} : KeepsQueue s (execPeriodCloseStep offpeak s) := by
  refine keepsQueue_next ?_
  split
  · rfl
  · exact pending_ite (by simp)

/-! ## The intake lines -/

theorem keepsQueue_execSeizeSample {k : Fin 8} {high : Bool} : KeepsQueue s (execSeizeSample k high s) := by
  refine keepsQueue_next ?_
  split_ifs <;> simp

/-! ## Frames taken from the bus -/

variable {offpeak : Bool} {heard : List BusChar}

theorem keepsQueue_execPresence : KeepsQueue s (execPresence offpeak heard s) := by
  refine keepsQueue_next <| (pending_takeFrame _ _ heard fun f u => ?_).trans (pending_withOffpeak s offpeak)
  split
  · simp
  · rfl

theorem keepsQueue_execFrameDroppedBySource {src : Byte} : KeepsQueue s (execFrameDroppedBySource src heard s) := by
  have dropped (j : SourceJudgement) (u : State) : (dropFrame j u).pending = u.pending := by cases j <;> rfl
  refine keepsQueue_next ?_
  split
  · next complete => exact pending_ite ((dropped _ _).trans (busStep_listen complete).pending)
  · rfl

theorem keepsQueue_execFrameDiscard : KeepsQueue s (execFrameDiscard heard s) := by
  refine keepsQueue_next ?_
  split
  · next t causes discarded =>
    split
    · rfl
    · exact ((busStep_listen discarded).trans (busStep_countDiscards causes t)).pending
  · rfl

/-! ## The bus line and its transmitter -/

theorem keepsQueue_execBreakHeard {bits : Nat} : KeepsQueue s (execBreakHeard bits s) := by
  refine keepsQueue_ite ?_
  split
  · exact ((busStep_endRun s).trans (busStep_endOwnRun _)).pending
  · simp

theorem keepsQueue_execTransmissionStart {gap : Nat} : KeepsQueue s (execTransmissionStart gap s) := by
  refine keepsQueue_ite ?_
  split
  · exact pending_ite rfl
  · exact pending_ite rfl
  · rfl

theorem keepsQueue_execFrameSent : KeepsQueue s (execFrameSent s) := by
  refine keepsQueue_next ?_
  split
  · rfl
  · split
    · rfl
    · exact pending_requestSent ..
    · rfl

/-! ## The Page Store, its timers and the outstanding table -/

theorem keepsQueue_execIssue : KeepsQueue s (execIssue offpeak s) := by
  refine keepsQueue_next ?_
  split <;> simp

theorem keepsQueue_execLifetimeExpiry {slot : Fin 256} : KeepsQueue s (execLifetimeExpiry offpeak slot s) := by
  refine keepsQueue_next ?_
  split
  · rfl
  · exact pending_ite (by simp)

theorem keepsQueue_execAckWaitExpiry {slot : Fin 256} : KeepsQueue s (execAckWaitExpiry offpeak slot s) := by
  refine keepsQueue_next ?_
  split
  · rfl
  · exact pending_ite (by simp)

theorem keepsQueue_execReplyTimeout {key : EntryKey} : KeepsQueue s (execReplyTimeout offpeak key s) := by
  refine keepsQueue_next ?_
  split
  · rfl
  · exact pending_ite (by simp)

/-! ## The Air Scheduler -/

theorem keepsQueue_execCycleTimerExpiry : KeepsQueue s (execCycleTimerExpiry s) := by
  refine keepsQueue_ite ?_
  unfold cycleTimerEffect
  split_ifs <;> rfl

theorem keepsQueue_execSlotStart {ready : Bool} : KeepsQueue s (execSlotStart ready s) := by
  refine keepsQueue_next ?_
  split <;> rfl

theorem keepsQueue_execCellHanded : KeepsQueue s (execCellHanded s) := by
  refine keepsQueue_next ?_
  split
  · rfl
  · split
    · rfl
    · exact pending_ite rfl

theorem keepsQueue_execCycleEnd : KeepsQueue s (execCycleEnd offpeak s) := by
  refine keepsQueue_next ?_
  split
  · rfl
  · exact pending_ite (by simp)

/-! ## The reverse port and the Matcher -/

variable {char : Byte} {framing : Bool}

theorem keepsQueue_execReverseReport : KeepsQueue s (execReverseReport char framing s) := by
  refine keepsQueue_next ?_
  split
  · rfl
  · split
    · exact pending_ite rfl
    · rfl

theorem keepsQueue_execShortReport : KeepsQueue s (execShortReport s) := by
  refine keepsQueue_next ?_
  split
  · rfl
  · split <;> rfl

theorem keepsQueue_execExtraReportCharacter : KeepsQueue s (execExtraReportCharacter s) := by
  refine keepsQueue_next ?_
  split
  · rfl
  · split <;> rfl

theorem keepsQueue_execReportCharacterReceived : KeepsQueue s (execReportCharacterReceived char framing s) := by
  refine keepsQueue_next ?_
  split
  · rfl
  · split
    · exact pending_ite rfl
    · rfl

theorem keepsQueue_execMatcherTakeHead : KeepsQueue s (execMatcherTakeHead offpeak s) := by
  refine keepsQueue_next ?_
  split
  · rfl
  · split <;> simp

theorem keepsQueue_execPresenceInterval : KeepsQueue s (execPresenceInterval s) := by
  refine keepsQueue_ite ?_
  dsimp only
  split <;> simp

/-! ## Every command -/

/-- Every command answers with a next state, in which the same commands wait. -/
theorem exec_keepsQueue (c : Instr) (s : State) : KeepsQueue s (exec c s) := by
  cases c with
  | powerOn => exact keepsQueue_next rfl
  | resetNFall => exact keepsQueue_next (pending_levelComes s false)
  | resetNRise => exact keepsQueue_next (pending_levelComes s true)
  | frameStart => exact keepsQueue_execFrameStart
  | transferFaultFrame => exact keepsQueue_execTransferFaultFrame
  | unknownCommand _ p => exact keepsQueue_execUnknownCommand (p := p)
  | poll => exact keepsQueue_supervise rfl
  | loadConfig => exact keepsQueue_execLoadConfig
  | loadPlan => exact keepsQueue_execLoadPlan
  | loadRange p => exact keepsQueue_supervise (ruleRange_keepsQueue s p)
  | loadSubscriber p => exact keepsQueue_supervise (ruleSubscriber_keepsQueue s p)
  | join => exact keepsQueue_supervise rfl
  | leave => exact keepsQueue_supervise (pending_startLeaving s)
  | restart => exact keepsQueue_supervise rfl
  | setState p => exact keepsQueue_supervise (ruleState_keepsQueue s p)
  | readSubscriber p => exact keepsQueue_supervise (ruleRead_keepsQueue s p)
  | takeRecords p => exact keepsQueue_supervise (ruleTake_keepsQueue s p)
  | closePeriod => exact keepsQueue_supervise (ruleClose_keepsQueue s)
  | readCounts => exact keepsQueue_execReadCounts
  | clearFaults p => exact keepsQueue_supervise (ruleClear_keepsQueue s p)
  | seizeRecognised => exact keepsQueue_ite (by simp)
  | releaseRecognised => exact keepsQueue_ite (by simp)
  | rateChosen => exact keepsQueue_ite (by simp)
  | measurementOverflow => exact keepsQueue_ite (by simp)
  | calibrationTimeout => exact keepsQueue_ite (by simp)
  | characterReceived => exact keepsQueue_ite (by simp)
  | entryTimeout => exact keepsQueue_ite (by simp)
  | verdictTransmission => exact keepsQueue_ite (by simp)
  | seizeSample => exact keepsQueue_execSeizeSample
  | calibrationFirstEdge => exact keepsQueue_ite (by simp)
  | forward => exact keepsQueue_memberFrame rfl (by simp [takeForward])
  | cancel => exact keepsQueue_memberFrame rfl (by simp)
  | airRequest => exact keepsQueue_memberFrame rfl (by simp [takeAirRequest])
  | withdraw => exact keepsQueue_memberFrame rfl (by simp)
  | aired =>
    exact keepsQueue_memberFrame rfl fun f tags u =>
      foldl_keeps State.pending _ (fun v tag => pending_of_outsideStore (outsideStore_takeAired _ v tag)) tags u
  | heard => exact keepsQueue_memberFrame rfl (by simp)
  | taken => exact keepsQueue_replyFrame rfl (by simp)
  | cancelAnswer =>
    exact keepsQueue_replyFrame
      (act := fun code e u => mapIntakeCounts (countCancel (cancelCodeOf code)) (freeEntry e.key u))
      rfl (by simp)
  | airAnswer => exact keepsQueue_replyFrame rfl (by simp)
  | withdrawn => exact keepsQueue_replyFrame (act := fun _ => takeWithdrawn) rfl (by simp)
  | presence => exact keepsQueue_execPresence
  | badKindFrame => exact keepsQueue_next (pending_takeFrame s _ _ (by simp))
  | frameDroppedBySource => exact keepsQueue_execFrameDroppedBySource
  | frameDiscard => exact keepsQueue_execFrameDiscard
  | breakHeard => exact keepsQueue_execBreakHeard
  | shortBreak => exact keepsQueue_ite (by simp)
  | stuckLine => exact keepsQueue_ite (busStep_stopBus s).pending
  | stoppedConditionEnd => exact keepsQueue_ite rfl
  | breakStart => exact keepsQueue_ite (by simp [driveBreak])
  | transmissionStart => exact keepsQueue_execTransmissionStart
  | frameSent => exact keepsQueue_execFrameSent
  | lostArbitration => exact keepsQueue_ite (by simp)
  | issue => exact keepsQueue_execIssue
  | lifetimeExpiry => exact keepsQueue_execLifetimeExpiry
  | ackWaitExpiry => exact keepsQueue_execAckWaitExpiry
  | replyTimeout => exact keepsQueue_execReplyTimeout
  | retryRelease => exact keepsQueue_ite (foldl_keeps State.pending releaseRetry (fun _ _ => rfl) _ s)
  | freeCycleStart => exact keepsQueue_next (by simp)
  | cycleTimerExpiry => exact keepsQueue_execCycleTimerExpiry
  | slotStart => exact keepsQueue_execSlotStart
  | cellHanded => exact keepsQueue_execCellHanded
  | cycleEnd => exact keepsQueue_execCycleEnd
  | reverseReport => exact keepsQueue_execReverseReport
  | shortReport => exact keepsQueue_execShortReport
  | extraReportCharacter => exact keepsQueue_execExtraReportCharacter
  | reportCharacterReceived => exact keepsQueue_execReportCharacterReceived
  | matcherTakeHead => exact keepsQueue_execMatcherTakeHead
  | presenceTimeout => exact keepsQueue_ite (by simp)
  | presenceInterval => exact keepsQueue_execPresenceInterval
  | listenTimer => exact keepsQueue_ite (by simp)
  | drain => exact keepsQueue_ite (by simp)
  | periodCloseStep => exact keepsQueue_execPeriodCloseStep

/-- Settles O60: by the command, whose effect is made of operations of the blocks that leave the queue alone. -/
theorem everyCommandAnswersNext : Obligations.EveryCommandAnswersNext := exec_keepsQueue

end Sys2Proof.Machine
end
